-- ==== Sys2Proof/Word.lean ====
section
/-! DEFINITION. The words of the Ulvin 4C20: bytes, tags, zone codes, and the units of time.
The plainest arithmetic only. -/

namespace Sys2Proof

/-- One byte of a segment, frame or message (chapter 1). -/
abbrev Byte := BitVec 8

/-- A station tag: 32 bits; 0 is no station (00_scope.md, "Station tag"). -/
abbrev Tag := BitVec 32

/-- A zone code: region in bits 23..18, district in 17..10, square in 9..0 (R12). -/
abbrev ZoneCode := BitVec 24

/-- An instant or a duration in microseconds, the finest unit the manual uses (00_scope.md, "Time"). -/
abbrev Micros := Nat

/-- Milliseconds in microseconds. -/
abbrev millis (n : Nat) : Micros := n * 1000

/-- Seconds in microseconds. -/
abbrev seconds (n : Nat) : Micros := n * 1000000

end Sys2Proof
end

