-- ==== Sys2Proof/Syntax.lean ====
section
/-! DEFINITION. The commands and events of the 4C20: one constructor of `Instr` for each row of
spec/opcode_table.json, with the operands the spec's own description gives it (log entry 11). -/

namespace Sys2Proof

/-- The name of an entry: table slot and generation (R2). A slot number above 31 can be sent; it is
refused. -/
structure Handle where
  slot : Nat
  gen : BitVec 8
  deriving DecidableEq, Repr, Inhabited

/-- Presentation class of a category (R15). -/
inductive PresentationClass where
  | mandatory | inArea | optional | silent
  deriving DecidableEq, Repr, Inhabited

/-- Relay class of a category (R15). -/
inductive RelayClass where
  | fast | normal | none
  deriving DecidableEq, Repr, Inhabited

/-- The three values a configuration record gives for a category (R181). A class outside its set is
carried as `none`; it is refused. -/
structure CategoryArg where
  precedence : Nat
  presentation : Option PresentationClass
  relay : Option RelayClass
  deriving DecidableEq, Repr

/-- The configuration record of CONFIGURE (R181). `none` is the marker "default"; for `dozeEnabled` it
is any value but YES and NO. -/
structure ConfigRecord where
  stationTag : Option Tag
  categories : List (Option CategoryArg)
  hopLimit : Option Nat
  threshold : Option Nat
  listenInterval : Option Nat
  awakeHold : Option Nat
  holdLimit : Option Nat
  zoneHold : Option Nat
  reportStep : Option Nat
  dozeEnabled : Option Bool
  deriving DecidableEq, Repr

/-- The argument of SET PARTICIPATION (R184): a setting, or any other value, which is refused. -/
inductive ParticipationArg where
  | full | listenOnly | other
  deriving DecidableEq, Repr

/-- One mark for each of the seven status flags (R178, R189). -/
structure Flags where
  rxOverrun : Bool
  damaged : Bool
  malformed : Bool
  noticeOverflow : Bool
  tableFull : Bool
  poolExhausted : Bool
  sendQueueFull : Bool
  deriving DecidableEq, Repr, Inhabited

/-- The two kinds of PAGE message (section 1.7). -/
inductive PageKind where
  | header | text
  deriving DecidableEq, Repr

/-- A frame of the sidelink: kind, sender tag, body and frame check (section 1.6). The body length byte
is the length of the body, which delimits the frame (R103). -/
structure Frame where
  kind : Byte
  sender : Tag
  body : List Byte
  check : BitVec 16
  deriving DecidableEq, Repr

/-- The commands and events of the part, one constructor for each row of spec/opcode_table.json. -/
inductive Instr where
  /-- POWER_ON_RESET (R178), with the level of the modem's ready line at the end of the reset (R165). -/
  | powerOnReset (modemReady : Bool)
  /-- CONFIGURE (R181, R182). -/
  | configure (record : ConfigRecord)
  /-- SET_POSITION (R69). -/
  | setPosition (zone : ZoneCode)
  /-- CLEAR_POSITION (R70). -/
  | clearPosition
  /-- SET_OPT_IN (R74): the mark of category c is bit c. -/
  | setOptIn (marks : BitVec 16)
  /-- SET_PARTICIPATION (R108). -/
  | setParticipation (setting : ParticipationArg)
  /-- ACKNOWLEDGE (R80). -/
  | acknowledge (handle : Handle)
  /-- READ_ALERT (R185). -/
  | readAlert (handle : Handle)
  /-- READ_TEXT (R186). -/
  | readText (handle : Handle) (index offset length : Nat)
  /-- LIST_ALERTS (R187). -/
  | listAlerts
  /-- FETCH_NOTICE (R191). -/
  | fetchNotice
  /-- READ_STATUS (R188). -/
  | readStatus
  /-- CLEAR_FLAGS (R189). -/
  | clearFlags (marks : Flags)
  /-- RESTART_LINK (R192). -/
  | restartLink
  /-- RESPONSE_READ (R179). -/
  | responseRead
  /-- LINK_RESET_LINE_ASSERTED (R192). -/
  | linkResetLineAsserted
  /-- LINK_RESET_LINE_RELEASED (R192). -/
  | linkResetLineReleased
  /-- PAGE (R167): the length byte of the envelope and the bytes the framing delivered (R11). -/
  | page (kind : PageKind) (length : Byte) (body : List Byte)
  /-- COVERAGE (R169). -/
  | coverage (length : Byte) (body : List Byte)
  /-- REPORT_DONE (R173). -/
  | reportDone (length : Byte) (body : List Byte)
  /-- REPORT_REFUSED (R174). -/
  | reportRefused (length : Byte) (body : List Byte)
  /-- MODEM_READY_DROP (R176). -/
  | modemReadyDrop
  /-- MODEM_READY_RISE (R176). -/
  | modemReadyRise
  /-- PAGE_FIFO_PROCESS (R168). -/
  | pageFifoProcess
  /-- ANSWER_TIMER_EXPIRY (R174). -/
  | answerTimerExpiry
  /-- FRAME_RECEIVED (R104), with the received signal level in dBm. -/
  | frameReceived (frame : Frame) (rssi : Int)
  /-- RX_FIFO_PROCESS (R105). -/
  | rxFifoProcess
  /-- CARRIER_BEGIN (R85). -/
  | carrierBegin
  /-- CARRIER_END (R85), with the number of bytes received of a frame that is not complete (R103). -/
  | carrierEnd (unfinished : Nat)
  /-- SYNC_DETECTED (R103). -/
  | syncDetected
  /-- QUIET_GAP_COMPLETE (R92). -/
  | quietGapComplete
  /-- HOLD_LIMIT_REACHED (R106). -/
  | holdLimitReached
  /-- CONTENTION_SLOT_END (R94). -/
  | contentionSlotEnd
  /-- PREAMBLE_END (R98). -/
  | preambleEnd
  /-- BURST_COMPLETION (R99). -/
  | burstCompletion
  /-- COLLECT_LIMIT (R36) of the entry in a table slot. -/
  | collectLimit (slot : Nat)
  /-- LIFETIME_EXPIRY (R44) of the entry in a table slot. -/
  | lifetimeExpiry (slot : Nat)
  /-- LINGER_EXPIRY (R46) of the entry in a table slot. -/
  | lingerExpiry (slot : Nat)
  /-- POSITION_STALE (R68). -/
  | positionStale
  /-- ASSEMBLY_LIMIT (R59) of an assembly slot. -/
  | assemblyLimit (slot : Nat)
  /-- RELAY_WAIT_EXPIRY (R129) of the entry in a table slot. -/
  | relayWaitExpiry (slot : Nat)
  /-- TALLY_WAIT_EXPIRY (R140) of the entry in a table slot. -/
  | tallyWaitExpiry (slot : Nat)
  /-- AWAKE_HOLD_RUN_OUT (R112). -/
  | awakeHoldRunOut
  /-- SAMPLE_WINDOW_OPEN (R115). -/
  | sampleWindowOpen
  /-- SAMPLE_WINDOW_CLOSE (R115). -/
  | sampleWindowClose
  /-- WAKE_PATTERN (R116). -/
  | wakePattern
  /-- WARM_UP_END (R118). -/
  | warmUpEnd
  /-- UNKNOWN_COMMAND (R180). -/
  | unknownCommand
  /-- FEED_MESSAGE_OTHER_KIND (R11): a message whose kind is not 1..5. -/
  | feedMessageOtherKind (kind : Byte) (length : Byte) (body : List Byte)
  deriving DecidableEq, Repr

end Sys2Proof
end

