-- ==== Sys2Proof/WellFormed.lean ====
section
/-! DEFINITION. When a command's operands are ones its sender can send. `exec` gives every term a
meaning; these checks say which terms stand for something that arrives at a port. -/

namespace Sys2Proof

/-- A frame the receiver can delimit: its body is as long as its length byte says (R103). -/
def Frame.delimited (f : Frame) : Bool := f.body.length ≤ 255

/-- The well-formedness of a command's operands. -/
def Instr.wellFormed : Instr → Bool
  | .powerOnReset _ => true
  | .configure r => r.categories.length == 16
  | .setPosition _ => true
  | .clearPosition => true
  | .setOptIn _ => true
  | .setParticipation _ => true
  | .acknowledge _ => true
  | .readAlert _ => true
  | .readText _ _ _ _ => true
  | .listAlerts => true
  | .fetchNotice => true
  | .readStatus => true
  | .clearFlags _ => true
  | .restartLink => true
  | .responseRead => true
  | .linkResetLineAsserted => true
  | .linkResetLineReleased => true
  | .page _ _ _ => true
  | .coverage _ _ => true
  | .reportDone _ _ => true
  | .reportRefused _ _ => true
  | .modemReadyDrop => true
  | .modemReadyRise => true
  | .pageFifoProcess => true
  | .answerTimerExpiry => true
  | .frameReceived f _ => f.delimited
  | .rxFifoProcess => true
  | .carrierBegin => true
  | .carrierEnd _ => true
  | .syncDetected => true
  | .quietGapComplete => true
  | .holdLimitReached => true
  | .contentionSlotEnd => true
  | .preambleEnd => true
  | .burstCompletion => true
  | .collectLimit slot => slot < 32
  | .lifetimeExpiry slot => slot < 32
  | .lingerExpiry slot => slot < 32
  | .positionStale => true
  | .assemblyLimit slot => slot < 8
  | .relayWaitExpiry slot => slot < 32
  | .tallyWaitExpiry slot => slot < 32
  | .awakeHoldRunOut => true
  | .sampleWindowOpen => true
  | .sampleWindowClose => true
  | .wakePattern => true
  | .warmUpEnd => true
  | .unknownCommand => true
  | .feedMessageOtherKind kind _ _ => kind == 0 || 5 < kind.toNat

end Sys2Proof
end

