-- ==== Sys2Proof/Decode.lean ====
section
/-! DEFINITION. The command a word spells by the bits of spec/opcode_table.json. The table gives bits for
no row (every row's "fields" is empty and none has "fixed"), and the manual gives no byte layout for
commands (chapter 10), so no word spells a command (log entry 13). -/

namespace Sys2Proof

/-- A row of the opcode table that gives bits: how many, the mask and value of its fixed bits, and the
command it spells. -/
structure DecodeRow where
  bits : Nat
  mask : Nat
  value : Nat
  command : Instr
  deriving DecidableEq, Repr

/-- The rows of spec/opcode_table.json that give bits: none. -/
def decodeRows : List DecodeRow := []

/-- The command that a word of `nbits` bits spells; `none` where no row's bits match. -/
def decodeTableWord (nbits w : Nat) : Option Instr :=
  (decodeRows.find? fun r => r.bits == nbits && (w &&& r.mask) == r.value).map DecodeRow.command

end Sys2Proof
end

