-- ==== Sys2Proof/Config.lean ====
section
/-! DEFINITION. What an implementation fixes and the manual leaves open: the free values of the model. -/

namespace Sys2Proof.Config

/-- FREE VALUE (log entry 3). The n-th choice among events that fall at one instant. The manual lets
either be taken first (R66, R73, R82, R102, R122, R137, R143, R164, R177, R193), so nothing is known of
this function. -/
opaque eventOrder : Nat → Nat

end Sys2Proof.Config
end

