-- ==== Sys2Proof/Machine/State.lean ====
section
/-! DEFINITION. The state of the 4C20, block by block as 00_scope.md ("Block overview") gives it, and its
value right after power-on reset. Plain data throughout. -/

namespace Sys2Proof.Machine

/-- No command or event stops the part: the manual gives each of them, in every state, an effect, a
refusal code in a response, a flag, or no effect. So there is no fault, which is safe. -/
inductive Fault where
  deriving DecidableEq, Repr

/-- Why the model gives a command no meaning. -/
inductive Refusal where
  /-- Raised by an arm of `exec` whose command has no meaning yet. Safe: it answers nothing. No arm
  raises it. -/
  | notModelled (mnemonic : String)
  deriving DecidableEq, Repr

/-! ### Alerts -/

/-- An alert identity: originator code and serial (R1). -/
structure Identity where
  originator : BitVec 16
  serial : BitVec 16
  deriving DecidableEq, Repr, Inhabited

/-- ALERT or CANCEL (section 1.3). -/
inductive Action where
  | alert | cancel
  deriving DecidableEq, Repr, Inhabited

/-- Where a segment came from: the page FIFO or the receive FIFO (R3). -/
inductive Origin where
  | cell | peer
  deriving DecidableEq, Repr, Inhabited

/-- Outcome of the area test (R13). -/
inductive AreaResult where
  | inside | outside | unknown
  deriving DecidableEq, Repr, Inhabited

/-- A block of the pool that holds a payload; its fill is the payload's length (R47). -/
structure Block where
  payload : List Byte
  deriving DecidableEq, Repr, Inhabited

/-- The state of a text record (R21); a COMPLETE text has its chain, in segment index order. -/
inductive TextState where
  | absent
  | collecting
  | complete (chain : List Block)
  | released
  deriving DecidableEq, Repr, Inhabited

/-- A text record of an entry (section 2.2). -/
structure TextRecord where
  lang : BitVec 16
  count : Nat
  state : TextState
  deriving DecidableEq, Repr, Inhabited

/-- The state of an entry (section 2.2), with the instant its collect timer or its linger timer
expires. -/
inductive EntryState where
  | collecting (limit : Micros)
  | presenting
  | held
  | acknowledged
  | cancelled
  | expired (lingerEnd : Micros)
  deriving DecidableEq, Repr, Inhabited

/-- Relay state (R124); WAITING carries the instant its wait timer expires. -/
inductive RelayState where
  | none
  | waiting (expiry : Micros)
  | queued
  | staged
  | sending
  | done
  | suppressed
  | withheld
  | dropped
  deriving DecidableEq, Repr, Inhabited

/-- Relay record of an entry (R123). -/
structure RelayRecord where
  state : RelayState
  update : Nat
  origin : Origin
  hop : Nat
  rssi : Option Int
  duplicates : Nat
  deriving DecidableEq, Repr, Inhabited

/-- Tally-send state (R138); WAITING carries the expiry instant of the wait. -/
inductive TallySendState where
  | idle
  | waiting (expiry : Micros)
  | queued
  | staged
  | sending
  deriving DecidableEq, Repr, Inhabited

/-- Tally-send record of an entry (R138). -/
structure TallySend where
  state : TallySendState
  lastSent : Option Micros
  resend : Bool
  deriving DecidableEq, Repr, Inhabited

/-- A tally (R144): a LIST of tags in ascending order, or a SKETCH of 32 ranks and a floor. -/
inductive Tally where
  | list (tags : List Tag)
  | sketch (ranks : List Nat) (floor : Nat)
  deriving DecidableEq, Repr, Inhabited

/-- An entry of the alert table (section 2.2). -/
structure Entry where
  id : Identity
  update : Nat
  action : Action
  category : Nat
  precedence : Nat
  origin : Origin
  zones : List ZoneCode
  area : AreaResult
  texts : List TextRecord
  /-- The instant the remaining lifetime reaches 0 (R43). -/
  lifetimeEnd : Micros
  state : EntryState
  presented : Bool
  ownAck : Bool
  partialMark : Bool
  /-- The instant the current update was accepted, for R20's acceptance order. -/
  accepted : Micros
  /-- The instant the entry entered ACKNOWLEDGED, for R20's acknowledgement order. -/
  acked : Option Micros
  relay : RelayRecord
  tallySend : TallySend
  tally : Tally
  /-- Last reported count (R170). -/
  lastReported : Nat
  deriving DecidableEq, Repr, Inhabited

/-- A table slot (R17): its generation, kept with and without an entry, and its entry. -/
structure TableSlot where
  gen : BitVec 8
  entry : Option Entry
  deriving DecidableEq, Repr, Inhabited

/-- Source of a position (R67). -/
inductive PositionSource where
  | application | feed
  deriving DecidableEq, Repr, Inhabited

/-- A position (R67); its age is counted from the instant it was written. -/
structure Position where
  zone : ZoneCode
  source : PositionSource
  written : Micros
  deriving DecidableEq, Repr, Inhabited

/-- An entry of the category map (R15). -/
structure CategoryEntry where
  precedence : Nat
  presentation : PresentationClass
  relay : RelayClass
  deriving DecidableEq, Repr, Inhabited

/-- State of the Alert Table controller. -/
structure Atc where
  table : List TableSlot
  position : Option Position
  map : List CategoryEntry
  optIn : BitVec 16
  deriving DecidableEq, Repr

/-! ### Assembly -/

/-- The key of an assembly slot (R49). -/
structure SlotKey where
  id : Identity
  update : Nat
  text : Nat
  deriving DecidableEq, Repr, Inhabited

/-- An open assembly slot (R49): `received` has one place for each segment index. -/
structure Slot where
  key : SlotKey
  count : Nat
  received : List (Option Block)
  firstSegment : Micros
  bound : Bool
  precedence : Nat
  deriving DecidableEq, Repr, Inhabited

/-- State of the Segment Assembler: the 8 assembly slots. The pool's blocks lie in the slots and in the
chains of the texts; the rest of the 128 are free (R47, log entry 6). -/
structure Sa where
  slots : List (Option Slot)
  deriving DecidableEq, Repr

/-! ### Sidelink -/

/-- Kind of a job (R86). -/
inductive JobKind where
  | relay | tally
  deriving DecidableEq, Repr, Inhabited

/-- An element of a job's frame list (R86): it names a frame and holds no bytes. -/
inductive FrameRef where
  | header
  | text (index segment : Nat)
  | tally
  deriving DecidableEq, Repr, Inhabited

/-- A job (R86). -/
structure Job where
  id : Identity
  kind : JobKind
  precedence : Nat
  update : Option Nat
  frames : List FrameRef
  queuedAt : Micros
  deriving DecidableEq, Repr, Inhabited

/-- The current job (R90): the frames not yet staged (R99), the end mark (R100), and whether its first
burst has won (R101). -/
structure CurrentJob where
  job : Job
  unstaged : List FrameRef
  endMark : Bool
  won : Bool
  deriving DecidableEq, Repr, Inhabited

/-- SHORT or LONG (R97). -/
inductive Preamble where
  | short | long
  deriving DecidableEq, Repr, Inhabited

/-- Medium state (R84). CONTEND carries the contention's key, its slot 1..16 and the instant the slot
ends; PREAMBLE and SEND carry the instant they end. -/
inductive Medium where
  | off
  | idle
  | defer
  | contend (key : BitVec 16) (slot : Nat) (slotEnd : Micros)
  | preamble (kind : Preamble) (ends : Micros)
  | send (ends : Micros)
  | receive
  | jammed
  | dozeSampling
  deriving DecidableEq, Repr, Inhabited

/-- A received frame with its clamped signal level (R104). -/
structure RxFrame where
  frame : Frame
  rssi : Int
  deriving DecidableEq, Repr

/-- State of the Sidelink Controller (chapter 5). -/
structure Slc where
  medium : Medium
  queue : List Job
  current : Option CurrentJob
  stage : List Frame
  losses : Nat
  rxFifo : List RxFrame
  lastActivity : Option Micros
  busyStart : Option Micros
  /-- The instant since which the channel has been quiet, or none (R85). -/
  quietSince : Option Micros
  /-- The transceiver's carrier input: when the carrier that is present began, or none. -/
  carrier : Option Micros
  deriving DecidableEq, Repr

/-! ### Power -/

/-- Power state (R111). -/
inductive Power where
  | awake | doze
  deriving DecidableEq, Repr, Inhabited

/-- Awake-hold timer (chapter 6). -/
inductive AwakeHold where
  | notStarted
  | running (expiry : Micros)
  | runOut
  deriving DecidableEq, Repr, Inhabited

/-- What a sample window is timing (R116): nothing counted, a mark, or the space after a mark. -/
inductive PairPhase where
  | waiting
  | mark (since : Micros)
  | space (since : Micros)
  deriving DecidableEq, Repr, Inhabited

/-- An open sample window (R115, R116). -/
structure Window where
  opened : Micros
  pairs : Nat
  phase : PairPhase
  deriving DecidableEq, Repr, Inhabited

/-- State of Power Control (chapter 6). -/
structure Pwc where
  power : Power
  hold : AwakeHold
  warmUp : Option Micros
  nextWindow : Option Micros
  window : Option Window
  deriving DecidableEq, Repr

/-! ### Feed port and reports -/

/-- A segment of the page FIFO (R165). -/
structure Page where
  kind : PageKind
  segment : List Byte
  deriving DecidableEq, Repr

/-- State of the Feed Port (R165). The part's ready line is `State.readyLine`. -/
structure Fp where
  pageFifo : List Page
  /-- ASSERTED is true. -/
  modemReady : Bool
  /-- PRESENT is true. -/
  coverage : Bool
  blocked : Bool
  deriving DecidableEq, Repr

/-- The outstanding-report record (R172); `expiry` is when its answer timer expires. -/
structure Outstanding where
  id : Identity
  handle : Handle
  count : Nat
  expiry : Micros
  deriving DecidableEq, Repr, Inhabited

/-- The Tally Unit's state beside the tallies and report records of the entries (R170, R172). An element
of the queue names its entry by its table slot. -/
structure Tu where
  reportQueue : List Nat
  outstanding : Option Outstanding
  deriving DecidableEq, Repr

/-! ### Application link -/

/-- FULL or LISTEN-ONLY (R108). -/
inductive Participation where
  | full | listenOnly
  deriving DecidableEq, Repr, Inhabited

/-- The configuration in force (R181), as taken; the category map is the ATC's. -/
structure Settings where
  tag : Tag
  hopLimit : Nat
  threshold : Nat
  /-- ms -/
  listenInterval : Nat
  /-- s -/
  awakeHold : Nat
  /-- ms -/
  holdLimit : Nat
  /-- min -/
  zoneHold : Nat
  reportStep : Nat
  doze : Bool
  deriving DecidableEq, Repr, Inhabited

/-- A notice (R190). -/
inductive Notice where
  | present (handle : Handle)
  | superseded (handle : Handle)
  | cancelled (handle : Handle)
  | expired (handle : Handle)
  | coverageChanged
  | mediumJammed
  | mediumClear
  | tableFull
  deriving DecidableEq, Repr, Inhabited

/-- Refusal codes of a response (R180). BUSY is not among them: it is an answer, not a response (R179). -/
inductive RefusalCode where
  | notConfigured
  | alreadyConfigured
  | staleHandle
  | wrongState
  | badArgument
  | textReleased
  deriving DecidableEq, Repr, Inhabited

/-- A state of an entry as it is reported (R185, R187). -/
inductive EntryStateName where
  | collecting | presenting | held | acknowledged | cancelled | expired
  deriving DecidableEq, Repr, Inhabited

/-- A relay state as it is reported (R185). -/
inductive RelayStateName where
  | none | waiting | queued | staged | sending | done | suppressed | withheld | dropped
  deriving DecidableEq, Repr, Inhabited

/-- A text state as it is reported, with the length of a COMPLETE text (R185). -/
inductive TextReport where
  | absent | collecting
  | complete (length : Nat)
  | released
  deriving DecidableEq, Repr, Inhabited

/-- A medium state as it is reported (R188). -/
inductive MediumName where
  | off | idle | defer | contend | preamble | send | receive | jammed | dozeSampling
  deriving DecidableEq, Repr, Inhabited

/-- Tally mode as it is reported (R185). -/
inductive TallyMode where
  | list | sketch
  deriving DecidableEq, Repr, Inhabited

/-- The summary record of READ ALERT (R185). -/
structure Summary where
  handle : Handle
  id : Identity
  update : Nat
  action : Action
  category : Nat
  precedence : Nat
  state : EntryStateName
  origin : Origin
  area : AreaResult
  zones : List ZoneCode
  lifetime : Nat
  texts : List (BitVec 16 × TextReport)
  partialMark : Bool
  ownAck : Bool
  relay : RelayStateName
  mode : TallyMode
  count : Nat
  deriving DecidableEq, Repr

/-- A position as it is reported: zone code, source and age in whole seconds (R67). -/
structure PositionReport where
  zone : ZoneCode
  source : PositionSource
  age : Nat
  deriving DecidableEq, Repr

/-- The status record of READ STATUS (R188). -/
structure StatusRecord where
  configured : Bool
  power : Power
  medium : MediumName
  coverage : Bool
  blocked : Bool
  position : Option PositionReport
  participation : Participation
  entries : Nat
  freeBlocks : Nat
  sendQueue : Nat
  outstanding : Option Identity
  flags : Flags
  deriving DecidableEq, Repr

/-- A response (R180, R184). -/
inductive Response where
  | refused (code : RefusalCode)
  | done
  | configured (settings : Settings) (categories : List CategoryEntry)
  | summary (record : Summary)
  | text (bytes : List Byte)
  | alerts (pairs : List (Handle × EntryStateName))
  | notice (notice : Option Notice)
  | status (record : StatusRecord)
  deriving DecidableEq, Repr

/-- State of the Application Link (R178). UNCONFIGURED is `config = none`. The notice line is
`State.noticeLine`. -/
structure Al where
  config : Option Settings
  response : Option Response
  notices : List Notice
  flags : Flags
  participation : Participation
  /-- The link reset line's level: asserted is true (R192). -/
  resetLine : Bool
  deriving DecidableEq, Repr

/-! ### Outputs -/

/-- What the part answers at once on the application link (R179). -/
inductive LinkAnswer where
  | busy
  | empty
  | response (r : Response)
  deriving DecidableEq, Repr

/-- A part of a preamble, as it lies on the air (R97): a run of mark–space pairs, each a mark and then a
space of the lengths given, or the sync. -/
inductive PreamblePart where
  | pairs (count : Nat) (mark space : Micros)
  | sync (length : Micros)
  deriving DecidableEq, Repr, Inhabited

/-- What the part sends on the air (R94, R97, R98). A preamble lists its parts in the order they are sent. -/
inductive AirSignal where
  | markTone (slot : Nat)
  | preamble (kind : Preamble) (parts : List PreamblePart)
  | burst (frames : List Frame)
  deriving DecidableEq, Repr

/-- The model's own: what the latest event put out at the three ports (log entry 10). -/
structure Outputs where
  link : Option LinkAnswer
  /-- The bytes of a REPORT message (R11). -/
  feed : Option (List Byte)
  air : List AirSignal
  deriving DecidableEq, Repr

/-! ### The whole part -/

/-- The state of the part, with the model's own clock, free-choice counter, waiting commands and latest
outputs. -/
structure State where
  now : Micros
  choice : Nat
  pending : List Instr
  out : Outputs
  atc : Atc
  sa : Sa
  slc : Slc
  pwc : Pwc
  fp : Fp
  tu : Tu
  al : Al
  deriving DecidableEq, Repr

/-- Nothing put out. -/
def Outputs.none : Outputs := ⟨Option.none, Option.none, []⟩

/-- All seven status flags clear (R178). -/
def Flags.clear : Flags := ⟨false, false, false, false, false, false, false⟩

/-- The category map after power-on reset (R15). -/
def defaultMap : List CategoryEntry :=
  [⟨15, .mandatory, .fast⟩, ⟨12, .inArea, .fast⟩, ⟨10, .inArea, .normal⟩, ⟨8, .inArea, .normal⟩,
   ⟨6, .optional, .normal⟩, ⟨3, .optional, .normal⟩, ⟨1, .silent, .normal⟩]
  ++ List.replicate 9 ⟨0, .optional, .none⟩

/-- The machine right after power-on reset: the table of section 10.9 and R17, R47, R67, R74, R84, R111,
R123, R144, R165, R178. DESIGN CHOICE (log entries 7, 8, 9): clock and choice counter 0, modem-ready DROPPED,
link reset line off, no carrier. -/
def State.reset : State where
  now := 0
  choice := 0
  pending := []
  out := Outputs.none
  atc :=
    { table := List.replicate 32 ⟨0, none⟩
      position := none
      map := defaultMap
      optIn := 0xFFFF }
  sa := { slots := List.replicate 8 none }
  slc :=
    { medium := .off
      queue := []
      current := none
      stage := []
      losses := 0
      rxFifo := []
      lastActivity := none
      busyStart := none
      quietSince := none
      carrier := none }
  pwc := { power := .awake, hold := .notStarted, warmUp := none, nextWindow := none, window := none }
  fp := { pageFifo := [], modemReady := false, coverage := false, blocked := false }
  tu := { reportQueue := [], outstanding := none }
  al :=
    { config := none
      response := none
      notices := []
      flags := Flags.clear
      participation := .full
      resetLine := false }

/-- The notice line: asserted while the notice queue is not empty (R190). -/
def State.noticeLine (s : State) : Bool := !s.al.notices.isEmpty

/-- The part's ready line: asserted while the part is configured and the page FIFO holds fewer than 8
segments (R167). -/
def State.readyLine (s : State) : Bool := s.al.config.isSome && decide (s.fp.pageFifo.length < 8)

end Sys2Proof.Machine
end

