-- ==== Sys2Proof/Machine/Flags.lean ====
section
/-! DEFINITION. The seven status flags (R189): setting and clearing. -/

namespace Sys2Proof.Machine

/-- RX-OVERRUN set (R104, R167). -/
def State.setRxOverrun (s : State) : State :=
  { s with al := { s.al with flags := { s.al.flags with rxOverrun := true } } }

/-- DAMAGED set (R9, R103). -/
def State.setDamaged (s : State) : State :=
  { s with al := { s.al with flags := { s.al.flags with damaged := true } } }

/-- MALFORMED set (R3, R11, R51, R52, R57). -/
def State.setMalformed (s : State) : State :=
  { s with al := { s.al with flags := { s.al.flags with malformed := true } } }

/-- NOTICE-OVERFLOW set (R190). -/
def State.setNoticeOverflow (s : State) : State :=
  { s with al := { s.al with flags := { s.al.flags with noticeOverflow := true } } }

/-- NOTICE-OVERFLOW cleared (R192). -/
def State.clearNoticeOverflow (s : State) : State :=
  { s with al := { s.al with flags := { s.al.flags with noticeOverflow := false } } }

/-- TABLE-FULL set (R32). -/
def State.setTableFull (s : State) : State :=
  { s with al := { s.al with flags := { s.al.flags with tableFull := true } } }

/-- POOL-EXHAUSTED set (R64). -/
def State.setPoolExhausted (s : State) : State :=
  { s with al := { s.al with flags := { s.al.flags with poolExhausted := true } } }

/-- SEND-QUEUE-FULL set (R88). -/
def State.setSendQueueFull (s : State) : State :=
  { s with al := { s.al with flags := { s.al.flags with sendQueueFull := true } } }

/-- The flags with the marked ones cleared (R189). -/
def clearMarked (flags marks : Flags) : Flags where
  rxOverrun := flags.rxOverrun && !marks.rxOverrun
  damaged := flags.damaged && !marks.damaged
  malformed := flags.malformed && !marks.malformed
  noticeOverflow := flags.noticeOverflow && !marks.noticeOverflow
  tableFull := flags.tableFull && !marks.tableFull
  poolExhausted := flags.poolExhausted && !marks.poolExhausted
  sendQueueFull := flags.sendQueueFull && !marks.sendQueueFull

end Sys2Proof.Machine
end

