-- ==== Sys2Proof/Machine/Operands.lean ====
section
/-! DEFINITION. The byte layouts of chapter 1: segments, frames, the frame check and feed messages, read and
built; and the zone codes with their area test. -/

namespace Sys2Proof.Machine

/-! ### Numbers in bytes: most significant byte first (R3) -/

/-- Bits 7..4 of a byte. -/
def hiNibble (b : Byte) : Nat := b.toNat / 16

/-- Bits 3..0 of a byte. -/
def loNibble (b : Byte) : Nat := b.toNat % 16

/-- The byte with the given nibbles. -/
def nibbles (hi lo : Nat) : Byte := BitVec.ofNat 8 (hi * 16 + lo)

/-- The two bytes of a 16-bit number. -/
def bytes16 (w : BitVec 16) : List Byte := [w.extractLsb' 8 8, w.extractLsb' 0 8]

/-- The three bytes of a 24-bit number. -/
def bytes24 (w : BitVec 24) : List Byte :=
  [w.extractLsb' 16 8, w.extractLsb' 8 8, w.extractLsb' 0 8]

/-- The four bytes of a 32-bit number. -/
def bytes32 (w : BitVec 32) : List Byte :=
  [w.extractLsb' 24 8, w.extractLsb' 16 8, w.extractLsb' 8 8, w.extractLsb' 0 8]

/-- The number whose digits in base `base`, most significant first, are `ds`. -/
def fromDigits (base : Nat) (ds : List Nat) : Nat := ds.foldl (fun acc d => acc * base + d) 0

/-- The `k` lowest digits of `n` in base `base`, most significant first. -/
def toDigits (base : Nat) : Nat → Nat → List Nat
  | 0, _ => []
  | k + 1, n => toDigits base k (n / base) ++ [n % base]

/-! ### Zone codes -/

/-- Levels from coarse to fine (R12). -/
inductive Level where
  | nation | region | district | square
  deriving DecidableEq, Repr, Inhabited

/-- The place of a level in the order from coarse to fine (R12). -/
def Level.rank : Level → Nat
  | .nation => 0
  | .region => 1
  | .district => 2
  | .square => 3

/-- Bits 23..18 (section 1.8). -/
def zoneRegion (z : ZoneCode) : Nat := (z.extractLsb' 18 6).toNat

/-- Bits 17..10 (section 1.8). -/
def zoneDistrict (z : ZoneCode) : Nat := (z.extractLsb' 10 8).toNat

/-- Bits 9..0 (section 1.8). -/
def zoneSquare (z : ZoneCode) : Nat := (z.extractLsb' 0 10).toNat

/-- A zone code that is not malformed (R12). -/
def zoneOk (z : ZoneCode) : Bool :=
  if zoneRegion z = 0 then zoneDistrict z == 0 && zoneSquare z == 0
  else zoneDistrict z != 0 || zoneSquare z == 0

/-- The level of a well-formed zone code (R12). -/
def zoneLevel (z : ZoneCode) : Level :=
  if zoneRegion z = 0 then .nation
  else if zoneDistrict z = 0 then .region
  else if zoneSquare z = 0 then .district
  else .square

/-- Whether a field that both zone codes specify differs between them (R13, third row). -/
def zonesDiffer (z p : ZoneCode) : Bool :=
  let both := min (zoneLevel z).rank (zoneLevel p).rank
  (1 ≤ both && zoneRegion z != zoneRegion p)
    || (2 ≤ both && zoneDistrict z != zoneDistrict p)
    || (3 ≤ both && zoneSquare z != zoneSquare p)

/-- The area test of one listed zone against the position (R13). -/
def zoneTest (position : Option ZoneCode) (z : ZoneCode) : AreaResult :=
  if zoneLevel z = .nation then .inside
  else
    match position with
    | none => .unknown
    | some p =>
      if zonesDiffer z p then .outside
      else if (zoneLevel z).rank ≤ (zoneLevel p).rank then .inside
      else .unknown

/-- The area result of a zone list (R14). -/
def areaTest (position : Option ZoneCode) (zones : List ZoneCode) : AreaResult :=
  if zones.any (fun z => zoneTest position z = .inside) then .inside
  else if zones.any (fun z => zoneTest position z = .unknown) then .unknown
  else .outside

/-! ### Header segments -/

/-- A text record as a header carries it: language code and segment count (section 1.3). -/
structure TextSpec where
  lang : BitVec 16
  count : Nat
  deriving DecidableEq, Repr, Inhabited

/-- The fields of a header segment (section 1.3). -/
structure HeaderSegment where
  id : Identity
  update : Nat
  action : Action
  category : Nat
  hop : Nat
  /-- minutes -/
  lifetime : Nat
  zones : List ZoneCode
  texts : List TextSpec
  deriving DecidableEq, Repr, Inhabited

/-- An originator code that R4, R6 and R7 accept. -/
def originatorOk (id : Identity) : Bool := id.originator != 0 && id.originator.toNat ≤ 4095

/-- The checks of R4 on the fields of a header, beside those of the action's bits and the length. -/
def headerOk (h : HeaderSegment) : Bool :=
  originatorOk h.id
    && h.lifetime != 0
    && 1 ≤ h.zones.length && h.zones.length ≤ 8
    && h.texts.length ≤ 4
    && (h.action == .cancel || h.texts.length != 0)
    && h.zones.all zoneOk
    && h.texts.all (fun t => 1 ≤ t.count && t.count ≤ 8)

/-- `n` zone codes and the bytes that follow them. -/
def readZones : Nat → List Byte → Option (List ZoneCode × List Byte)
  | 0, bytes => some ([], bytes)
  | n + 1, a :: b :: c :: bytes => (readZones n bytes).map fun r => ((a ++ b ++ c) :: r.1, r.2)
  | _ + 1, _ => none

/-- `n` text records and the bytes that follow them. -/
def readTextSpecs : Nat → List Byte → Option (List TextSpec × List Byte)
  | 0, bytes => some ([], bytes)
  | n + 1, a :: b :: c :: bytes =>
    (readTextSpecs n bytes).map fun r => (⟨a ++ b, c.toNat⟩ :: r.1, r.2)
  | _ + 1, _ => none

/-- The action that bits 7..4 of byte 4 name; none is malformed (R4). -/
def readAction (n : Nat) : Option Action :=
  if n = 0 then some .alert else if n = 1 then some .cancel else none

/-- The header segment of the given bytes, or none if it is malformed (R4). -/
def readHeader : List Byte → Option HeaderSegment
  | o1 :: o0 :: s1 :: s0 :: b4 :: b5 :: l1 :: l0 :: b8 :: rest =>
    match readAction (hiNibble b4), readZones (hiNibble b8) rest with
    | some action, some (zones, rest) =>
      match readTextSpecs (loNibble b8) rest with
      | some (texts, []) =>
        let h : HeaderSegment :=
          { id := ⟨o1 ++ o0, s1 ++ s0⟩, update := loNibble b4, action := action,
            category := hiNibble b5, hop := b5.toNat % 8, lifetime := (l1 ++ l0).toNat,
            zones := zones, texts := texts }
        if headerOk h then some h else none
      | _ => none
    | _, _ => none
  | _ => none

/-- The bytes of a text record of a header. -/
def textSpecBytes (t : TextSpec) : List Byte := bytes16 t.lang ++ [BitVec.ofNat 8 t.count]

/-- The bits of an action (section 1.3). -/
def actionBits : Action → Nat
  | .alert => 0
  | .cancel => 1

/-- The bytes of a header segment (section 1.3, R8). -/
def headerBytes (h : HeaderSegment) : List Byte :=
  bytes16 h.id.originator ++ bytes16 h.id.serial
    ++ [nibbles (actionBits h.action) h.update, nibbles h.category h.hop]
    ++ bytes16 (BitVec.ofNat 16 h.lifetime)
    ++ [nibbles h.zones.length h.texts.length]
    ++ h.zones.flatMap bytes24 ++ h.texts.flatMap textSpecBytes

/-- The header as the ATC receives it (R5): lifetime at most 1440 minutes, hop budget at most the hop
limit. -/
def HeaderSegment.taken (h : HeaderSegment) (hopLimit : Nat) : HeaderSegment :=
  { h with lifetime := min h.lifetime 1440, hop := min h.hop hopLimit }

/-! ### Text segments -/

/-- The fields of a text segment (section 1.4). -/
structure TextSegment where
  id : Identity
  update : Nat
  text : Nat
  index : Nat
  count : Nat
  payload : List Byte
  deriving DecidableEq, Repr, Inhabited

/-- The checks of R6 on the fields of a text segment, beside that of the length. -/
def textOk (t : TextSegment) : Bool :=
  originatorOk t.id
    && 1 ≤ t.count && t.count ≤ 8
    && t.index < t.count
    && 1 ≤ t.payload.length && t.payload.length ≤ 96
    && (t.index + 1 == t.count || t.payload.length == 96)

/-- The text segment of the given bytes, or none if it is malformed (R6). -/
def readText : List Byte → Option TextSegment
  | o1 :: o0 :: s1 :: s0 :: b4 :: b5 :: len :: payload =>
    let t : TextSegment :=
      { id := ⟨o1 ++ o0, s1 ++ s0⟩, update := loNibble b4, text := hiNibble b4 % 4,
        index := hiNibble b5, count := loNibble b5, payload := payload }
    if payload.length = len.toNat ∧ textOk t = true then some t else none
  | _ => none

/-- The bytes of a text segment (section 1.4, R8). -/
def textBytes (t : TextSegment) : List Byte :=
  bytes16 t.id.originator ++ bytes16 t.id.serial
    ++ [nibbles t.text t.update, nibbles t.index t.count, BitVec.ofNat 8 t.payload.length]
    ++ t.payload

/-! ### Tally segments -/

/-- The fields of a tally segment (section 1.5). -/
structure TallySegment where
  id : Identity
  tally : Tally
  deriving DecidableEq, Repr, Inhabited

/-- Each tag strictly greater than the one before it (R7, R145). -/
def ascending : List Tag → Bool
  | a :: b :: rest => decide (a < b) && ascending (b :: rest)
  | _ => true

/-- A tally that R7 accepts, which is also what R145 and R146 say of a tally the TU holds. -/
def tallyOk : Tally → Bool
  | .list tags => tags.length ≤ 24 && tags.all (· != 0) && ascending tags
  | .sketch ranks floor => floor ≤ 25 && ranks.length == 32 && ranks.all (· ≤ 16)

/-- `n` tags and the bytes that follow them. -/
def readTags : Nat → List Byte → Option (List Tag × List Byte)
  | 0, bytes => some ([], bytes)
  | n + 1, a :: b :: c :: d :: bytes =>
    (readTags n bytes).map fun r => ((a ++ b ++ c ++ d) :: r.1, r.2)
  | _ + 1, _ => none

/-- The 32 ranks of a 20-byte sketch, bucket 0 first (section 1.5). -/
def readRanks (bytes : List Byte) : List Nat :=
  toDigits 32 32 (fromDigits 256 (bytes.map BitVec.toNat))

/-- The 20 bytes of 32 ranks (section 1.5). -/
def rankBytes (ranks : List Nat) : List Byte :=
  (toDigits 256 20 (fromDigits 32 ranks)).map (BitVec.ofNat 8)

/-- The tally segment of the given bytes, or none if it is malformed (R7). -/
def readTally : List Byte → Option TallySegment
  | o1 :: o0 :: s1 :: s0 :: b4 :: rest =>
    let id : Identity := ⟨o1 ++ o0, s1 ++ s0⟩
    let n := b4.toNat % 32
    let tally : Option Tally :=
      if b4.toNat < 128 then
        match readTags n rest with
        | some (tags, []) => some (.list tags)
        | _ => none
      else if rest.length = 20 then some (.sketch (readRanks rest) n)
      else none
    match tally with
    | some t => if originatorOk id && tallyOk t then some ⟨id, t⟩ else none
    | none => none
  | _ => none

/-- The bytes of a tally segment (section 1.5, R8). -/
def tallyBytes (t : TallySegment) : List Byte :=
  bytes16 t.id.originator ++ bytes16 t.id.serial
    ++ match t.tally with
      | .list tags => BitVec.ofNat 8 tags.length :: tags.flatMap bytes32
      | .sketch ranks floor => BitVec.ofNat 8 (128 + floor) :: rankBytes ranks

/-! ### Frames -/

/-- One bit into the check register (R10). -/
def crcBit (reg : BitVec 16) (bit : Bool) : BitVec 16 :=
  if (reg.msb ^^ bit) then (reg <<< 1) ^^^ 0x1021 else reg <<< 1

/-- One byte into the check register, most significant bit first (R10). -/
def crcByte (reg : BitVec 16) (b : Byte) : BitVec 16 :=
  [7, 6, 5, 4, 3, 2, 1, 0].foldl (fun r i => crcBit r (b.getLsbD i)) reg

/-- The frame check of R10. -/
def crc (bytes : List Byte) : BitVec 16 := bytes.foldl crcByte 0xFFFF

/-- The bytes the frame check covers: kind, sender tag, body length and body (section 1.6). -/
def frameCovered (kind : Byte) (sender : Tag) (body : List Byte) : List Byte :=
  kind :: bytes32 sender ++ BitVec.ofNat 8 body.length :: body

/-- The bytes of a frame in the order they are sent (section 1.6). -/
def frameBytes (f : Frame) : List Byte := frameCovered f.kind f.sender f.body ++ bytes16 f.check

/-- Whether the received check equals the computed one (R9). -/
def frameCheckOk (f : Frame) : Bool := f.check == crc (frameCovered f.kind f.sender f.body)

/-- A frame the part sends (R8). -/
def makeFrame (kind : Byte) (tag : Tag) (body : List Byte) : Frame :=
  ⟨kind, tag, body, crc (frameCovered kind tag body)⟩

/-- Time on air of a frame: 32 µs for each of its 8 + b bytes (section 1.6). -/
def frameAirtime (f : Frame) : Micros := (8 + f.body.length) * 32

/-- A segment of one of the three kinds. -/
inductive Segment where
  | header (h : HeaderSegment)
  | text (t : TextSegment)
  | tally (t : TallySegment)
  deriving DecidableEq, Repr

/-- The segment of a received frame, or none if its envelope or segment is malformed (R9). -/
def readFrame (f : Frame) : Option Segment :=
  if f.body.length = 0 ∨ 103 < f.body.length ∨ f.sender = 0 then none
  else if f.kind = 1 then (readHeader f.body).map .header
  else if f.kind = 2 then (readText f.body).map .text
  else if f.kind = 3 then (readTally f.body).map .tally
  else none

/-- The signal level the part keeps (R9). -/
def clampRssi (r : Int) : Int := max (-130) (min r (-20))

/-! ### Feed messages -/

/-- A feed message whose envelope is sound (R11). -/
inductive FeedMessage where
  | page (kind : PageKind) (segment : List Byte)
  | coverageAbsent
  | coveragePresent (zone : ZoneCode)
  | reportDone (id : Identity)
  | reportRefused (id : Identity)
  deriving DecidableEq, Repr

/-- The body of a COVERAGE message (R11). -/
def readCoverage : List Byte → Option FeedMessage
  | [state] => if state = 0 then some .coverageAbsent else none
  | [state, a, b, c] =>
    if state = 1 ∧ zoneOk (a ++ b ++ c) = true then some (.coveragePresent (a ++ b ++ c)) else none
  | _ => none

/-- The body of an answer (R11). -/
def readAnswer : List Byte → Option Identity
  | [a, b, c, d] => some ⟨a ++ b, c ++ d⟩
  | _ => none

/-- The feed message of an envelope, or none if it is malformed (R11). -/
def readFeed (kind length : Byte) (body : List Byte) : Option FeedMessage :=
  if length.toNat ≠ body.length then none
  else if kind = 1 then some (.page .header body)
  else if kind = 2 then some (.page .text body)
  else if kind = 3 then readCoverage body
  else if kind = 4 then (readAnswer body).map .reportDone
  else if kind = 5 then (readAnswer body).map .reportRefused
  else none

/-- The kind byte of a PAGE message (section 1.7). -/
def pageKindByte : PageKind → Byte
  | .header => 1
  | .text => 2

/-- The bytes of a REPORT message: count, then the tally segment (section 1.7, R11). -/
def reportBytes (count : Nat) (t : TallySegment) : List Byte :=
  let body := bytes24 (BitVec.ofNat 24 count) ++ tallyBytes t
  [6, BitVec.ofNat 8 body.length] ++ body

end Sys2Proof.Machine
end

