-- ==== Sys2Proof/Machine/Tallies.lean ====
section
/-! DEFINITION. The arithmetic of tallies (chapter 8): bucket and rank of a tag, folding, adding, merging,
the covered test and the count. -/

namespace Sys2Proof.Machine

/-- The bucket of a tag (R147). -/
def tagBucket (t : Tag) : Nat := t.toNat % 32

/-- Trailing zero bits of a number, looking at `fuel` bits. -/
def trailingZeros : Nat → Nat → Nat
  | 0, _ => 0
  | fuel + 1, q => if q % 2 = 1 then 0 else 1 + trailingZeros fuel (q / 2)

/-- The rank of a tag (R147); q has at most 27 bits. -/
def tagRank (t : Tag) : Nat :=
  let q := t.toNat / 32
  if q = 0 then 16 else min 16 (1 + trailingZeros 27 q)

/-- A tag folded into the ranks of a sketch (R148). -/
def foldTag (ranks : List Nat) (t : Tag) : List Nat :=
  ranks.set (tagBucket t) (max (ranks.getD (tagBucket t) 0) (tagRank t))

/-- The ranks of an empty sketch. -/
def zeroRanks : List Nat := List.replicate 32 0

/-- A tag at its place in an ascending list (R145). -/
def insertTag (t : Tag) : List Tag → List Tag
  | [] => [t]
  | x :: xs => if t < x then t :: x :: xs else x :: insertTag t xs

/-- A tag added to a tally (R149, R150): inserted, converting at the 25th tag, or folded. -/
def addTag (tally : Tally) (t : Tag) : Tally :=
  match tally with
  | .list tags =>
    if t ∈ tags then .list tags
    else if tags.length < 24 then .list (insertTag t tags)
    else .sketch (foldTag (tags.foldl foldTag zeroRanks) t) 25
  | .sketch ranks floor => .sketch (foldTag ranks t) floor

/-- The sketch form of a list of tags (R148), which is also its conversion at a merge (R150). -/
def sketchForm (tags : List Tag) : Tally := .sketch (tags.foldl foldTag zeroRanks) tags.length

/-- Two sketches merged bucket by bucket (R153). -/
def mergeSketch (ranks : List Nat) (floor : Nat) (ranks' : List Nat) (floor' : Nat) : Tally :=
  .sketch (List.zipWith max ranks ranks') (max floor floor')

/-- A received tally merged into the own tally (R152, R153, R154). -/
def mergeTally (own received : Tally) : Tally :=
  match own, received with
  | .list tags, .list tags' => tags'.foldl addTag (.list tags)
  | .sketch ranks floor, .list tags' => .sketch (tags'.foldl foldTag ranks) (max floor tags'.length)
  | .list tags, .sketch ranks' floor' =>
    mergeSketch (tags.foldl foldTag zeroRanks) tags.length ranks' floor'
  | .sketch ranks floor, .sketch ranks' floor' => mergeSketch ranks floor ranks' floor'

/-- The covered test of R155, on the own tally after the merge and the tally received. -/
def coveredBy (own received : Tally) : Bool :=
  match own, received with
  | .sketch ranks floor, .list tags' => sketchForm tags' == .sketch ranks floor
  | own, received => own == received

/-- The sum S of R159. -/
def rankSum (ranks : List Nat) : Nat := (ranks.map fun r => 2 ^ (16 - r)).sum

/-- E_raw of R159. -/
def rawEstimate (ranks : List Nat) : Nat := 46792704 / rankSum ranks

/-- The table LC of R160, from V = 0 (not used) to V = 32. -/
def lcTable : List Nat :=
  [0, 111, 89, 76, 67, 59, 54, 49, 44, 41, 37, 34, 31, 29, 26, 24, 22]
  ++ [20, 18, 17, 15, 13, 12, 11, 9, 8, 7, 5, 4, 3, 2, 1, 0]

/-- The number of buckets of rank 0: V of R160. -/
def emptyBuckets (ranks : List Nat) : Nat := ranks.countP (· == 0)

/-- The estimate E of R160. -/
def estimate (ranks : List Nat) : Nat :=
  if rawEstimate ranks ≤ 80 ∧ 0 < emptyBuckets ranks then lcTable.getD (emptyBuckets ranks) 0
  else rawEstimate ranks

/-- The count of a tally (R158 to R161). -/
def tallyCount : Tally → Nat
  | .list tags => tags.length
  | .sketch ranks floor => max (min (estimate ranks) 1048575) floor

/-- The mode of a tally (R144). -/
def tallyMode : Tally → TallyMode
  | .list _ => .list
  | .sketch _ _ => .sketch

end Sys2Proof.Machine
end

