-- ==== Sys2Proof/Machine/Ops.lean ====
section
/-! DEFINITION. The operations every block shares: the clock, the configuration, the alert table's slots,
the outputs, the notice queue and Power Control's activity and wake causes. -/

namespace Sys2Proof.Machine

/-- What a command answers. -/
abbrev Result := Host.Outcome State Fault Refusal

/-! ### Clock and outputs -/

/-- The clock brought forward to an instant; it never goes back (log entry 4). -/
def State.advance (s : State) (t : Micros) : State := { s with now := max s.now t }

/-- The start of an event: nothing put out yet (log entry 10). -/
def State.begin (s : State) : State := { s with out := Outputs.none }

/-- An answer given at once on the application link (R179). -/
def State.answer (s : State) (a : LinkAnswer) : State := { s with out := { s.out with link := some a } }

/-- A signal sent on the air. -/
def State.emit (s : State) (a : AirSignal) : State :=
  { s with out := { s.out with air := s.out.air ++ [a] } }

/-! ### Configuration -/

/-- Values that stand for the configuration in force while there is none. No reachable event reads them:
nothing reaches the blocks before CONFIGURE (R183, log entry 14). -/
def noSettings : Settings where
  tag := 1
  hopLimit := 4
  threshold := 2
  listenInterval := 500
  awakeHold := 10
  holdLimit := 800
  zoneHold := 30
  reportStep := 10
  doze := false

/-- The configuration in force (R178). -/
def State.settings (s : State) : Settings := s.al.config.getD noSettings

/-- CONFIGURED (R178). -/
def State.configured (s : State) : Bool := s.al.config.isSome

/-- Participation is FULL (R108). -/
def State.fullPart (s : State) : Bool := s.al.participation == .full

/-- The category map's entry for a category (R15). -/
def State.category (s : State) (c : Nat) : CategoryEntry := s.atc.map.getD c ⟨0, .optional, .none⟩

/-! ### Table slots -/

/-- The entry in a table slot. -/
def State.entryAt (s : State) (i : Nat) : Option Entry := (s.atc.table[i]?).bind TableSlot.entry

/-- The generation of a table slot (R17). -/
def State.genAt (s : State) (i : Nat) : BitVec 8 := ((s.atc.table[i]?).map TableSlot.gen).getD 0

/-- The handle of a slot's current occupant (R2). -/
def State.handleAt (s : State) (i : Nat) : Handle := ⟨i, s.genAt i⟩

/-- The table changed. -/
def State.withTable (s : State) (t : List TableSlot) : State := { s with atc := { s.atc with table := t } }

/-- One table slot changed. -/
def State.modifySlot (s : State) (i : Nat) (f : TableSlot → TableSlot) : State :=
  s.withTable (s.atc.table.modify i f)

/-- The entry of a slot changed, if the slot holds one. -/
def State.modifyEntry (s : State) (i : Nat) (f : Entry → Entry) : State :=
  s.modifySlot i fun sl => { sl with entry := sl.entry.map f }

/-- Every entry of the table changed. -/
def State.mapEntries (s : State) (f : Entry → Entry) : State :=
  s.withTable (s.atc.table.map fun sl => { sl with entry := sl.entry.map f })

/-- The slot that holds the entry of an identity (R1, R17). -/
def State.slotOf (s : State) (id : Identity) : Option Nat :=
  s.atc.table.findIdx? fun sl => sl.entry.any fun e => e.id == id

/-- The occupied slots with their entries, in slot order. -/
def State.entries (s : State) : List (Nat × Entry) :=
  s.atc.table.zipIdx.filterMap fun p => p.1.entry.map fun e => (p.2, e)

/-- The number of a table slot a handle proceeds to (R2): the slot holds an entry of its generation. -/
def State.handleOk (s : State) (h : Handle) : Bool :=
  (s.entryAt h.slot).isSome && s.genAt h.slot == h.gen

/-- Whether the entry is COLLECTING. -/
def Entry.collecting (e : Entry) : Bool :=
  match e.state with
  | .collecting _ => true
  | _ => false

/-- Whether the entry is EXPIRED. -/
def Entry.isExpired (e : Entry) : Bool :=
  match e.state with
  | .expired _ => true
  | _ => false

/-- The state of an entry as it is reported. -/
def EntryState.name : EntryState → EntryStateName
  | .collecting _ => .collecting
  | .presenting => .presenting
  | .held => .held
  | .acknowledged => .acknowledged
  | .cancelled => .cancelled
  | .expired _ => .expired

/-- The remaining lifetime in whole seconds (R43); 0 in EXPIRED. -/
def Entry.remaining (e : Entry) (now : Micros) : Nat :=
  if e.isExpired then 0 else (e.lifetimeEnd - now) / 1000000

/-! ### Minimum of a list -/

/-- The first of the least elements of a list under a strict order. -/
def pickLeast {α : Type} (less : α → α → Bool) : List α → Option α
  | [] => none
  | x :: xs => some (xs.foldl (fun best y => if less y best then y else best) x)

/-- The strict lexicographic order of pairs of numbers. -/
def pairLess (a b : Nat × Nat) : Bool := a.1 < b.1 || (a.1 == b.1 && a.2 < b.2)

/-! ### Notices -/

/-- The notice queue changed. -/
def State.withNotices (s : State) (l : List Notice) : State := { s with al := { s.al with notices := l } }

/-- A notice queued (R190): merged, joined at the young end, or lost with NOTICE-OVERFLOW. -/
def State.queueNotice (s : State) (n : Notice) : State :=
  if n ∈ s.al.notices then s
  else if s.al.notices.length < 24 then s.withNotices (s.al.notices ++ [n])
  else s.setNoticeOverflow

/-! ### Power Control -/

/-- The awake-hold timer set. -/
def State.withHold (s : State) (h : AwakeHold) : State := { s with pwc := { s.pwc with hold := h } }

/-- A wake cause (R117, R118): in DOZE the first one starts the 2 ms warm-up, removes the sample schedule
and closes an open window. -/
def State.wakeCause (s : State) : State :=
  if s.pwc.power = .doze ∧ s.pwc.warmUp = none then
    { s with pwc := { s.pwc with warmUp := some (s.now + millis 2), nextWindow := none, window := none } }
  else s

/-- The awake-hold timer restarted at its full duration (R112). It does not run before CONFIGURE has
started it (log entry 14). -/
def State.restartHold (s : State) : State :=
  if s.configured then s.withHold (.running (s.now + seconds s.settings.awakeHold)) else s

/-- An activity report of FP or AL (R112, R117). -/
def State.activity (s : State) : State :=
  match s.pwc.power with
  | .awake => s.restartHold
  | .doze => s.wakeCause

end Sys2Proof.Machine
end

