-- ==== Sys2Proof/Machine/Medium.lean ====
section
/-! DEFINITION. The operations of the Sidelink Controller that several events share (chapter 5), with the
reports the Relay Scheduler takes from them (R132, R140): placing a job, taking the head, staging, waiting
in DEFER, contending, jamming, ending and cutting. -/

namespace Sys2Proof.Machine

/-- The Sidelink Controller's state changed. -/
def State.withSlc (s : State) (x : Slc) : State := { s with slc := x }

/-- The medium state changed. -/
def State.withMedium (s : State) (m : Medium) : State := s.withSlc { s.slc with medium := m }

/-- The current job changed. -/
def State.withCurrent (s : State) (c : Option CurrentJob) : State := s.withSlc { s.slc with current := c }

/-- The send queue changed. -/
def State.withQueue (s : State) (q : List Job) : State := s.withSlc { s.slc with queue := q }

/-! ### What the SLC hears (R85) -/

/-- The station itself is sending: a mark tone, a preamble or a burst (R85, R94). -/
def Medium.sending : Medium → Bool
  | .contend key slot _ => key.getLsbD (16 - slot)
  | .preamble _ _ => true
  | .send _ => true
  | _ => false

/-- A burst is on the air: from the win to its completion (R98). -/
def Medium.onAir : Medium → Bool
  | .preamble _ _ => true
  | .send _ => true
  | _ => false

/-- The SLC measures quiet and busy periods: neither OFF nor DOZE-SAMPLING (R85). -/
def Medium.measures : Medium → Bool
  | .off => false
  | .dozeSampling => false
  | _ => true

/-- The quiet gap is complete: 2 ms of quiet without interruption (R85). -/
def State.gapComplete (s : State) : Bool :=
  match s.slc.quietSince with
  | some t => decide (t + millis 2 ≤ s.now)
  | none => false

/-- The start of the busy period in progress, if one is; a completed quiet gap has ended it (R85). No rule orders a
quiet gap that completes at the very instant the busy period reaches the hold limit against R106; DESIGN CHOICE (log
entry 29): at that instant the gap is counted first, and the busy period has not reached the limit. -/
def State.busySince (s : State) : Option Micros := if s.gapComplete then none else s.slc.busyStart

/-- The last-activity time: the present moment while carrier is heard (R85). -/
def State.lastActivityTime (s : State) : Option Micros :=
  if s.slc.medium.measures ∧ s.slc.carrier.isSome then some s.now else s.slc.lastActivity

/-- Measuring starts anew at this instant: on leaving OFF or DOZE-SAMPLING (R85, R118). -/
def State.startMeasuring (s : State) : State :=
  match s.slc.carrier with
  | none => s.withSlc { s.slc with quietSince := some s.now, busyStart := none }
  | some _ => s.withSlc { s.slc with quietSince := none, busyStart := some s.now }

/-! ### Reports to the Relay Scheduler (R132, R140) -/

/-- A report on a RELAY job: it acts only on a record that serves the job's update and is in a state the
report follows from (R132). -/
def State.relayReport (s : State) (job : Job) (follows : RelayState → Bool) (next : RelayState) : State :=
  match s.slotOf job.id with
  | none => s
  | some i =>
    s.modifyEntry i fun e =>
      if job.update = some e.relay.update ∧ follows e.relay.state then
        { e with relay := { e.relay with state := next } }
      else e

/-- A report on a TALLY job: it acts only on a record in a state the report follows from (R140). -/
def State.tallyReport (s : State) (job : Job) (follows : TallySendState → Bool)
    (f : TallySend → TallySend) : State :=
  match s.slotOf job.id with
  | none => s
  | some i =>
    s.modifyEntry i fun e =>
      if follows e.tallySend.state then { e with tallySend := f e.tallySend } else e

/-- The tally wait W of R139, in milliseconds. -/
def tallyWaitMillis (tag : Tag) (serial : BitVec 16) : Nat :=
  500 + (tag.toNat % 65536 + serial.toNat) % 1000

/-- The expiry of a tally wait started now (R139): W from now, and at least 5 s after the last send. -/
def tallyWaitExpiry (tag : Tag) (serial : BitVec 16) (lastSent : Option Micros) (now : Micros) : Micros :=
  let expiry := now + millis (tallyWaitMillis tag serial)
  match lastSent with
  | none => expiry
  | some t => max expiry (t + seconds 5)

/-- A tally wait started for the entry of a slot, under the conditions of R139. -/
def State.startTallyWait (s : State) (i : Nat) : State :=
  if s.fullPart then
    s.modifyEntry i fun e =>
      if e.isExpired then e
      else
        { e with tallySend := { e.tallySend with
            state := .waiting (tallyWaitExpiry s.settings.tag e.id.serial e.tallySend.lastSent s.now) } }
  else s

/-- The job became current and its first burst is staged (R90). -/
def State.reportStaged (s : State) (job : Job) : State :=
  match job.kind with
  | .relay => s.relayReport job (· == .queued) .staged
  | .tally => s.tallyReport job (· == .queued) fun r => { r with state := .staged }

/-- The first burst of the job won (R94). -/
def State.reportWon (s : State) (job : Job) : State :=
  match job.kind with
  | .relay => s.relayReport job (· == .staged) .sending
  | .tally => s.tallyReport job (· == .staged) fun r => { r with state := .sending }

/-- The tally send of the entry of a slot completed (R140): last-sent time set, and a new wait if the
resend mark was set. -/
def State.tallySent (s : State) (i : Nat) : State :=
  match s.entryAt i with
  | none => s
  | some e =>
    if e.tallySend.state = .sending then
      let s' := s.modifyEntry i fun e => { e with tallySend := ⟨.idle, some s.now, false⟩ }
      if e.tallySend.resend then s'.startTallyWait i else s'
    else s

/-- The job completed (R99). -/
def State.reportCompleted (s : State) (job : Job) : State :=
  match job.kind with
  | .relay => s.relayReport job (· == .sending) .done
  | .tally =>
    match s.slotOf job.id with
    | none => s
    | some i => s.tallySent i

/-- The job was displaced from, or dropped at, a full send queue (R88). -/
def State.reportDropped (s : State) (job : Job) : State :=
  match job.kind with
  | .relay => s.relayReport job (· == .queued) .dropped
  | .tally => s.tallyReport job (· == .queued) fun r => { r with state := .idle, resend := false }

/-- The current job ended (R100, R132, R140). -/
def State.reportEnded (s : State) (job : Job) : State :=
  match job.kind with
  | .relay => if s.fullPart then s else s.relayReport job (· == .sending) .withheld
  | .tally =>
    s.tallyReport job (fun st => st == .queued || st == .staged || st == .sending)
      fun r => { r with state := .idle }

/-! ### Staging (R91, R133) -/

/-- The header a relay of the entry sends now (R133). -/
def relayedHeader (e : Entry) (now : Micros) : HeaderSegment where
  id := e.id
  update := e.update
  action := e.action
  category := e.category
  hop := e.relay.hop - 1
  lifetime := e.remaining now / 60
  zones := e.zones
  texts := e.texts.map fun t => ⟨t.lang, t.count⟩

/-- A text segment of the entry rebuilt from its text's chain (R65). -/
def rebuiltText (e : Entry) (text segment : Nat) : Option TextSegment :=
  match e.texts[text]? with
  | some ⟨_, count, .complete chain⟩ =>
    (chain[segment]?).map fun b => ⟨e.id, e.update, text, segment, count, b.payload⟩
  | _ => none

/-- The frame a frame-list element names, built at this moment (R91, R8). -/
def State.buildFrame (s : State) (e : Entry) : FrameRef → Option Frame
  | .header => some (makeFrame 1 s.settings.tag (headerBytes (relayedHeader e s.now)))
  | .text text segment =>
    (rebuiltText e text segment).map fun t => makeFrame 2 s.settings.tag (textBytes t)
  | .tally => some (makeFrame 3 s.settings.tag (tallyBytes ⟨e.id, e.tally⟩))

/-- The entry of an identity. -/
def State.entryOf (s : State) (id : Identity) : Option Entry := (s.slotOf id).bind s.entryAt

/-- The frames of a burst, built at this moment (R91). -/
def State.buildBurst (s : State) (id : Identity) (refs : List FrameRef) : List Frame :=
  match s.entryOf id with
  | none => []
  | some e => refs.filterMap (s.buildFrame e)

/-- The next burst of a current job staged: up to 6 frames, loss count 0 (R91). -/
def State.stageBurst (s : State) (c : CurrentJob) : State :=
  s.withSlc { s.slc with
    current := some { c with unstaged := c.unstaged.drop 6 }
    stage := s.buildBurst c.job.id (c.unstaged.take 6)
    losses := 0 }

/-- R133's condition for giving a RELAY job up at staging: less than 60 s of lifetime remain. -/
def State.tooLate (s : State) (job : Job) : Bool :=
  job.kind == .relay && (s.entryOf job.id).any fun e => e.remaining s.now < 60

/-- Kind class of the staged burst (R91): 3 for a header, 2 for a text segment, 1 for a tally frame. -/
def stageClass (stage : List Frame) : Nat :=
  match stage with
  | f :: _ => 4 - f.kind.toNat
  | [] => 1

/-! ### DEFER, CONTEND and JAMMED (R92 to R95, R106) -/

/-- The contention key (R93). -/
def contentionKey (tag : Tag) (precedence kindClass losses : Nat) : BitVec 16 :=
  BitVec.ofNat 16 (precedence * 4096 + kindClass * 1024 + (tag.toNat % 1024 + 331 * losses) % 1024)

/-- A contention slot begins now (R94): a mark tone where the key's bit is 1, listening where it is 0. -/
def State.beginSlot (s : State) (key : BitVec 16) (slot : Nat) : State :=
  let m : Medium := .contend key slot (s.now + 100)
  if m.sending then
    (s.withSlc { s.slc with medium := m, quietSince := none }).emit (.markTone slot)
  else
    s.withSlc { s.slc with medium := m, quietSince := some (s.slc.quietSince.getD s.now) }

/-- Contention begins now, with the key formed anew (R92, R93). -/
def State.beginContention (s : State) : State :=
  let precedence := (s.slc.current.map fun c => c.job.precedence).getD 0
  (s.withSlc { s.slc with busyStart := none }).beginSlot
    (contentionKey s.settings.tag precedence (stageClass s.slc.stage) s.slc.losses) 1

/-- JAMMED entered (R106): a reception in progress is abandoned, a staged burst stays. -/
def State.enterJammed (s : State) : State := (s.withMedium .jammed).queueNotice .mediumJammed

/-- The busy period in progress has lasted the hold limit (R106). -/
def State.jamReached (s : State) : Bool :=
  match s.busySince with
  | some t => decide (t + millis s.settings.holdLimit ≤ s.now)
  | none => false

/-- DEFER entered: contention begins at once after a completed quiet gap (R92), and JAMMED is entered at
once in a busy period that has lasted the hold limit (R106). -/
def State.enterDefer (s : State) : State :=
  let s := s.withMedium .defer
  if s.gapComplete then s.beginContention
  else if s.jamReached then s.enterJammed
  else s

/-! ### Taking the head (R90) -/

/-- The conditions of R90 but for the queue. -/
def State.mayTakeHead (s : State) : Bool :=
  s.slc.medium.measures && s.fullPart && s.slc.current.isNone && s.slc.stage.isEmpty

/-- A job taken as current with its first burst staged, and reported (R90). -/
def State.stageFirst (s : State) (job : Job) : State :=
  let s := (s.stageBurst ⟨job, job.frames, false, false⟩).reportStaged job
  if s.slc.medium = .idle then s.enterDefer else s

/-- A job given up at its staging (R91, R133): the relay state becomes DONE. A job none of whose frames
can be built is given up as well; no reachable state has one (log entry 15). -/
def State.giveUpAtStaging (s : State) (job : Job) : State :=
  match job.kind with
  | .relay => s.relayReport job (· == .queued) .done
  | .tally => s.tallyReport job (· == .queued) fun r => { r with state := .idle }

/-- The head taken from the given queue, and the next one where a job ends at its staging (R90, R91). -/
def State.takeFrom (s : State) : List Job → State
  | [] => s.withQueue []
  | job :: rest =>
    if s.tooLate job || (s.buildBurst job.id (job.frames.take 6)).isEmpty then
      (s.giveUpAtStaging job).takeFrom rest
    else (s.withQueue rest).stageFirst job

/-- R90 at the end of an event. -/
def State.takeHead (s : State) : State := if s.mayTakeHead then s.takeFrom s.slc.queue else s

/-! ### Placing a job (R87, R88) -/

/-- Whether a job has the given identity and kind. -/
def Job.named (j : Job) (id : Identity) (kind : JobKind) : Bool := j.id == id && j.kind == kind

/-- A job inserted after every job of higher or equal precedence (R87). Its place, not its time queued, orders it among
jobs of equal precedence (log entry 32). -/
def insertJob (job : Job) : List Job → List Job
  | [] => [job]
  | j :: js => if j.precedence < job.precedence then job :: j :: js else j :: insertJob job js

/-- A job placed in the send queue (R87, R88). The queue's lowest job is its last one. A placing that
meets a job of the same identity and kind in the queue leaves that job to serve (log entry 12). -/
def State.placeJob (s : State) (job : Job) : State :=
  if s.slc.queue.any (fun j => j.named job.id job.kind) then s
  else if s.slc.queue.length < 12 then s.withQueue (insertJob job s.slc.queue)
  else
    match s.slc.queue.getLast? with
    | some lowest =>
      if lowest.precedence < job.precedence then
        ((s.withQueue (insertJob job s.slc.queue.dropLast)).setSendQueueFull).reportDropped lowest
      else s.setSendQueueFull.reportDropped job
    | none => s

/-! ### Ending and cutting a job (R100, R101) -/

/-- Queued jobs of an identity and kind removed (R89). -/
def State.removeQueued (s : State) (id : Identity) (kind : JobKind) : State :=
  s.withQueue (s.slc.queue.filter fun j => !j.named id kind)

/-- The stage emptied and the current job gone: a contention in progress stops, DEFER and CONTEND become
IDLE (R100, R101). -/
def State.emptyStage (s : State) : State :=
  let x := { s.slc with stage := [], losses := 0, current := none }
  match s.slc.medium with
  | .defer => s.withSlc { x with medium := .idle }
  | .contend _ _ _ =>
    s.withSlc { x with medium := .idle, quietSince := some (s.slc.quietSince.getD s.now) }
  | _ => s.withSlc x

/-- An ending of the current job (R100): the end mark on the air, at once otherwise. -/
def State.endCurrent (s : State) (c : CurrentJob) : State :=
  if s.slc.medium.onAir then s.withCurrent (some { c with endMark := true })
  else s.emptyStage.reportEnded c.job

/-- An ending for the jobs of an identity and kind (R100). -/
def State.endJob (s : State) (id : Identity) (kind : JobKind) : State :=
  let s := s.removeQueued id kind
  match s.slc.current with
  | some c => if c.job.named id kind then s.endCurrent c else s
  | none => s

/-- A cut for the jobs of an identity and kind (R101): it acts until the first burst has won. -/
def State.cutJob (s : State) (id : Identity) (kind : JobKind) : State :=
  let s := s.removeQueued id kind
  match s.slc.current with
  | some c => if c.job.named id kind && !c.won then s.emptyStage else s
  | none => s

end Sys2Proof.Machine
end

