-- ==== Sys2Proof/Machine/Relay.lean ====
section
/-! DEFINITION. The operations of the Relay Scheduler that several events share (chapter 7): starting a
relay, counting duplicates and suppressing, the tally-send record's dirty and covered reports. -/

namespace Sys2Proof.Machine

/-- The relay record of an entry changed. -/
def State.modifyRelay (s : State) (i : Nat) (f : RelayRecord → RelayRecord) : State :=
  s.modifyEntry i fun e => { e with relay := f e.relay }

/-- The relay state of an entry changed. -/
def State.withRelayState (s : State) (i : Nat) (r : RelayState) : State :=
  s.modifyRelay i fun x => { x with state := r }

/-- The tally-send record of an entry changed. -/
def State.modifyTallySend (s : State) (i : Nat) (f : TallySend → TallySend) : State :=
  s.modifyEntry i fun e => { e with tallySend := f e.tallySend }

/-- The relay record at creation and at each reset (R123). -/
def freshRelay (update : Nat) (origin : Origin) (hop : Nat) (rssi : Option Int) : RelayRecord :=
  ⟨.none, update, origin, hop, rssi, 0⟩

/-- The tally-send record at creation (R138). -/
def freshTallySend : TallySend := ⟨.idle, none, false⟩

/-! ### The relay wait and the start of a relay (R127, R128) -/

/-- The jitter of R128, in milliseconds. -/
def relayJitter (tag : Tag) (serial : BitVec 16) : Nat :=
  ((tag.toNat % 65536) ^^^ serial.toNat) % 251

/-- The spread of R128, in milliseconds. -/
def relaySpread (origin : Origin) (rssi : Option Int) : Nat :=
  match origin with
  | .cell => 280
  | .peer => 8 * (max (-110) (min (rssi.getD (-130)) (-40)) + 110).toNat

/-- The base of R128, in milliseconds; a class NONE has no wait. -/
def relayBase : RelayClass → Nat
  | .fast => 20
  | _ => 200

/-- The relay wait of R128, in milliseconds. -/
def relayWaitMillis (cls : RelayClass) (tag : Tag) (serial : BitVec 16) (r : RelayRecord) : Nat :=
  relayBase cls + relaySpread r.origin r.rssi + relayJitter tag serial

/-- The relay state a start sets: the first row of R127's table whose condition holds. -/
def relayStart (cls : RelayClass) (cfg : Settings) (full : Bool) (now : Micros) (e : Entry) : RelayState :=
  if cls = .none then .none
  else if e.relay.hop = 0 then .none
  else if e.remaining now < 60 then .none
  else if !full then .withheld
  else if cfg.threshold ≤ e.relay.duplicates then .suppressed
  else .waiting (now + millis (relayWaitMillis cls cfg.tag e.id.serial e.relay))

/-- The relay of the entry of a slot started (R127). -/
def State.startRelay (s : State) (i : Nat) : State :=
  s.modifyEntry i fun e =>
    { e with relay := { e.relay with
        state := relayStart (s.category e.category).relay s.settings s.fullPart s.now e } }

/-- The frame list of a relay (R134): for an ALERT the header and the segments of its COMPLETE texts, for a
CANCEL the header alone. -/
def relayFrames (e : Entry) : List FrameRef :=
  match e.action with
  | .cancel => [.header]
  | .alert =>
    .header :: e.texts.zipIdx.flatMap fun p =>
      match p.1.state with
      | .complete chain => (List.range chain.length).map fun j => .text p.2 j
      | _ => []

/-! ### Duplicates and suppression (R126, R130, R131) -/

/-- The relay states that a later event may still move (R131). -/
def RelayState.unfinished : RelayState → Bool
  | .waiting _ => true
  | .queued => true
  | .staged => true
  | _ => false

/-- Whether a relay state is WAITING. -/
def RelayState.isWaiting : RelayState → Bool
  | .waiting _ => true
  | _ => false

/-- A duplicate's hop budget raises the record's (R126). -/
def raiseHop (e : Entry) (hop : Nat) : Nat :=
  if e.collecting ∨ e.relay.state.isWaiting = true ∨ e.relay.state = .queued then max e.relay.hop hop
  else e.relay.hop

/-- A duplicate header counted against the entry of a slot (R24, R130), its hop budget taken (R126), and
the relay suppressed at the threshold (R131). No rule orders R126 against R131; DESIGN CHOICE (log entry 28):
the copy that reaches the threshold raises the hop budget by the state the relay had before it. -/
def State.countDuplicate (s : State) (i : Nat) (hop : Nat) : State :=
  match s.entryAt i with
  | none => s
  | some e =>
    let s := s.modifyRelay i fun r =>
      { r with duplicates := min 15 (r.duplicates + 1), hop := raiseHop e hop }
    if s.settings.threshold ≤ min 15 (e.relay.duplicates + 1) ∧ e.relay.state.unfinished = true then
      (s.withRelayState i .suppressed).cutJob e.id .relay
    else s

/-! ### The tally-send record (R139, R141) -/

/-- Whether a tally-send state is WAITING. -/
def TallySendState.isWaiting : TallySendState → Bool
  | .waiting _ => true
  | _ => false

/-- A dirty report on the entry of a slot (R139). -/
def State.dirtyReport (s : State) (i : Nat) : State :=
  match s.entryAt i with
  | none => s
  | some e =>
    match e.tallySend.state with
    | .idle => s.startTallyWait i
    | .waiting _ => s
    | .queued => s
    | .staged => s.modifyTallySend i fun r => { r with resend := true }
    | .sending => s.modifyTallySend i fun r => { r with resend := true }

/-- A covered report on the entry of a slot (R141): the resend mark is cleared in every state. -/
def State.coveredReport (s : State) (i : Nat) : State :=
  match s.entryAt i with
  | none => s
  | some e =>
    match e.tallySend.state with
    | .waiting _ => s.modifyTallySend i fun r => { r with state := .idle, resend := false }
    | .queued =>
      (s.modifyTallySend i fun r => { r with state := .idle, resend := false }).cutJob e.id .tally
    | .staged =>
      (s.modifyTallySend i fun r => { r with state := .idle, resend := false }).cutJob e.id .tally
    | .sending => s.modifyTallySend i fun r => { r with resend := false }
    | .idle => s.modifyTallySend i fun r => { r with resend := false }

/-- A supersede starts a WAITING tally wait anew (R142). -/
def State.restartTallyWait (s : State) (i : Nat) : State :=
  match s.entryAt i with
  | none => s
  | some e => if e.tallySend.state.isWaiting then s.startTallyWait i else s

/-- The relay and the tally send of an entry that expires (R135, R142): the records are ended, then the jobs,
whose ending reports find them ended (R100). -/
def State.stopSends (s : State) (i : Nat) (id : Identity) : State :=
  let s := s.modifyEntry i fun e =>
    { e with
      relay := { e.relay with
        state := if e.relay.state.unfinished ∨ e.relay.state = .sending then .none else e.relay.state }
      tallySend := { e.tallySend with state := .idle, resend := false } }
  (s.endJob id .relay).endJob id .tally

end Sys2Proof.Machine
end

