-- ==== Sys2Proof/Machine/Reports.lean ====
section
/-! DEFINITION. The operations of the Tally Unit and the Feed Port that several events share (chapters 8
and 9): the report queue, sending a report, ending the outstanding report, adding the own tag and merging a
peer's tally. -/

namespace Sys2Proof.Machine

/-- The Tally Unit's state changed. -/
def State.withTu (s : State) (x : Tu) : State := { s with tu := x }

/-- The Feed Port's state changed. -/
def State.withFp (s : State) (x : Fp) : State := { s with fp := x }

/-! ### The report queue (R170, R171) -/

/-- Whether the entry is due for a report (R171): its count has grown by the report step, or it is
CANCELLED or EXPIRED with a count above the last reported one. -/
def reportDue (e : Entry) (step : Nat) : Bool :=
  step + e.lastReported ≤ tallyCount e.tally
    || ((e.state.name == .cancelled || e.state.name == .expired) && e.lastReported < tallyCount e.tally)

/-- Whether the report of the entry of a slot is outstanding: the record's handle names it (R175). -/
def State.isOutstanding (s : State) (i : Nat) : Bool :=
  match s.tu.outstanding with
  | some o => o.handle == s.handleAt i
  | none => false

/-- The report-due test applied to the entry of a slot (R171). -/
def State.testReportDue (s : State) (i : Nat) : State :=
  match s.entryAt i with
  | none => s
  | some e =>
    if reportDue e s.settings.reportStep = true ∧ i ∉ s.tu.reportQueue ∧ s.isOutstanding i = false then
      s.withTu { s.tu with reportQueue := s.tu.reportQueue ++ [i] }
    else s

/-- The element of the entry of a slot removed from the report queue (R31, R46). -/
def State.removeElement (s : State) (i : Nat) : State :=
  s.withTu { s.tu with reportQueue := s.tu.reportQueue.filter (· != i) }

/-! ### The outstanding report (R172 to R175) -/

/-- The conditions of R172. -/
def State.maySendReport (s : State) : Bool :=
  s.fp.coverage && !s.fp.blocked && s.fp.modemReady && s.tu.outstanding.isNone
    && !s.tu.reportQueue.isEmpty

/-- The report of the entry of a slot sent (R172): REPORT built and put out, outstanding record filled. The
sending is activity (R112); in DOZE it wakes the part through the outstanding report (R117). -/
def State.sendReportOf (s : State) (i : Nat) (e : Entry) (rest : List Nat) : State :=
  let count := tallyCount e.tally
  let s := s.withTu
    { reportQueue := rest, outstanding := some ⟨e.id, s.handleAt i, count, s.now + seconds 10⟩ }
  let s := { s with out := { s.out with feed := some (reportBytes count ⟨e.id, e.tally⟩) } }
  match s.pwc.power with
  | .awake => s.restartHold
  | .doze => s

/-- The first element of the given queue sent. An element without an entry is passed over; no reachable
state has one (log entry 15). -/
def State.sendFrom (s : State) : List Nat → State
  | [] => s.withTu { s.tu with reportQueue := [] }
  | i :: rest =>
    match s.entryAt i with
    | none => s.sendFrom rest
    | some e => s.sendReportOf i e rest

/-- R172 at the end of an event. -/
def State.sendReport (s : State) : State := if s.maySendReport then s.sendFrom s.tu.reportQueue else s

/-- The slot of the entry an outstanding report was for, if the entry is still there (R173 to R175). -/
def State.creditedSlot (s : State) (o : Outstanding) : Option Nat :=
  if s.handleOk o.handle then some o.handle.slot else none

/-- The outstanding report ended as done (R173, R175). -/
def State.reportDone (s : State) (o : Outstanding) : State :=
  let s := s.withTu { s.tu with outstanding := none }
  match s.creditedSlot o with
  | some i => (s.modifyEntry i fun e => { e with lastReported := o.count }).testReportDue i
  | none => s

/-- The outstanding report ended as refused (R174, R175): its entry returns to the head of the queue and
the uplink is blocked. -/
def State.reportRefused (s : State) (o : Outstanding) : State :=
  let s := s.withFp { s.fp with blocked := true }
  match s.creditedSlot o with
  | some i =>
    s.withTu { reportQueue := i :: s.tu.reportQueue.filter (· != i), outstanding := none }
  | none => s.withTu { s.tu with outstanding := none }

/-! ### Tallies (R149, R151 to R156) -/

/-- The own tag added to the tally of the entry of a slot (R149). -/
def State.addOwnTag (s : State) (i : Nat) : State :=
  match s.entryAt i with
  | none => s
  | some e =>
    let tally := addTag e.tally s.settings.tag
    if tally = e.tally then s
    else (((s.modifyEntry i fun e => { e with tally := tally }).dirtyReport i).testReportDue i)

/-- A peer's tally merged into that of the entry of a slot, with its reports (R151, R155, R156). -/
def State.mergeInto (s : State) (i : Nat) (received : Tally) : State :=
  match s.entryAt i with
  | none => s
  | some e =>
    let tally := mergeTally e.tally received
    let s := s.modifyEntry i fun e => { e with tally := tally }
    let s := if coveredBy tally received then s.coveredReport i else s.dirtyReport i
    s.testReportDue i

/-- A tally segment that reaches the Tally Unit (R151). -/
def State.takeTally (s : State) (t : TallySegment) : State :=
  match s.slotOf t.id with
  | none => s
  | some i => s.mergeInto i t.tally

end Sys2Proof.Machine
end

