-- ==== Sys2Proof/Machine/Presentation.lean ====
section
/-! DEFINITION. The operations of the Alert Table controller about position and presentation that several
events share (chapter 4, R37 to R41). -/

namespace Sys2Proof.Machine

/-! ### Area results (R22) -/

/-- The zone code of the position record, or none (R13). -/
def State.positionZone (s : State) : Option ZoneCode := s.atc.position.map Position.zone

/-- The area result of an entry computed (R22). -/
def State.computeArea (s : State) (i : Nat) : State :=
  s.modifyEntry i fun e => { e with area := areaTest s.positionZone e.zones }

/-! ### The presentation decision (R75) -/

/-- Outcome of the presentation decision (R75). -/
inductive Decision where
  | present | hold | acknowledge
  deriving DecidableEq, Repr, Inhabited

/-- The presentation decision (R75). -/
def decision (cls : PresentationClass) (area : AreaResult) (optedIn : Bool) : Decision :=
  match cls with
  | .mandatory => .present
  | .inArea => if area = .outside then .hold else .present
  | .optional => if area = .inside ∧ optedIn = true then .present else .hold
  | .silent => .acknowledge

/-- The presentation decision for an entry (R75). -/
def State.outcomeFor (s : State) (e : Entry) : Decision :=
  decision (s.category e.category).presentation e.area (s.atc.optIn.getLsbD e.category)

/-- The entry of a slot enters PRESENTING (R38). -/
def State.enterPresenting (s : State) (i : Nat) : State :=
  (s.modifyEntry i fun e => { e with state := .presenting, presented := true }).queueNotice
    (.present (s.handleAt i))

/-- The entry of a slot enters ACKNOWLEDGED (R81, R77): state, mark and moment (R20), then the own tag. -/
def State.enterAcknowledged (s : State) (i : Nat) : State :=
  (s.modifyEntry i fun e =>
    { e with state := .acknowledged, ownAck := true, acked := some s.now }).addOwnTag i

/-- The entry of a slot leaves COLLECTING (R37): area result, transition, notice or own tag, relay start. -/
def State.leaveCollecting (s : State) (i : Nat) : State :=
  let s := s.computeArea i
  match s.entryAt i with
  | none => s
  | some e =>
    let s :=
      match s.outcomeFor e with
      | .present => s.enterPresenting i
      | .hold => s.modifyEntry i fun e => { e with state := .held }
      | .acknowledge => s.enterAcknowledged i
    s.startRelay i

/-! ### Position changes and re-evaluation (R72, R78) -/

/-- Re-evaluation of the entry of a slot (R78): only a HELD entry that qualifies moves. -/
def State.reevaluateSlot (s : State) (i : Nat) : State :=
  match s.entryAt i with
  | none => s
  | some e => if e.state = .held ∧ s.outcomeFor e = .present then s.enterPresenting i else s

/-- Re-evaluation of every HELD entry, in slot order (R78). -/
def State.reevaluate (s : State) : State :=
  (List.range s.atc.table.length).foldl State.reevaluateSlot s

/-- The position record written, with the position change this is (R72): every area result, then every
HELD entry. -/
def State.changePosition (s : State) (p : Option Position) : State :=
  let s := { s with atc := { s.atc with position := p } }
  (s.mapEntries fun e => { e with area := areaTest s.positionZone e.zones }).reevaluate

/-- The instant the position goes stale (R68). -/
def State.staleDue (s : State) : Option Micros :=
  s.atc.position.map fun p => p.written + seconds (60 * s.settings.zoneHold)

/-- A position that is stale by now has become NONE, with its position change: what a reader of the position or
of the area results does first, so that no stale position is ever read (R68, R72). An event that may read it does so
whether or not it turns out to (DESIGN CHOICE, log entry 33). -/
def State.dropStale (s : State) : State :=
  if s.staleDue.any (· ≤ s.now) then s.changePosition none else s

/-- The clock brought forward to an instant (log entry 4). A position that goes stale on the way becomes NONE
with its position change before anything happens at that instant (R68). -/
def State.advancePast (s : State) (t : Micros) : State :=
  let s := s.advance t
  if s.staleDue.any (· < s.now) then s.changePosition none else s

/-- The serving zone's comparison reads an APPLICATION position, which is NONE by then if it is stale; a FEED
position is replaced unread (R71, R73). -/
def State.dropStaleApplication (s : State) : State :=
  match s.atc.position with
  | some ⟨_, .application, _⟩ => s.dropStale
  | _ => s

/-- A serving zone applied (R71): it replaces the record unless an APPLICATION position is at least as
fine. -/
def State.applyServingZone (s : State) (zone : ZoneCode) : State :=
  let s := s.dropStaleApplication
  match s.atc.position with
  | some ⟨held, .application, _⟩ =>
    if (zoneLevel held).rank < (zoneLevel zone).rank then s.changePosition (some ⟨zone, .feed, s.now⟩)
    else s
  | _ => s.changePosition (some ⟨zone, .feed, s.now⟩)

end Sys2Proof.Machine
end

