-- ==== Sys2Proof/Machine/Assembly.lean ====
section
/-! DEFINITION. The Segment Assembler (chapter 3): the pool, slots, storing, completion, binding, shortage
and reclaim. -/

namespace Sys2Proof.Machine

/-! ### The pool (R47) -/

/-- Blocks held by an assembly slot. -/
def slotBlocks : Option Slot → Nat
  | none => 0
  | some sl => sl.received.countP Option.isSome

/-- Blocks in the chain of a text. -/
def textBlocks (t : TextRecord) : Nat :=
  match t.state with
  | .complete chain => chain.length
  | _ => 0

/-- Blocks in the chains of the entry of a table slot. -/
def entryBlocks (sl : TableSlot) : Nat :=
  match sl.entry with
  | none => 0
  | some e => (e.texts.map textBlocks).sum

/-- Blocks held by slots or in chains (R47). -/
def State.usedBlocks (s : State) : Nat :=
  (s.sa.slots.map slotBlocks).sum + (s.atc.table.map entryBlocks).sum

/-- Free blocks (R47): the rest of the 128. -/
def State.freeBlocks (s : State) : Nat := 128 - s.usedBlocks

/-- Length of a text (R55): 96 for each block but the last, and the last one's fill. -/
def chainLength (chain : List Block) : Nat :=
  96 * (chain.length - 1) + (chain.getLast?.map fun b => b.payload.length).getD 0

/-- Byte `o` of a text (R65). -/
def chainByte (chain : List Block) (o : Nat) : Option Byte :=
  (chain[o / 96]?).bind fun b => b.payload[o % 96]?

/-! ### Slots (R49) -/

/-- The assembly slots changed. -/
def State.withSlots (s : State) (l : List (Option Slot)) : State := { s with sa := { s.sa with slots := l } }

/-- The slot with a number, if it is open. -/
def State.slotAt (s : State) (n : Nat) : Option Slot := (s.sa.slots[n]?).join

/-- The number of the open slot with a key (R49). -/
def State.findSlot (s : State) (key : SlotKey) : Option Nat :=
  s.sa.slots.findIdx? fun o => o.any fun sl => sl.key == key

/-- The lowest free slot number (R49). -/
def State.freeSlot (s : State) : Option Nat := s.sa.slots.findIdx? Option.isNone

/-- The open slots with their numbers. -/
def State.openSlots (s : State) : List (Nat × Slot) :=
  s.sa.slots.zipIdx.filterMap fun p => p.1.map fun sl => (p.2, sl)

/-- The open slot of lowest precedence, and among those the one with the oldest first-segment time, and
then the lower number (R49, R60, R63). -/
def State.lowestSlot (s : State) : Option (Nat × Slot) :=
  pickLeast
    (fun a b => pairLess (a.2.precedence, a.2.firstSegment) (b.2.precedence, b.2.firstSegment))
    s.openSlots

/-- Whether every segment index of a slot's text is stored (R54). -/
def Slot.full (sl : Slot) : Bool := sl.received.all Option.isSome

/-- The state of a text record of an entry changed. -/
def Entry.withText (e : Entry) (text : Nat) (st : TextState) : Entry :=
  { e with texts := e.texts.modify text fun t => { t with state := st } }

/-- Open slots that satisfy a condition discarded, with no word to the ATC (R58). -/
def State.discardSlots (s : State) (p : Slot → Bool) : State :=
  s.withSlots (s.sa.slots.map fun o => o.filter fun sl => !p sl)

/-- The text record of a discarded bound slot returns from COLLECTING to ABSENT (R35). -/
def State.textLost (s : State) (key : SlotKey) : State :=
  match s.slotOf key.id with
  | none => s
  | some i =>
    s.modifyEntry i fun e =>
      if e.collecting ∧ (e.texts[key.text]?).map TextRecord.state = some .collecting then
        e.withText key.text .absent
      else e

/-- One slot discarded; the ATC is told if it was bound (R59, R60, R63). -/
def State.discardSlot (s : State) (n : Nat) : State :=
  match s.slotAt n with
  | none => s
  | some sl =>
    let s := s.withSlots (s.sa.slots.set n none)
    if sl.bound then s.textLost sl.key else s

/-! ### Completion (R34, R55) -/

/-- Whether every text of an entry is COMPLETE. -/
def Entry.allComplete (e : Entry) : Bool :=
  e.texts.all fun t =>
    match t.state with
    | .complete _ => true
    | _ => false

/-- A COLLECTING entry whose texts are all COMPLETE leaves COLLECTING (R34). -/
def State.leaveIfComplete (s : State) (i : Nat) : State :=
  match s.entryAt i with
  | none => s
  | some e => if e.collecting ∧ e.allComplete = true then s.leaveCollecting i else s

/-- A full bound slot becomes the chain of its text and closes (R55). -/
def State.completeSlot (s : State) (n : Nat) (sl : Slot) (i : Nat) : State :=
  (s.withSlots (s.sa.slots.set n none)).modifyEntry i fun e =>
    e.withText sl.key.text (.complete (sl.received.filterMap id))

/-- What follows a store (R55, R56): a full bound slot completes its text, and perhaps its entry. -/
def State.afterStore (s : State) (n : Nat) : State :=
  match s.slotAt n with
  | none => s
  | some sl =>
    if sl.bound ∧ sl.full = true then
      match s.slotOf sl.key.id with
      | none => s
      | some i => (s.completeSlot n sl i).leaveIfComplete i
    else s

/-! ### Reclaim (R61 to R63) -/

/-- A relay state whose texts may be reclaimed (R62). -/
def RelayState.over : RelayState → Bool
  | .done => true
  | .suppressed => true
  | .none => true
  | .withheld => true
  | .dropped => true
  | _ => false

/-- The highest index of a COMPLETE text of an entry (R62). -/
def Entry.lastComplete (e : Entry) : Option Nat :=
  ((e.texts.zipIdx.filter fun p => textBlocks p.1 != 0).map Prod.snd).getLast?

/-- The entries whose texts reclaim may take (R62). -/
def State.reclaimable (s : State) : List (Nat × Entry) :=
  s.entries.filter fun p =>
    p.2.state == .acknowledged && p.2.relay.state.over && p.2.lastComplete.isSome

/-- Step 1 of reclaim (R62): the last COMPLETE text of the entry of lowest precedence, acknowledged
earliest. R20's tie-break names R30 only; DESIGN CHOICE (log entry 27): of two entries of one precedence
acknowledged at one instant, the one in the lower-numbered slot is taken. -/
def State.reclaimText (s : State) : Option State :=
  match pickLeast
      (fun a b => pairLess (a.2.precedence, a.2.acked.getD 0) (b.2.precedence, b.2.acked.getD 0))
      s.reclaimable with
  | none => none
  | some (i, e) => e.lastComplete.map fun t => s.modifyEntry i fun e => e.withText t .released

/-- A slot taken for a segment of higher precedence (R60, R63). -/
def State.takeLowestSlot (s : State) (precedence : Nat) : Option State :=
  match s.lowestSlot with
  | some (n, sl) => if sl.precedence < precedence then some (s.discardSlot n) else none
  | none => none

/-- Reclaim for a segment (R61). -/
def State.reclaim (s : State) (precedence : Nat) : Option State :=
  match s.reclaimText with
  | some s' => some s'
  | none => s.takeLowestSlot precedence

/-- A free block obtained for a segment (R54): none where the segment is dropped. -/
def State.obtainBlock (s : State) (precedence : Nat) : Option State :=
  if 0 < s.freeBlocks then some s
  else (s.reclaim precedence).filter fun s' => decide (0 < s'.freeBlocks)

/-! ### Storing (R52 to R54) -/

/-- A segment stored in an open slot for which a block is free (R54). -/
def State.storeIn (s : State) (n : Nat) (seg : TextSegment) : State :=
  s.withSlots (s.sa.slots.modify n fun o =>
    o.map fun sl => { sl with received := sl.received.set seg.index (some ⟨seg.payload⟩) })

/-- A segment that goes to an open slot (R52). -/
def State.joinSlot (s : State) (n : Nat) (seg : TextSegment) : State :=
  match s.slotAt n with
  | none => s
  | some sl =>
    if seg.count ≠ sl.count then s.setMalformed
    else if (sl.received[seg.index]?).join.isSome then s
    else
      match s.obtainBlock sl.precedence with
      | none => s.setPoolExhausted
      | some s' => (s'.storeIn n seg).afterStore n

/-- The key of a segment (R49). -/
def TextSegment.key (seg : TextSegment) : SlotKey := ⟨seg.id, seg.update, seg.text⟩

/-- The slot created for a segment (R53): its first segment stored. -/
def newSlotFor (seg : TextSegment) (bound : Bool) (precedence : Nat) (now : Micros) : Slot where
  key := seg.key
  count := seg.count
  received := (List.replicate seg.count none).set seg.index (some ⟨seg.payload⟩)
  firstSegment := now
  bound := bound
  precedence := precedence

/-- The text record of a created bound slot moves from ABSENT to COLLECTING (R53, R21). -/
def State.textStarted (s : State) (key : SlotKey) : State :=
  match s.slotOf key.id with
  | none => s
  | some i => s.modifyEntry i fun e => e.withText key.text .collecting

/-- A slot number for a new slot (R53, step 1): a free one, or one taken in a slot shortage (R60). -/
def State.reserveSlot (s : State) (precedence : Nat) : Option State :=
  match s.freeSlot with
  | some _ => some s
  | none => s.takeLowestSlot precedence

/-- A segment that needs a new slot (R53). -/
def State.openSlot (s : State) (seg : TextSegment) (bound : Bool) (precedence : Nat) : State :=
  match s.reserveSlot precedence with
  | none => s
  | some s1 =>
    match s1.freeSlot with
    | none => s
    | some n =>
      match s1.obtainBlock precedence with
      | none => s1.setPoolExhausted
      | some s2 =>
        let s3 := s2.withSlots (s2.sa.slots.set n (some (newSlotFor seg bound precedence s2.now)))
        (if bound then s3.textStarted seg.key else s3).afterStore n

/-- A segment for an unbound slot (R51, last two rows). -/
def State.toUnbound (s : State) (seg : TextSegment) : State :=
  match s.findSlot seg.key with
  | some n => s.joinSlot n seg
  | none => s.openSlot seg false 0

/-- A segment of the current update of a COLLECTING entry (R51). -/
def State.toCollecting (s : State) (e : Entry) (seg : TextSegment) : State :=
  match e.texts[seg.text]? with
  | none => s.setMalformed
  | some t =>
    match t.state with
    | .complete _ => s
    | .released => s
    | .collecting =>
      match s.findSlot seg.key with
      | some n => s.joinSlot n seg
      | none => s
    | .absent => if seg.count = t.count then s.openSlot seg true e.precedence else s.setMalformed

/-- A text segment that reaches the Segment Assembler (R51). -/
def State.takeText (s : State) (seg : TextSegment) : State :=
  match s.entryOf seg.id with
  | none => s.toUnbound seg
  | some e =>
    if seg.update < e.update then s
    else if e.update < seg.update then s.toUnbound seg
    else if e.collecting then s.toCollecting e seg
    else s

/-! ### Binding at acceptance (R27, R57) -/

/-- Whether an unbound slot of the accepted update can be bound (R57). -/
def canBind (e : Entry) (sl : Slot) : Bool :=
  match e.texts[sl.key.text]? with
  | some t => t.count == sl.count
  | none => false

/-- One slot of the identity and update bound, or discarded with MALFORMED set (R57). -/
def State.bindSlot (i : Nat) (s : State) (n : Nat) : State :=
  match s.slotAt n, s.entryAt i with
  | some sl, some e =>
    if sl.key.id = e.id ∧ sl.key.update = e.update ∧ sl.bound = false then
      if canBind e sl then
        (s.withSlots (s.sa.slots.set n (some { sl with bound := true, precedence := e.precedence }))).modifyEntry
          i fun e => e.withText sl.key.text .collecting
      else (s.withSlots (s.sa.slots.set n none)).setMalformed
    else s
  | _, _ => s

/-- The slot of one text completed if it is full (R57). -/
def State.completeBound (i : Nat) (s : State) (text : Nat) : State :=
  match s.entryAt i with
  | none => s
  | some e =>
    match s.findSlot ⟨e.id, e.update, text⟩ with
    | none => s
    | some n =>
      match s.slotAt n with
      | none => s
      | some sl => if sl.bound ∧ sl.full = true then s.completeSlot n sl i else s

/-- The slots of an accepted ALERT's update bound, and the full ones completed in text index order (R27,
R57); the entry leaves COLLECTING if that completes it. -/
def State.bindSlots (s : State) (i : Nat) : State :=
  let s := (List.range s.sa.slots.length).foldl (State.bindSlot i) s
  let s := (List.range 4).foldl (State.completeBound i) s
  s.leaveIfComplete i

end Sys2Proof.Machine
end

