-- ==== Sys2Proof/Machine/Table.lean ====
section
/-! DEFINITION. The Alert Table controller (chapter 2): arrival of a header, creation, supersede, cancel,
eviction, the collect limit, expiry and removal. -/

namespace Sys2Proof.Machine

/-! ### Filling an entry (R19) -/

/-- The entry with the fields R19 takes from an accepted header; its records and tally are kept. -/
def Entry.fill (e : Entry) (h : HeaderSegment) (origin : Origin) (precedence : Nat) (area : AreaResult)
    (now : Micros) : Entry :=
  { e with
    id := h.id
    update := h.update
    action := h.action
    category := h.category
    precedence := precedence
    origin := origin
    zones := h.zones
    area := area
    texts := h.texts.map fun t => ⟨t.lang, t.count, .absent⟩
    lifetimeEnd := now + seconds (60 * h.lifetime)
    presented := false
    ownAck := false
    partialMark := false
    accepted := now
    acked := none }

/-- The entry of a slot filled from an accepted header, with its new state (R19, R22). -/
def State.fillEntry (s : State) (i : Nat) (h : HeaderSegment) (origin : Origin) (st : EntryState) : State :=
  s.modifyEntry i fun e =>
    { e.fill h origin (s.category h.category).precedence (areaTest s.positionZone h.zones) s.now with
      state := st }

/-- An entry before its fields are filled: fresh records, an empty LIST, nothing reported (R123, R138,
R144, R170). -/
def blankEntry (h : HeaderSegment) (origin : Origin) (rssi : Option Int) : Entry where
  id := h.id
  update := h.update
  action := h.action
  category := h.category
  precedence := 0
  origin := origin
  zones := []
  area := .unknown
  texts := []
  lifetimeEnd := 0
  state := .cancelled
  presented := false
  ownAck := false
  partialMark := false
  accepted := 0
  acked := none
  relay := freshRelay h.update origin h.hop rssi
  tallySend := freshTallySend
  tally := .list []
  lastReported := 0

/-- An entry created in a slot: the generation is incremented first (R18), then the fields are filled. -/
def State.createEntry (s : State) (i : Nat) (h : HeaderSegment) (origin : Origin) (rssi : Option Int)
    (st : EntryState) : State :=
  (s.modifySlot i fun sl => ⟨sl.gen + 1, some (blankEntry h origin rssi)⟩).fillEntry i h origin st

/-! ### A full table (R30 to R32) -/

/-- The group of R30 an entry belongs to for a newcomer of the given precedence, with its key within the
group; none for an entry that is in no group. -/
def victimKey (e : Entry) (newcomer : Nat) : Option (Nat × Nat × Nat) :=
  match e.state with
  | .expired lingerEnd => some (1, 0, lingerEnd)
  | .cancelled => some (2, 0, e.lifetimeEnd)
  | .held => if e.precedence ≤ newcomer then some (3, e.precedence, e.accepted) else none
  | .acknowledged => if e.precedence ≤ newcomer then some (4, e.precedence, e.acked.getD 0) else none
  | .collecting _ => if e.precedence < newcomer then some (5, e.precedence, e.accepted) else none
  | .presenting => none

/-- The order of R30: group, first key, later key. The lower slot number, which `pickLeast` takes among equals,
is the last tie-break (R20, R30). -/
def victimLess (a b : Nat × (Nat × Nat × Nat)) : Bool :=
  a.2.1 < b.2.1 || (a.2.1 == b.2.1 && pairLess a.2.2 b.2.2)

/-- The slot of the victim R30 finds. -/
def State.findVictim (s : State) (newcomer : Nat) : Option Nat :=
  (pickLeast victimLess
    (s.entries.filterMap fun p => (victimKey p.2 newcomer).map fun k => (p.1, k))).map Prod.fst

/-- A victim evicted (R31). -/
def State.evict (s : State) (i : Nat) (e : Entry) : State :=
  let s := (s.endJob e.id .relay).endJob e.id .tally
  let s := s.discardSlots fun sl => sl.bound && sl.key.id == e.id
  (s.removeElement i).modifySlot i fun sl => { sl with entry := none }

/-- The lowest-numbered empty table slot (R17). -/
def State.emptySlot (s : State) : Option Nat := s.atc.table.findIdx? fun sl => sl.entry.isNone

/-- A slot for a newcomer (R17, R30): an empty one, or a victim's after its eviction. -/
def State.makeRoom (s : State) (newcomer : Nat) : Option (State × Nat) :=
  match s.emptySlot with
  | some i => some (s, i)
  | none =>
    match s.findVictim newcomer with
    | none => none
    | some i => (s.entryAt i).map fun e => (s.evict i e, i)

/-- A newcomer dropped (R32). -/
def State.dropNewcomer (s : State) (id : Identity) : State :=
  ((s.discardSlots fun sl => !sl.bound && sl.key.id == id).setTableFull).queueNotice .tableFull

/-! ### Arrival of a header (R23 to R29) -/

/-- An ALERT for a new identity (R25, R32). -/
def State.newAlert (s : State) (h : HeaderSegment) (origin : Origin) (rssi : Option Int) : State :=
  match s.makeRoom (s.category h.category).precedence with
  | none => s.dropNewcomer h.id
  | some (s, i) =>
    let s := s.createEntry i h origin rssi (.collecting (s.now + seconds 300))
    (s.discardSlots fun sl => sl.key.id == h.id && decide (sl.key.update < h.update)).bindSlots i

/-- A CANCEL for a new identity (R26, R32). -/
def State.newCancel (s : State) (h : HeaderSegment) (origin : Origin) (rssi : Option Int) : State :=
  match s.makeRoom (s.category h.category).precedence with
  | none => s.dropNewcomer h.id
  | some (s, i) =>
    let s := s.createEntry i h origin rssi .cancelled
    let s := s.discardSlots fun sl => sl.key.id == h.id && decide (sl.key.update ≤ h.update)
    (s.startRelay i).testReportDue i

/-- The relay record of an entry reset from an accepted header (R123). -/
def State.resetRelay (s : State) (i : Nat) (h : HeaderSegment) (origin : Origin) (rssi : Option Int) : State :=
  s.modifyRelay i fun _ => freshRelay h.update origin h.hop rssi

/-- An ALERT of a higher update supersedes the entry of a slot (R28). -/
def State.supersede (s : State) (i : Nat) (e : Entry) (h : HeaderSegment) (origin : Origin)
    (rssi : Option Int) : State :=
  let s := s.discardSlots fun sl => sl.key.id == e.id && decide (sl.key.update < h.update)
  let s := (((s.endJob e.id .relay).resetRelay i h origin rssi).restartTallyWait i)
  let s := s.fillEntry i h origin (.collecting (s.now + seconds 300))
  let s := if e.presented then s.queueNotice (.superseded (s.handleAt i)) else s
  s.bindSlots i

/-- A CANCEL cancels the entry of a slot (R29). -/
def State.cancelEntry (s : State) (i : Nat) (e : Entry) (h : HeaderSegment) (origin : Origin)
    (rssi : Option Int) : State :=
  let s := s.discardSlots fun sl => sl.key.id == e.id && decide (sl.key.update ≤ h.update)
  let s := (s.endJob e.id .relay).resetRelay i h origin rssi
  let s := s.fillEntry i h origin .cancelled
  let s := if e.presented ∧ e.state ≠ .cancelled then s.queueNotice (.cancelled (s.handleAt i)) else s
  (s.startRelay i).testReportDue i

/-- What R23 makes of a header. -/
inductive HeaderOutcome where
  | ignored | duplicate | supersede | cancel
  deriving DecidableEq, Repr, Inhabited

/-- The classification of R23 for an identity the table holds. -/
def classify (e : Entry) (h : HeaderSegment) : HeaderOutcome :=
  if e.update < h.update then
    match h.action with
    | .alert => .supersede
    | .cancel => .cancel
  else if e.isExpired ∨ h.update < e.update then .ignored
  else if h.action = e.action then .duplicate
  else
    match h.action with
    | .alert => .ignored
    | .cancel => .cancel

/-- A header that reaches the Alert Table controller, with the values of R5 (R23). -/
def State.takeHeader (s : State) (h : HeaderSegment) (origin : Origin) (rssi : Option Int) : State :=
  match s.slotOf h.id with
  | none =>
    match h.action with
    | .alert => s.newAlert h origin rssi
    | .cancel => s.newCancel h origin rssi
  | some i =>
    match s.entryAt i with
    | none => s
    | some e =>
      match classify e h with
      | .ignored => s
      | .duplicate =>
        match origin with
        | .cell => s
        | .peer => s.countDuplicate i h.hop
      | .supersede => s.supersede i e h origin rssi
      | .cancel => s.cancelEntry i e h origin rssi

/-! ### The collect limit, expiry and removal (R36, R44, R46) -/

/-- Every text that is COLLECTING becomes ABSENT (R36, R44). -/
def Entry.dropCollecting (e : Entry) : Entry :=
  { e with texts := e.texts.map fun t => if t.state = .collecting then { t with state := .absent } else t }

/-- The bound slots of an entry discarded and its COLLECTING texts made ABSENT (R36, R44). -/
def State.abandonTexts (s : State) (i : Nat) (id : Identity) : State :=
  (s.discardSlots fun sl => sl.bound && sl.key.id == id).modifyEntry i Entry.dropCollecting

/-- The collect limit of the entry of a slot (R36). -/
def State.reachCollectLimit (s : State) (i : Nat) (e : Entry) : State :=
  ((s.abandonTexts i e.id).modifyEntry i fun e => { e with partialMark := true }).leaveCollecting i

/-- The entry of a slot enters EXPIRED (R44). -/
def State.expireEntry (s : State) (i : Nat) (e : Entry) : State :=
  let s := if e.collecting then s.abandonTexts i e.id else s
  let s := s.stopSends i e.id
  let s := s.modifyEntry i fun e => { e with state := .expired (s.now + seconds 120) }
  let s := if e.presented ∧ e.state ≠ .cancelled then s.queueNotice (.expired (s.handleAt i)) else s
  s.testReportDue i

/-- The entry of a slot removed at the end of its linger (R46). -/
def State.removeEntry (s : State) (i : Nat) : State :=
  (s.removeElement i).modifySlot i fun sl => { sl with entry := none }

end Sys2Proof.Machine
end

