-- ==== Sys2Proof/Machine/EventEnd.lean ====
section
/-! DEFINITION. What happens at the end of every event: R90 takes a head, R172 sends a report, R113 enters
DOZE, and R117 makes an event in DOZE that breaks its conditions a wake cause (log entry 16). -/

namespace Sys2Proof.Machine

/-- Power Control's state changed. -/
def State.withPwc (s : State) (x : Pwc) : State := { s with pwc := x }

/-- No entry waits to relay or to send its tally (R113, condition 6). -/
def State.noWaits (s : State) : Bool :=
  s.atc.table.all fun sl =>
    sl.entry.all fun e => !e.relay.state.isWaiting && !e.tallySend.state.isWaiting

/-- Conditions 4 to 8 of R113. -/
def State.workless (s : State) : Bool :=
  s.slc.queue.isEmpty && s.slc.current.isNone && s.slc.stage.isEmpty
    && s.sa.slots.all Option.isNone
    && s.noWaits
    && s.tu.outstanding.isNone
    && s.fp.pageFifo.isEmpty && s.slc.rxFifo.isEmpty

/-- Conditions 1 to 8 of R113. -/
def State.mayDoze (s : State) : Bool :=
  s.configured && s.settings.doze && s.pwc.power == .awake && s.pwc.hold == .runOut && s.workless

/-- DOZE entered (R114, R110): the SLC enters DOZE-SAMPLING, its last-activity time kept, and the first
sample window is one listen interval away. -/
def State.enterDoze (s : State) : State :=
  let s := s.withSlc { s.slc with
    lastActivity := s.lastActivityTime, medium := .dozeSampling, busyStart := none, quietSince := none }
  s.withPwc { s.pwc with
    power := .doze, nextWindow := some (s.now + millis s.settings.listenInterval), window := none,
    warmUp := none }

/-- PWC at the end of an event (R113, R117). -/
def State.settlePower (s : State) : State :=
  if s.mayDoze then s.enterDoze
  else if s.workless then s
  else s.wakeCause

/-- The end of an event: R90, then R172, then R113 and R117. -/
def State.finish (s : State) : State := s.takeHead.sendReport.settlePower

/-- An event: its outputs are its own, its effect is `f`, and its end is that of every event. -/
def event (f : State → State) (s : State) : Result := .next (f s.begin).finish

end Sys2Proof.Machine
end

