-- ==== Sys2Proof/Machine/Timers.lean ====
section
/-! DEFINITION. The timed events: when each of them falls, and which events are due (log entries 2 to 4). -/

namespace Sys2Proof.Machine

/-! ### When a timed event falls: none while its timer does not run -/

/-- The collect timer of the entry of a slot (R33). -/
def State.collectDue (s : State) (i : Nat) : Option Micros :=
  match s.entryAt i with
  | some e =>
    match e.state with
    | .collecting limit => some limit
    | _ => none
  | none => none

/-- The end of the lifetime of the entry of a slot (R43): it does not run in EXPIRED. -/
def State.lifetimeDue (s : State) (i : Nat) : Option Micros :=
  match s.entryAt i with
  | some e => if e.isExpired then none else some e.lifetimeEnd
  | none => none

/-- The linger timer of the entry of a slot (R45). -/
def State.lingerDue (s : State) (i : Nat) : Option Micros :=
  match s.entryAt i with
  | some e =>
    match e.state with
    | .expired lingerEnd => some lingerEnd
    | _ => none
  | none => none

/-- The relay wait of the entry of a slot (R128). -/
def State.relayDue (s : State) (i : Nat) : Option Micros :=
  match s.entryAt i with
  | some e =>
    match e.relay.state with
    | .waiting expiry => some expiry
    | _ => none
  | none => none

/-- The tally wait of the entry of a slot (R139). -/
def State.tallyDue (s : State) (i : Nat) : Option Micros :=
  match s.entryAt i with
  | some e =>
    match e.tallySend.state with
    | .waiting expiry => some expiry
    | _ => none
  | none => none

/-- The assembly limit of a slot: 60 s after its first segment (R59). -/
def State.assemblyDue (s : State) (n : Nat) : Option Micros :=
  (s.slotAt n).map fun sl => sl.firstSegment + seconds 60

/-- The answer timer of the outstanding report (R172). -/
def State.answerDue (s : State) : Option Micros := s.tu.outstanding.map Outstanding.expiry

/-- The awake-hold timer (R112). -/
def State.holdDue (s : State) : Option Micros :=
  match s.pwc.hold with
  | .running expiry => some expiry
  | _ => none

/-- The next sample window (R115); none opens during a warm-up. -/
def State.windowDue (s : State) : Option Micros :=
  if s.pwc.power = .doze ∧ s.pwc.warmUp = none then s.pwc.nextWindow else none

/-- The end of an open sample window: 8 ms after it opened (R115). -/
def State.closeDue (s : State) : Option Micros := s.pwc.window.map fun w => w.opened + millis 8

/-- The instant the sixth pair of a window is seen: its space has lasted 400 µs. After a sixth pair that was
counted whole, which is a pattern still to be taken, it is the instant the next mark began (DESIGN CHOICE, log entry
18). -/
def Window.sixthPair (w : Window) : Option Micros :=
  match w.phase with
  | .space since => if 6 ≤ w.pairs then some since else if w.pairs = 5 then some (since + 400) else none
  | .mark since => if 6 ≤ w.pairs then some since else none
  | .waiting => none

/-- The instant a wake pattern is seen (R116): the sixth pair's, where it lies within the window. -/
def State.patternDue (s : State) : Option Micros :=
  s.pwc.window.bind fun w => w.sixthPair.filter fun t => decide (t ≤ w.opened + millis 8)

/-- The end of the warm-up (R118). -/
def State.warmUpDue (s : State) : Option Micros := s.pwc.warmUp

/-- The instant the quiet gap completes, in the states in which the SLC neither contends nor sends (R85). -/
def State.gapInstant (s : State) : Option Micros :=
  match s.slc.medium with
  | .defer => s.slc.quietSince.map (· + millis 2)
  | .jammed => s.slc.quietSince.map (· + millis 2)
  | .idle => s.slc.quietSince.map (· + millis 2)
  | .receive => s.slc.quietSince.map (· + millis 2)
  | _ => none

/-- The completion of the quiet gap where it is waited for (R92, R107) or ends a busy period (R85). -/
def State.gapDue (s : State) : Option Micros :=
  if s.slc.medium = .defer ∨ s.slc.medium = .jammed ∨ s.slc.busyStart.isSome = true then s.gapInstant
  else none

/-- The hold limit of the busy period in progress, in the states that judge it (R106). -/
def State.jamDue (s : State) : Option Micros :=
  match s.slc.medium with
  | .defer => s.busySince.map (· + millis s.settings.holdLimit)
  | .receive => s.busySince.map (· + millis s.settings.holdLimit)
  | .contend key slot slotEnd =>
    if (Medium.contend key slot slotEnd).sending then none
    else s.busySince.map (· + millis s.settings.holdLimit)
  | _ => none

/-- The end of the contention slot (R94). -/
def State.slotDue (s : State) : Option Micros :=
  match s.slc.medium with
  | .contend _ _ slotEnd => some slotEnd
  | _ => none

/-- The end of the preamble (R97). -/
def State.preambleDue (s : State) : Option Micros :=
  match s.slc.medium with
  | .preamble _ ends => some ends
  | _ => none

/-- The burst completion (R98). -/
def State.burstDue (s : State) : Option Micros :=
  match s.slc.medium with
  | .send ends => some ends
  | _ => none

/-- A timed event taken at the instant it falls, the clock brought forward to it past a staleness of the
position (R68); without effect while its timer does not run (log entry 4). -/
def State.onTime (s : State) (due : Option Micros) (f : State → State) : State :=
  match due with
  | none => s
  | some t => f (s.advancePast t)

/-! ### Events that are due (R105, R168; log entries 2, 3) -/

/-- The timed events of the entry of a slot, with the instants they fall. -/
def State.entryTimers (s : State) (i : Nat) : List (Instr × Option Micros) :=
  [(Instr.collectLimit i, s.collectDue i), (Instr.lifetimeExpiry i, s.lifetimeDue i),
   (Instr.lingerExpiry i, s.lingerDue i), (Instr.relayWaitExpiry i, s.relayDue i),
   (Instr.tallyWaitExpiry i, s.tallyDue i)]

/-- The timed event of an assembly slot, with the instant it falls. -/
def State.slotTimer (s : State) (n : Nat) : Instr × Option Micros := (Instr.assemblyLimit n, s.assemblyDue n)

/-- The timed events that belong to no entry and no slot, with the instants they fall. -/
def State.partTimers (s : State) : List (Instr × Option Micros) :=
  [(Instr.positionStale, s.staleDue), (Instr.answerTimerExpiry, s.answerDue),
   (Instr.awakeHoldRunOut, s.holdDue), (Instr.sampleWindowOpen, s.windowDue),
   (Instr.sampleWindowClose, s.closeDue), (Instr.wakePattern, s.patternDue),
   (Instr.warmUpEnd, s.warmUpDue), (Instr.quietGapComplete, s.gapDue),
   (Instr.holdLimitReached, s.jamDue), (Instr.contentionSlotEnd, s.slotDue),
   (Instr.preambleEnd, s.preambleDue), (Instr.burstCompletion, s.burstDue)]

/-- Each timed event with the instant it falls. -/
def State.timers (s : State) : List (Instr × Option Micros) :=
  (List.range s.atc.table.length).flatMap s.entryTimers
    ++ ((List.range s.sa.slots.length).map s.slotTimer ++ s.partTimers)

/-- The timed events that fall now or are overdue. -/
def State.dueTimers (s : State) : List Instr :=
  s.timers.filterMap fun p => p.2.bind fun t => if t ≤ s.now then some p.1 else none

/-- A FIFO with a segment to process has its event (R105, R168). -/
def State.dueFifos (s : State) : List Instr :=
  (if s.fp.pageFifo.isEmpty then [] else [.pageFifoProcess])
  ++ (if s.slc.rxFifo.isEmpty || !s.slc.medium.measures then [] else [.rxFifoProcess])

/-- What the part may do next of its own accord. Nothing but a FIFO's event may wait while time passes. -/
def State.moves (s : State) : List (Option Instr) :=
  let own := (s.dueTimers ++ s.dueFifos).map some
  if s.dueTimers.isEmpty then own ++ [none] else own

/-- The part's own move, by the free value of `Config.eventOrder` where there are several (log entry 3);
`none` lets one microsecond pass. -/
def State.ownMove (s : State) : Option Instr :=
  match s.moves with
  | [m] => m
  | ms => (ms[Sys2Proof.Config.eventOrder s.choice % ms.length]?).join

end Sys2Proof.Machine
end

