-- ==== Sys2Proof/Machine/FeedEvents.lean ====
section
/-! DEFINITION. The events of the feed port (chapter 9): messages, the modem's ready line, the page FIFO and
the answer timer. -/

namespace Sys2Proof.Machine

/-- A PAGE joins the page FIFO, or is dropped with RX-OVERRUN (R167). -/
def State.joinPage (s : State) (p : Page) : State :=
  if s.fp.pageFifo.length < 8 then s.withFp { s.fp with pageFifo := s.fp.pageFifo ++ [p] }
  else s.setRxOverrun

/-- The coverage state set, with its notice where it changes (R169). -/
def State.setCoverage (s : State) (c : Bool) : State :=
  if s.fp.coverage = c then s
  else (s.withFp { s.fp with coverage := c }).queueNotice .coverageChanged

/-- A well-formed COVERAGE PRESENT message (R169). -/
def State.coveragePresent (s : State) (zone : ZoneCode) : State :=
  let s := s.setCoverage true
  (s.withFp { s.fp with blocked := false }).applyServingZone zone

/-- An answer applied to the outstanding report of its identity, and ignored otherwise (R173 to R175). -/
def State.answerReport (s : State) (id : Identity) (f : State → Outstanding → State) : State :=
  match s.tu.outstanding with
  | some o => if o.id = id then f s o else s
  | none => s

/-- A well-formed feed message handled by kind (R166). -/
def State.takeFeed (s : State) : FeedMessage → State
  | .page kind segment => s.joinPage ⟨kind, segment⟩
  | .coverageAbsent => s.setCoverage false
  | .coveragePresent zone => s.coveragePresent zone
  | .reportDone id => s.answerReport id State.reportDone
  | .reportRefused id => s.answerReport id State.reportRefused

/-- A message from the modem (R166, R11): discarded while UNCONFIGURED, activity otherwise, dropped with
MALFORMED if its envelope is malformed. -/
def State.feedArrival (s : State) (kind length : Byte) (body : List Byte) : State :=
  if s.configured then
    match readFeed kind length body with
    | none => s.activity.setMalformed
    | some m => s.activity.takeFeed m
  else s

/-- PAGE (R167). -/
def execPage (kind : PageKind) (length : Byte) (body : List Byte) (s : State) : Result :=
  event (fun s => s.feedArrival (pageKindByte kind) length body) s

/-- COVERAGE (R169). -/
def execCoverage (length : Byte) (body : List Byte) (s : State) : Result :=
  event (fun s => s.feedArrival 3 length body) s

/-- REPORT_DONE (R173). -/
def execReportDone (length : Byte) (body : List Byte) (s : State) : Result :=
  event (fun s => s.feedArrival 4 length body) s

/-- REPORT_REFUSED (R174). -/
def execReportRefused (length : Byte) (body : List Byte) (s : State) : Result :=
  event (fun s => s.feedArrival 5 length body) s

/-- FEED_MESSAGE_OTHER_KIND (R11, R166). -/
def execFeedMessageOtherKind (kind length : Byte) (body : List Byte) (s : State) : Result :=
  event (fun s => s.feedArrival kind length body) s

/-- The modem lost, in the order of R176. -/
def State.loseModem (s : State) : State :=
  let s := s.withFp { s.fp with modemReady := false, pageFifo := [] }
  let s :=
    match s.tu.outstanding with
    | some o => s.reportRefused o
    | none => s
  s.setCoverage false

/-- MODEM_READY_DROP (R176); while UNCONFIGURED the change is recorded only (R165). -/
def execModemReadyDrop (s : State) : Result :=
  event (fun s =>
    if s.configured then s.activity.loseModem else s.withFp { s.fp with modemReady := false }) s

/-- MODEM_READY_RISE (R176, R165). -/
def execModemReadyRise (s : State) : Result :=
  event (fun s =>
    (if s.configured then s.activity else s).withFp { s.fp with modemReady := true }) s

/-- A segment of the page FIFO checked and handed on with origin CELL (R3, R168). -/
def State.takePage (s : State) (p : Page) : State :=
  match p.kind with
  | .header =>
    match readHeader p.segment with
    | some h => s.takeHeader (h.taken s.settings.hopLimit) .cell none
    | none => s.setMalformed
  | .text =>
    match readText p.segment with
    | some t => s.takeText t
    | none => s.setMalformed

/-- PAGE_FIFO_PROCESS (R168); what it accepts or completes reads the position (R68). No rule orders it against the
staleness of the position where both fall at one instant; DESIGN CHOICE (log entry 33): the staleness is carried out
first, within this event, whatever the segment is, one that is malformed or reads no position included. -/
def execPageFifoProcess (s : State) : Result :=
  event (fun s =>
    match s.fp.pageFifo with
    | [] => s
    | p :: rest => (s.withFp { s.fp with pageFifo := rest }).dropStale.takePage p) s

/-- ANSWER_TIMER_EXPIRY (R174): treated as a REPORT REFUSED for the outstanding identity. -/
def execAnswerTimerExpiry (s : State) : Result :=
  event (fun s =>
    s.onTime s.answerDue fun s =>
      match s.tu.outstanding with
      | some o => s.reportRefused o
      | none => s) s

end Sys2Proof.Machine
end

