-- ==== Sys2Proof/Machine/LinkCommands.lean ====
section
/-! DEFINITION. The commands of the application link (chapter 10, R69, R70, R74, R80, R108), the response
read, the link reset line and power-on reset. -/

namespace Sys2Proof.Machine

/-! ### Taking a command (R179, R180) -/

/-- The pending response set or dropped. -/
def State.withResponse (s : State) (r : Option Response) : State := { s with al := { s.al with response := r } }

/-- A response built and pending (R179). -/
def State.respond (s : State) (r : Response) : State := s.withResponse (some r)

/-- A command refused with a code; it changes no other state (R180). -/
def State.refuse (s : State) (code : RefusalCode) : State := s.respond (.refused code)

/-- A command transfer (R179): activity in every case; discarded while the link reset line is asserted,
answered BUSY while a response is pending, carried out otherwise. -/
def transfer (f : State → State) (s : State) : State :=
  let s := s.activity
  if s.al.resetLine then s
  else if s.al.response.isSome then s.answer .busy
  else f s

/-- A command that needs a configured part (R180, second check). -/
def whenConfigured (f : State → State) (s : State) : State :=
  if s.configured then f s else s.refuse .notConfigured

/-- A command transfer of a configured part, as one event. -/
def command (f : State → State) (s : State) : Result := event (transfer (whenConfigured f)) s

/-- A command that names an entry by its handle (R2, R180): the slot number in range, the entry of its
generation. -/
def withHandle (h : Handle) (f : Entry → State → State) (s : State) : State :=
  if 31 < h.slot then s.refuse .badArgument
  else
    match s.entryAt h.slot with
    | none => s.refuse .staleHandle
    | some e => if s.genAt h.slot = h.gen then f e s else s.refuse .staleHandle

/-! ### CONFIGURE (R181, R182) -/

/-- A value replaced by the nearer end of a range it lies outside (00_scope.md, "Numbers"). -/
def clamp (lo hi n : Nat) : Nat := max lo (min n hi)

/-- The configuration as taken (R181), for a record with the given tag and doze setting. -/
def takenSettings (r : ConfigRecord) (tag : Tag) (doze : Bool) : Settings :=
  let listen := clamp 100 2000 (r.listenInterval.getD 500)
  { tag := tag
    hopLimit := min (r.hopLimit.getD 4) 7
    threshold := clamp 1 7 (r.threshold.getD 2)
    listenInterval := listen
    awakeHold := clamp 2 60 (r.awakeHold.getD 10)
    holdLimit := clamp (listen + 100) 3000 (r.holdLimit.getD 800)
    zoneHold := clamp 1 120 (r.zoneHold.getD 30)
    reportStep := clamp 1 1000 (r.reportStep.getD 10)
    doze := doze }

/-- One entry of the category map as taken (R181, R15): none where it is refused. -/
def takeCategory (given : Option CategoryArg) (default : CategoryEntry) : Option CategoryEntry :=
  match given with
  | none => some default
  | some ⟨p, some pc, some rc⟩ => if p ≤ 15 then some ⟨p, pc, rc⟩ else none
  | some _ => none

/-- The category map as taken (R181, R15): one given element for each element of the default map, none
where the record is refused. -/
def takeMap : List (Option CategoryArg) → List CategoryEntry → Option (List CategoryEntry)
  | [], [] => some []
  | g :: gs, d :: ds =>
    match takeCategory g d, takeMap gs ds with
    | some c, some cs => some (c :: cs)
    | _, _ => none
  | _, _ => none

/-- The configuration and category map of a record that R181 accepts; none where it is refused. -/
def takenRecord (r : ConfigRecord) : Option (Settings × List CategoryEntry) :=
  match r.stationTag, r.dozeEnabled, takeMap r.categories defaultMap with
  | some tag, some doze, some map => if tag = 0 then none else some (takenSettings r tag doze, map)
  | _, _, _ => none

/-- A configuration taken, in the order of R182. -/
def State.takeConfig (s : State) (cfg : Settings) (map : List CategoryEntry) : State :=
  let s := { s with al := { s.al with config := some cfg }, atc := { s.atc with map := map } }
  let s := (s.withMedium .idle).startMeasuring
  s.restartHold.respond (.configured cfg map)

/-- CONFIGURE's effect (R180 to R182). -/
def State.configure (s : State) (r : ConfigRecord) : State :=
  if s.configured then s.refuse .alreadyConfigured
  else
    match takenRecord r with
    | none => s.refuse .badArgument
    | some (cfg, map) => s.takeConfig cfg map

/-- CONFIGURE (R181, R182, R184). -/
def execConfigure (r : ConfigRecord) (s : State) : Result := event (transfer fun s => s.configure r) s

/-! ### Position, opt-in and participation -/

/-- SET_POSITION (R69). -/
def execSetPosition (zone : ZoneCode) (s : State) : Result :=
  command (fun s =>
    if zoneOk zone then (s.changePosition (some ⟨zone, .application, s.now⟩)).respond .done
    else s.refuse .badArgument) s

/-- CLEAR_POSITION (R70). -/
def execClearPosition (s : State) : Result :=
  command (fun s => (if s.atc.position.isSome then s.changePosition none else s).respond .done) s

/-- SET_OPT_IN (R74). At the very instant of staleness the position becomes NONE first, also where no entry is HELD
(DESIGN CHOICE, log entry 33). -/
def execSetOptIn (marks : BitVec 16) (s : State) : Result :=
  command (fun s =>
    let s := s.dropStale
    ({ s with atc := { s.atc with optIn := marks } } : State).reevaluate.respond .done) s

/-- What the change to LISTEN-ONLY does to the records of an entry (R108 step 3, R136, R142). -/
def withhold (e : Entry) : Entry :=
  { e with
    relay := { e.relay with
      state := if e.relay.state.unfinished then .withheld else e.relay.state }
    tallySend := { e.tallySend with
      state := if e.tallySend.state = .sending then .sending else .idle
      resend := false } }

/-- DEFER and CONTEND become IDLE (R108, step 4). -/
def State.leaveContention (s : State) : State :=
  match s.slc.medium with
  | .defer => s.withMedium .idle
  | .contend _ _ _ => s.withMedium .idle
  | _ => s

/-- The change from FULL to LISTEN-ONLY, in the order of R108. -/
def State.goListenOnly (s : State) : State :=
  let s := { s with al := { s.al with participation := .listenOnly } }
  let s :=
    match s.slc.current with
    | some c => s.endCurrent c
    | none => s
  ((s.withQueue []).mapEntries withhold).leaveContention

/-- SET_PARTICIPATION's effect (R108, R109). -/
def State.setParticipation (s : State) (p : ParticipationArg) : State :=
  match p with
  | .other => s.refuse .badArgument
  | .full => ({ s with al := { s.al with participation := .full } } : State).respond .done
  | .listenOnly => (if s.fullPart then s.goListenOnly else s).respond .done

/-- SET_PARTICIPATION (R108, R184). -/
def execSetParticipation (p : ParticipationArg) (s : State) : Result :=
  command (fun s => s.setParticipation p) s

/-! ### ACKNOWLEDGE (R80, R81) -/

/-- What ACKNOWLEDGE does to the entry its handle names (R80). -/
def State.acknowledge (s : State) (i : Nat) (e : Entry) : State :=
  match e.state with
  | .presenting => (s.enterAcknowledged i).respond .done
  | .held => (s.enterAcknowledged i).respond .done
  | .acknowledged => s.respond .done
  | .collecting _ => s.refuse .wrongState
  | .cancelled => s.refuse .wrongState
  | .expired _ => s.refuse .wrongState

/-- ACKNOWLEDGE (R80). -/
def execAcknowledge (h : Handle) (s : State) : Result :=
  command (withHandle h fun e s => s.acknowledge h.slot e) s

/-! ### Reading (R185 to R188) -/

/-- A relay state as it is reported (R185). -/
def RelayState.name : RelayState → RelayStateName
  | .none => .none
  | .waiting _ => .waiting
  | .queued => .queued
  | .staged => .staged
  | .sending => .sending
  | .done => .done
  | .suppressed => .suppressed
  | .withheld => .withheld
  | .dropped => .dropped

/-- A text state as it is reported (R185). -/
def TextState.report : TextState → TextReport
  | .absent => .absent
  | .collecting => .collecting
  | .complete chain => .complete (chainLength chain)
  | .released => .released

/-- The summary record of an entry (R185). -/
def State.summary (s : State) (i : Nat) (e : Entry) : Summary where
  handle := s.handleAt i
  id := e.id
  update := e.update
  action := e.action
  category := e.category
  precedence := e.precedence
  state := e.state.name
  origin := e.origin
  area := e.area
  zones := e.zones
  lifetime := e.remaining s.now
  texts := e.texts.map fun t => (t.lang, t.state.report)
  partialMark := e.partialMark
  ownAck := e.ownAck
  relay := e.relay.state.name
  mode := tallyMode e.tally
  count := tallyCount e.tally

/-- The summary record of the entry of a slot returned; its area result is never that of a stale position
(R68, R72). -/
def State.respondSummary (s : State) (i : Nat) : State :=
  let s := s.dropStale
  match s.entryAt i with
  | some e => s.respond (.summary (s.summary i e))
  | none => s.refuse .staleHandle

/-- READ_ALERT (R185). -/
def execReadAlert (h : Handle) (s : State) : Result :=
  command (withHandle h fun _ s => s.respondSummary h.slot) s

/-- The bytes READ TEXT returns of a COMPLETE text (R186): from the offset onwards, at most 96. -/
def readChain (chain : List Block) (offset length : Nat) : List Byte :=
  (List.range (min (min length 96) (chainLength chain - offset))).filterMap fun k =>
    chainByte chain (offset + k)

/-- The response of READ TEXT for a text record (R186); none where the entry has no such record. -/
def textResponse (t : Option TextRecord) (offset length : Nat) : Response :=
  match t with
  | none => .refused .badArgument
  | some t =>
    match t.state with
    | .absent => .refused .wrongState
    | .collecting => .refused .wrongState
    | .released => .refused .textReleased
    | .complete chain => .text (readChain chain offset length)

/-- READ_TEXT (R186): a text index above 3 is refused before the handle is checked. -/
def execReadText (h : Handle) (index offset length : Nat) (s : State) : Result :=
  command (fun s =>
    if 3 < index then s.refuse .badArgument
    else withHandle h (fun e s => s.respond (textResponse e.texts[index]? offset length)) s) s

/-- LIST_ALERTS (R187). -/
def execListAlerts (s : State) : Result :=
  command (fun s =>
    s.respond (.alerts (s.entries.map fun p => (s.handleAt p.1, p.2.state.name)))) s

/-- A medium state as it is reported (R84). -/
def Medium.name : Medium → MediumName
  | .off => .off
  | .idle => .idle
  | .defer => .defer
  | .contend _ _ _ => .contend
  | .preamble _ _ => .preamble
  | .send _ => .send
  | .receive => .receive
  | .jammed => .jammed
  | .dozeSampling => .dozeSampling

/-- The status record (R188). -/
def State.status (s : State) : StatusRecord where
  configured := s.configured
  power := s.pwc.power
  medium := s.slc.medium.name
  coverage := s.fp.coverage
  blocked := s.fp.blocked
  position := s.atc.position.map fun p => ⟨p.zone, p.source, (s.now - p.written) / 1000000⟩
  participation := s.al.participation
  entries := s.entries.length
  freeBlocks := s.freeBlocks
  sendQueue := s.slc.queue.length
  outstanding := s.tu.outstanding.map Outstanding.id
  flags := s.al.flags

/-- READ_STATUS (R188), taken in both configured states; it never reads a stale position (R68). -/
def execReadStatus (s : State) : Result :=
  event (transfer fun s =>
    let s := s.dropStale
    s.respond (.status s.status)) s

/-! ### Notices, flags and the link itself (R189, R191, R192) -/

/-- FETCH_NOTICE (R191). -/
def execFetchNotice (s : State) : Result :=
  command (fun s => (s.withNotices s.al.notices.tail).respond (.notice s.al.notices.head?)) s

/-- CLEAR_FLAGS (R189). -/
def execClearFlags (marks : Flags) (s : State) : Result :=
  command (fun s =>
    ({ s with al := { s.al with flags := clearMarked s.al.flags marks } } : State).respond .done) s

/-- A PRESENT notice for the entry of a slot if it is PRESENTING (R192, step 4). -/
def State.presentAgain (s : State) (i : Nat) : State :=
  match s.entryAt i with
  | some e => if e.state = .presenting then s.queueNotice (.present (s.handleAt i)) else s
  | none => s

/-- A link restart, steps 1 to 4 (R192). -/
def State.restartLink (s : State) : State :=
  (List.range s.atc.table.length).foldl State.presentAgain
    (((s.withNotices []).withResponse none).clearNoticeOverflow)

/-- RESTART_LINK (R192). -/
def execRestartLink (s : State) : Result := command (fun s => s.restartLink.respond .done) s

/-- UNKNOWN_COMMAND (R180): BAD-ARGUMENT in both configured states. -/
def execUnknownCommand (s : State) : Result := event (transfer fun s => s.refuse .badArgument) s

/-- RESPONSE_READ (R179): the pending response, or an empty answer; it is no activity. -/
def execResponseRead (s : State) : Result :=
  event (fun s =>
    match s.al.response with
    | some r => (s.withResponse none).answer (.response r)
    | none => s.answer .empty) s

/-- LINK_RESET_LINE_ASSERTED (R192): one restart at the change from off to asserted. -/
def execLinkResetLineAsserted (s : State) : Result :=
  event (fun s =>
    if s.al.resetLine then s
    else ({ s.activity with al := { s.activity.al with resetLine := true } } : State).restartLink) s

/-- LINK_RESET_LINE_RELEASED (R192). -/
def execLinkResetLineReleased (s : State) : Result :=
  event (fun s => { s with al := { s.al with resetLine := false } }) s

/-- POWER_ON_RESET (R178): every block at its power-on value. The modem-ready state is as the line shows
(R165); the carrier input and the link reset line keep their levels, the waiting commands stay, and the
free-choice counter goes on (log entries 7, 8). -/
def execPowerOnReset (modemReady : Bool) (s : State) : Result :=
  .next { State.reset with
    pending := s.pending
    choice := s.choice
    fp := { State.reset.fp with modemReady := modemReady }
    al := { State.reset.al with resetLine := s.al.resetLine }
    slc := { State.reset.slc with carrier := s.slc.carrier.map fun _ => 0 } }

end Sys2Proof.Machine
end

