-- ==== Sys2Proof/Machine/PowerEvents.lean ====
section
/-! DEFINITION. The events of Power Control (chapter 6). -/

namespace Sys2Proof.Machine

/-- AWAKE_HOLD_RUN_OUT (R112): DOZE follows at the end of the event where R113 allows it. -/
def execAwakeHoldRunOut (s : State) : Result :=
  event (fun s => s.onTime s.holdDue fun s => s.withHold .runOut) s

/-- A sample window opened now (R115, R116): carrier that began at this instant is a mark; carrier already
present is not. The next window is one listen interval after this one began. -/
def State.openWindow (s : State) : State :=
  s.withPwc { s.pwc with
    nextWindow := some (s.now + millis s.settings.listenInterval)
    window := some ⟨s.now, 0, if s.slc.carrier = some s.now then .mark s.now else .waiting⟩ }

/-- SAMPLE_WINDOW_OPEN (R115). A window that is still open is replaced, and with it a pattern whose WAKE_PATTERN row
still waits (DESIGN CHOICE, log entry 18). -/
def execSampleWindowOpen (s : State) : Result := event (fun s => s.onTime s.windowDue State.openWindow) s

/-- SAMPLE_WINDOW_CLOSE (R115). A pattern whose WAKE_PATTERN row still waits is lost with the window (DESIGN CHOICE,
log entry 18). -/
def execSampleWindowClose (s : State) : Result :=
  event (fun s => s.onTime s.closeDue fun s => s.withPwc { s.pwc with window := none }) s

/-- WAKE_PATTERN (R116, R117): seen where the SLC has counted six pairs within the open window, at the instant
the count gives; without effect elsewhere (log entry 18). -/
def execWakePattern (s : State) : Result := event (fun s => s.onTime s.patternDue State.wakeCause) s

/-- AWAKE entered at the end of the warm-up, in the order of R118. -/
def State.wake (s : State) : State :=
  let s := s.withPwc { s.pwc with power := .awake, warmUp := none }
  (s.restartHold.withMedium .idle).startMeasuring

/-- WARM_UP_END (R118). -/
def execWarmUpEnd (s : State) : Result := event (fun s => s.onTime s.warmUpDue State.wake) s

end Sys2Proof.Machine
end

