-- ==== Sys2Proof/Machine/SidelinkEvents.lean ====
section
/-! DEFINITION. The events of the sidelink (chapter 5): carrier, sync, frames, the quiet gap, jams,
contention, preamble and burst. In DOZE the carrier is seen by a sample window only (R115, R116). -/

namespace Sys2Proof.Machine

/-! ### Carrier (R85, R95, R116) -/

/-- An activity report of the SLC: it restarts the awake hold in AWAKE (R85, R112). -/
def State.slcActivity (s : State) : State :=
  match s.pwc.power with
  | .awake => s.restartHold
  | .doze => s

/-- Whether a mark or a space lies within the bounds of R116. -/
def pairLength (since now : Micros) : Bool := since + 400 ≤ now && now ≤ since + 600

/-- Carrier begins in a sample window (R116): a space within bounds completes a pair, and a mark begins. A
row that repeats a begin, in a mark, begins the mark anew (DESIGN CHOICE, log entry 26). The mark whose beginning
ends a space out of bounds is itself the next mark that begins, with which counting resumes (DEDUCED, log entry
18). R116 has the pattern seen as the sixth space reaches 400 µs; DESIGN CHOICE (log entry 18): a pattern whose
WAKE_PATTERN row still waits when that space ends past its bounds is lost with the count. -/
def Window.markBegins (w : Window) (now : Micros) : Window :=
  match w.phase with
  | .space since => { w with pairs := if pairLength since now then w.pairs + 1 else 0, phase := .mark now }
  | _ => { w with phase := .mark now }

/-- Carrier ends in a sample window (R116): a mark within bounds is followed by a space. A row that repeats
an end, outside a mark, changes nothing (DESIGN CHOICE, log entry 26). A mark out of bounds sets the count to 0, and
with it a pattern whose WAKE_PATTERN row still waits is lost (DESIGN CHOICE, log entry 18). -/
def Window.markEnds (w : Window) (now : Micros) : Window :=
  match w.phase with
  | .mark since => if pairLength since now then { w with phase := .space now }
    else { w with pairs := 0, phase := .waiting }
  | _ => w

/-- The open sample window changed. -/
def State.mapWindow (s : State) (f : Window → Window) : State :=
  s.withPwc { s.pwc with window := s.pwc.window.map f }

/-- The transceiver's carrier input set. -/
def State.withCarrier (s : State) (c : Option Micros) : State := s.withSlc { s.slc with carrier := c }

/-- A loss in a listening slot of CONTEND (R95). -/
def State.lose (s : State) : State := (s.withSlc { s.slc with losses := s.slc.losses + 1 }).enterDefer

/-- Carrier heard to begin (R85): a busy period is in progress, the quiet gap and the awake hold restart;
in a listening slot of CONTEND it is a loss (R95). R85 describes the change only; DESIGN CHOICE (log entry
26): a row that repeats a begin, with carrier recorded as present already, is acted on again. No rule orders carrier
that begins at the very instant 2 ms of quiet are reached against that gap's completion; DESIGN CHOICE (log entry
30): taken before QUIET_GAP_COMPLETE, it finds the old busy period over and begins a new one, and as it restarts the
gap, no contention begins and no jam clears. -/
def State.hearCarrier (s : State) : State :=
  let s := (s.withSlc { s.slc with
    carrier := some s.now, quietSince := none, busyStart := some (s.busySince.getD s.now) }).slcActivity
  match s.slc.medium with
  | .contend _ _ _ => s.lose
  | _ => s

/-- CARRIER_BEGIN (R85). While the station is sending nothing is reported (log entry 17). -/
def execCarrierBegin (s : State) : Result :=
  event (fun s =>
    match s.slc.medium with
    | .off => s.withCarrier (some s.now)
    | .dozeSampling => (s.withCarrier (some s.now)).mapWindow fun w => w.markBegins s.now
    | m => if m.sending then s else s.hearCarrier) s

/-- A reception ends with the carrier (R103): inside a frame it sets DAMAGED. -/
def State.endReception (s : State) (unfinished : Nat) : State :=
  let s := if unfinished = 0 then s else s.setDamaged
  if s.slc.stage.isEmpty then s.withMedium .idle else s.enterDefer

/-- Carrier heard to end (R85, R103). R85 describes the change only; DESIGN CHOICE (log entry 26): a row that
repeats an end, with no carrier recorded as present, is acted on again: activity, the quiet gap from now, the
last-activity time, and the end of a reception. -/
def State.loseCarrier (s : State) (unfinished : Nat) : State :=
  let s := (s.withSlc { s.slc with
    carrier := none, quietSince := some s.now, lastActivity := some s.now }).slcActivity
  match s.slc.medium with
  | .receive => s.endReception unfinished
  | _ => s

/-- CARRIER_END (R85). While the station is sending nothing is reported (log entry 17). -/
def execCarrierEnd (unfinished : Nat) (s : State) : Result :=
  event (fun s =>
    match s.slc.medium with
    | .off => s.withCarrier none
    | .dozeSampling => (s.withCarrier none).mapWindow fun w => w.markEnds s.now
    | m => if m.sending then s else s.loseCarrier unfinished) s

/-! ### Receiving (R103 to R105) -/

/-- SYNC_DETECTED (R103): IDLE and DEFER go to RECEIVE, and the quiet gap is abandoned. R106 enters JAMMED in the
event that enters DEFER in a busy period that has lasted the hold limit, and does not say so of RECEIVE; DESIGN CHOICE
(log entry 31): a sync in IDLE in such a busy period enters RECEIVE, and the jam is left to HOLD_LIMIT_REACHED, which
is due at once. -/
def execSyncDetected (s : State) : Result :=
  event (fun s =>
    match s.slc.medium with
    | .idle => s.withSlc { s.slc with medium := .receive, quietSince := none }
    | .defer => s.withSlc { s.slc with medium := .receive, quietSince := none }
    | _ => s) s

/-- A frame that completes reception (R104). -/
def State.frameArrives (s : State) (f : Frame) (rssi : Int) : State :=
  if frameCheckOk f then
    if s.slc.rxFifo.length < 4 then
      s.withSlc { s.slc with rxFifo := s.slc.rxFifo ++ [⟨f, clampRssi rssi⟩] }
    else s.setRxOverrun
  else s.setDamaged

/-- FRAME_RECEIVED (R104): frames are received in RECEIVE only (R84). -/
def execFrameReceived (f : Frame) (rssi : Int) (s : State) : Result :=
  event (fun s =>
    match s.slc.medium with
    | .receive => s.frameArrives f rssi
    | _ => s) s

/-- A segment of a received frame handed by kind with origin PEER (R3, R105). -/
def State.takeSegment (s : State) (seg : Segment) (rssi : Int) : State :=
  match seg with
  | .header h => s.takeHeader (h.taken s.settings.hopLimit) .peer (some rssi)
  | .text t => s.takeText t
  | .tally t => s.takeTally t

/-- A frame taken out of the receive FIFO (R9): malformed, of the own tag, or handed on. -/
def State.takeFrame (s : State) (r : RxFrame) : State :=
  match readFrame r.frame with
  | none => s.setMalformed
  | some seg => if r.frame.sender = s.settings.tag then s else s.takeSegment seg r.rssi

/-- RX_FIFO_PROCESS (R105): in every medium state but OFF and DOZE-SAMPLING; what it accepts or completes reads
the position (R68). No rule orders it against the staleness of the position where both fall at one instant; DESIGN
CHOICE (log entry 33): the staleness is carried out first, within this event, whatever the frame is, one that is
malformed, of the own tag, or reads no position included. -/
def execRxFifoProcess (s : State) : Result :=
  event (fun s =>
    if s.slc.medium.measures then
      match s.slc.rxFifo with
      | [] => s
      | r :: rest => (s.withSlc { s.slc with rxFifo := rest }).dropStale.takeFrame r
    else s) s

/-! ### The quiet gap and jams (R92, R106, R107) -/

/-- The quiet gap completes: the busy period ends; contention begins in DEFER; a jam clears (R85, R92,
R107). -/
def State.completeGap (s : State) : State :=
  let s := s.withSlc { s.slc with busyStart := none }
  match s.slc.medium with
  | .defer => if s.slc.stage.isEmpty then s.withMedium .idle else s.beginContention
  | .jammed =>
    let s := s.queueNotice .mediumClear
    if s.slc.stage.isEmpty then s.withMedium .idle else s.enterDefer
  | _ => s

/-- QUIET_GAP_COMPLETE (R92). -/
def execQuietGapComplete (s : State) : Result :=
  event (fun s => s.onTime s.gapInstant State.completeGap) s

/-- HOLD_LIMIT_REACHED (R106). -/
def execHoldLimitReached (s : State) : Result :=
  event (fun s => s.onTime s.jamDue State.enterJammed) s

/-! ### Contention, preamble and burst (R94, R97 to R99) -/

/-- The preamble chosen at the win (R97): LONG after quiet of at least half the awake hold. -/
def State.choosePreamble (s : State) : Preamble :=
  match s.lastActivityTime with
  | none => .long
  | some t => if t + s.settings.awakeHold * 500000 ≤ s.now then .long else .short

/-- What a preamble is made of, in the order it is sent (R97): SHORT is the 1 ms sync; LONG is mark–space
pairs of 500 µs and 500 µs for the listen interval + 19 ms, and then the 1 ms sync. -/
def preambleParts (kind : Preamble) (listenInterval : Nat) : List PreamblePart :=
  match kind with
  | .short => [.sync (millis 1)]
  | .long => [.pairs (listenInterval + 19) 500 500, .sync (millis 1)]

/-- How long a part of a preamble lasts (R97). -/
def PreamblePart.time : PreamblePart → Micros
  | .pairs count mark space => count * (mark + space)
  | .sync length => length

/-- How long a preamble lasts (R97): as long as its parts, so 1 ms, or the listen interval + 20 ms. -/
def preambleTime (kind : Preamble) (listenInterval : Nat) : Micros :=
  ((preambleParts kind listenInterval).map PreamblePart.time).sum

/-- The contention won (R94): the preamble begins, and the win of a first burst is reported. -/
def State.win (s : State) : State :=
  let kind := s.choosePreamble
  let s := (s.withSlc { s.slc with
    medium := .preamble kind (s.now + preambleTime kind s.settings.listenInterval)
    quietSince := none }).emit (.preamble kind (preambleParts kind s.settings.listenInterval))
  match s.slc.current with
  | some c => if c.won then s else (s.withCurrent (some { c with won := true })).reportWon c.job
  | none => s

/-- The end of a contention slot (R94). -/
def State.endSlot (s : State) : State :=
  match s.slc.medium with
  | .contend key slot _ => if slot < 16 then s.beginSlot key (slot + 1) else s.win
  | _ => s

/-- CONTENTION_SLOT_END (R94). -/
def execContentionSlotEnd (s : State) : Result := event (fun s => s.onTime s.slotDue State.endSlot) s

/-- Time on air of a burst (R98). -/
def burstAirtime (frames : List Frame) : Micros := (frames.map frameAirtime).sum

/-- The staged frames go on the air (R98). -/
def State.sendBurst (s : State) : State :=
  (s.withMedium (.send (s.now + burstAirtime s.slc.stage))).emit (.burst s.slc.stage)

/-- PREAMBLE_END (R98). -/
def execPreambleEnd (s : State) : Result := event (fun s => s.onTime s.preambleDue State.sendBurst) s

/-- The current job is over: none is current and the SLC is IDLE until R90 takes the next head (R99,
step 3). -/
def State.clearCurrent (s : State) : State :=
  s.withSlc { s.slc with current := none, medium := .idle }

/-- The current job after one of its bursts (R99): ended, continued with its next burst, or complete. A next
burst none of whose frames can be built completes the job; no reachable state has one (log entry 15). -/
def State.afterBurst (s : State) (c : CurrentJob) : State :=
  if c.endMark then s.clearCurrent.reportEnded c.job
  else if (s.buildBurst c.job.id (c.unstaged.take 6)).isEmpty then s.clearCurrent.reportCompleted c.job
  else (s.stageBurst c).enterDefer

/-- The burst completion, in the order of R99, with R85's activity. -/
def State.completeBurst (s : State) : State :=
  let s := (s.withSlc { s.slc with
    stage := [], losses := 0, lastActivity := some s.now, quietSince := some s.now }).slcActivity
  match s.slc.current with
  | some c => s.afterBurst c
  | none => s.withMedium .idle

/-- BURST_COMPLETION (R99). -/
def execBurstCompletion (s : State) : Result := event (fun s => s.onTime s.burstDue State.completeBurst) s

end Sys2Proof.Machine
end

