-- ==== Sys2Proof/Machine/TimerEvents.lean ====
section
/-! DEFINITION. The timers of entries, slots, waits and the position record (R36, R44, R46, R59, R68, R129,
R140). -/

namespace Sys2Proof.Machine

/-- What is done for the entry of a slot, if the slot holds one. -/
def State.forEntry (s : State) (i : Nat) (f : State → Entry → State) : State :=
  match s.entryAt i with
  | some e => f s e
  | none => s

/-- COLLECT_LIMIT (R36); its decision reads the position (R68). -/
def execCollectLimit (i : Nat) (s : State) : Result :=
  event (fun s =>
    s.onTime (s.collectDue i) fun s => s.dropStale.forEntry i fun s e => s.reachCollectLimit i e) s

/-- LIFETIME_EXPIRY (R44). -/
def execLifetimeExpiry (i : Nat) (s : State) : Result :=
  event (fun s => s.onTime (s.lifetimeDue i) fun s => s.forEntry i fun s e => s.expireEntry i e) s

/-- LINGER_EXPIRY (R46). -/
def execLingerExpiry (i : Nat) (s : State) : Result :=
  event (fun s => s.onTime (s.lingerDue i) fun s => s.removeEntry i) s

/-- POSITION_STALE (R68). -/
def execPositionStale (s : State) : Result :=
  event (fun s => s.onTime s.staleDue State.dropStale) s

/-- ASSEMBLY_LIMIT (R59). -/
def execAssemblyLimit (n : Nat) (s : State) : Result :=
  event (fun s => s.onTime (s.assemblyDue n) fun s => s.discardSlot n) s

/-- The RELAY job of an entry (R86, R129, R134). R86 gives jobs placed by distinct events distinct times queued; DESIGN
CHOICE (log entry 32): the time queued is the clock's, so that two events at one instant give equal ones, and the
order of those events is kept by the jobs' places in the queue. -/
def relayJob (e : Entry) (now : Micros) : Job :=
  ⟨e.id, .relay, e.precedence, some e.relay.update, relayFrames e, now⟩

/-- The TALLY job of an entry (R86, R140), its time queued as in `relayJob` (log entry 32). -/
def tallyJob (e : Entry) (now : Micros) : Job := ⟨e.id, .tally, e.precedence, none, [.tally], now⟩

/-- RELAY_WAIT_EXPIRY (R129): QUEUED, then the job is placed. -/
def execRelayWaitExpiry (i : Nat) (s : State) : Result :=
  event (fun s =>
    s.onTime (s.relayDue i) fun s => s.forEntry i fun s e =>
      (s.withRelayState i .queued).placeJob (relayJob e s.now)) s

/-- TALLY_WAIT_EXPIRY (R140): QUEUED, then the job is placed. -/
def execTallyWaitExpiry (i : Nat) (s : State) : Result :=
  event (fun s =>
    s.onTime (s.tallyDue i) fun s => s.forEntry i fun s e =>
      (s.modifyTallySend i fun r => { r with state := .queued }).placeJob (tallyJob e s.now)) s

end Sys2Proof.Machine
end

