-- ==== Sys2Proof/Machine/Dispatch.lean ====
section
/-! DEFINITION. One arm for each command and event of the opcode table. -/

namespace Sys2Proof.Machine

def exec (i : Instr) (s : State) : Host.Outcome State Fault Refusal :=
  match i with
  | .powerOnReset modemReady => Sys2Proof.Machine.execPowerOnReset modemReady s
  | .configure record => Sys2Proof.Machine.execConfigure record s
  | .setPosition zone => Sys2Proof.Machine.execSetPosition zone s
  | .clearPosition => Sys2Proof.Machine.execClearPosition s
  | .setOptIn marks => Sys2Proof.Machine.execSetOptIn marks s
  | .setParticipation setting => Sys2Proof.Machine.execSetParticipation setting s
  | .acknowledge handle => Sys2Proof.Machine.execAcknowledge handle s
  | .readAlert handle => Sys2Proof.Machine.execReadAlert handle s
  | .readText handle index offset length => Sys2Proof.Machine.execReadText handle index offset length s
  | .listAlerts => Sys2Proof.Machine.execListAlerts s
  | .fetchNotice => Sys2Proof.Machine.execFetchNotice s
  | .readStatus => Sys2Proof.Machine.execReadStatus s
  | .clearFlags marks => Sys2Proof.Machine.execClearFlags marks s
  | .restartLink => Sys2Proof.Machine.execRestartLink s
  | .responseRead => Sys2Proof.Machine.execResponseRead s
  | .linkResetLineAsserted => Sys2Proof.Machine.execLinkResetLineAsserted s
  | .linkResetLineReleased => Sys2Proof.Machine.execLinkResetLineReleased s
  | .page kind length body => Sys2Proof.Machine.execPage kind length body s
  | .coverage length body => Sys2Proof.Machine.execCoverage length body s
  | .reportDone length body => Sys2Proof.Machine.execReportDone length body s
  | .reportRefused length body => Sys2Proof.Machine.execReportRefused length body s
  | .modemReadyDrop => Sys2Proof.Machine.execModemReadyDrop s
  | .modemReadyRise => Sys2Proof.Machine.execModemReadyRise s
  | .pageFifoProcess => Sys2Proof.Machine.execPageFifoProcess s
  | .answerTimerExpiry => Sys2Proof.Machine.execAnswerTimerExpiry s
  | .frameReceived frame rssi => Sys2Proof.Machine.execFrameReceived frame rssi s
  | .rxFifoProcess => Sys2Proof.Machine.execRxFifoProcess s
  | .carrierBegin => Sys2Proof.Machine.execCarrierBegin s
  | .carrierEnd unfinished => Sys2Proof.Machine.execCarrierEnd unfinished s
  | .syncDetected => Sys2Proof.Machine.execSyncDetected s
  | .quietGapComplete => Sys2Proof.Machine.execQuietGapComplete s
  | .holdLimitReached => Sys2Proof.Machine.execHoldLimitReached s
  | .contentionSlotEnd => Sys2Proof.Machine.execContentionSlotEnd s
  | .preambleEnd => Sys2Proof.Machine.execPreambleEnd s
  | .burstCompletion => Sys2Proof.Machine.execBurstCompletion s
  | .collectLimit slot => Sys2Proof.Machine.execCollectLimit slot s
  | .lifetimeExpiry slot => Sys2Proof.Machine.execLifetimeExpiry slot s
  | .lingerExpiry slot => Sys2Proof.Machine.execLingerExpiry slot s
  | .positionStale => Sys2Proof.Machine.execPositionStale s
  | .assemblyLimit slot => Sys2Proof.Machine.execAssemblyLimit slot s
  | .relayWaitExpiry slot => Sys2Proof.Machine.execRelayWaitExpiry slot s
  | .tallyWaitExpiry slot => Sys2Proof.Machine.execTallyWaitExpiry slot s
  | .awakeHoldRunOut => Sys2Proof.Machine.execAwakeHoldRunOut s
  | .sampleWindowOpen => Sys2Proof.Machine.execSampleWindowOpen s
  | .sampleWindowClose => Sys2Proof.Machine.execSampleWindowClose s
  | .wakePattern => Sys2Proof.Machine.execWakePattern s
  | .warmUpEnd => Sys2Proof.Machine.execWarmUpEnd s
  | .unknownCommand => Sys2Proof.Machine.execUnknownCommand s
  | .feedMessageOtherKind kind length body => Sys2Proof.Machine.execFeedMessageOtherKind kind length body s

end Sys2Proof.Machine
end

