-- ==== Sys2Proof/Machine/Step.lean ====
section
/-! DEFINITION. One step: the command at the front of the queue, or, with an empty queue, the part's own next
move (log entry 2). -/

namespace Sys2Proof.Machine

/-- One microsecond passes without an event (log entry 2). -/
def State.tick (s : State) : State := { s with now := s.now + 1, choice := s.choice + 1 }

/-- The part's own move with an empty queue: an event that is due, or a tick (log entries 2, 3). -/
def idle (s : State) : Host.Outcome State Fault Refusal :=
  match s.ownMove with
  | some c => exec c { s with choice := s.choice + 1 }
  | none => .next s.tick

/-- One step of the part. -/
def step (s : State) : Host.Outcome State Fault Refusal :=
  match s.pending with
  | c :: rest => exec c { s with pending := rest }
  | [] => idle s

/-- The command a word spells, put at the front of the queue; no word of the table spells one (log entry
13). -/
def State.withFetchWord (s : State) (nbits w : Nat) : State :=
  match decodeTableWord nbits w with
  | some c => { s with pending := c :: s.pending }
  | none => s

end Sys2Proof.Machine
end

