-- ==== Sys2Proof/Safety.lean ====
section
/-! DEFINITION. What a sound state of the part is, in the terms the claims use: the invariants the manual
states of its collections and modes, and the state of rest every event ends in. -/

namespace Sys2Proof.Machine

/-! ### The state of rest at the end of an event -/

/-- No end-of-event action is left to do: R90 takes no head, R172 sends no report, R113 enters no DOZE, and
a part in DOZE that has work is warming up (R117). -/
def State.settled (s : State) : Bool :=
  (!s.mayTakeHead || s.slc.queue.isEmpty)
    && !s.maySendReport
    && !s.mayDoze
    && (s.pwc.power == .awake || s.workless || s.pwc.warmUp.isSome)

/-! ### Collections -/

/-- At most 24 notices, and no two alike (R190). -/
def State.noticesOk (s : State) : Prop := s.al.notices.length ≤ 24 ∧ s.al.notices.Nodup

/-- At most 8 pages and at most 4 frames (R167, R104). -/
def State.fifosOk (s : State) : Prop := s.fp.pageFifo.length ≤ 8 ∧ s.slc.rxFifo.length ≤ 4

/-- What names a job (R86). -/
def Job.name (j : Job) : Identity × JobKind := (j.id, j.kind)

/-- At most 12 jobs, no two of one identity and kind, precedence never rising along the queue (R87). -/
def State.queueOk (s : State) : Prop :=
  s.slc.queue.length ≤ 12
    ∧ (s.slc.queue.map Job.name).Nodup
    ∧ s.slc.queue.Pairwise fun a b => b.precedence ≤ a.precedence

/-- The identities the table holds, in slot order. -/
def State.identities (s : State) : List Identity :=
  s.atc.table.filterMap fun sl => sl.entry.map Entry.id

/-- 32 slots, and no two entries of one identity (R17). -/
def State.tableOk (s : State) : Prop := s.atc.table.length = 32 ∧ s.identities.Nodup

/-- Every entry's tally is one R145 or R146 allows. -/
def State.talliesOk (s : State) : Prop :=
  ∀ sl ∈ s.atc.table, ∀ e ∈ sl.entry, tallyOk e.tally = true

/-- The keys of the open slots. -/
def State.slotKeys (s : State) : List SlotKey := s.sa.slots.filterMap fun o => o.map Slot.key

/-- 8 slot numbers, and no two open slots of one key (R49). -/
def State.slotsOk (s : State) : Prop := s.sa.slots.length = 8 ∧ s.slotKeys.Nodup

/-- The slots are sound (R49), and each agrees with the entry it serves (R50, R57): a bound slot belongs to a
COLLECTING entry's current update, and a slot of such an update is bound and its text record COLLECTING. -/
def State.assemblyOk (s : State) : Prop :=
  s.slotsOk ∧ ∀ n sl, s.slotAt n = some sl →
    (sl.bound = true → ∃ i e, s.entryAt i = some e ∧ e.id = sl.key.id ∧ e.update = sl.key.update
        ∧ e.state.name = .collecting)
      ∧ ∀ i e, s.entryAt i = some e → e.id = sl.key.id → e.update = sl.key.update →
        e.state.name = .collecting →
        sl.bound = true ∧ ∃ x, e.texts[sl.key.text]? = some x ∧ x.state = .collecting

/-- No more blocks in slots and chains than the pool holds (R47). -/
def State.poolOk (s : State) : Prop := s.usedBlocks ≤ 128

/-- The report queue names each entry at most once, and only entries of the table (R170). -/
def State.reportsOk (s : State) : Prop :=
  s.tu.reportQueue.Nodup ∧ ∀ i ∈ s.tu.reportQueue, (s.entryAt i).isSome = true

/-! ### Modes -/

/-- The medium state is OFF exactly while UNCONFIGURED, and DOZE-SAMPLING exactly in DOZE; a warm-up runs
in DOZE only (R84, R110, R118). -/
def State.modesOk (s : State) : Prop :=
  (s.slc.medium = .off ↔ s.al.config = none)
    ∧ (s.slc.medium = .dozeSampling ↔ s.pwc.power = .doze)
    ∧ (s.pwc.warmUp.isSome = true → s.pwc.power = .doze)

/-- The position does not go stale before the instant `t` (R68). -/
def State.freshUntil (s : State) (t : Micros) : Prop :=
  ∀ p, s.atc.position = some p → t ≤ p.written + 60000000 * s.settings.zoneHold

/-- The position is not stale at the instant `t` (R68). -/
def State.freshAt (s : State) (t : Micros) : Prop :=
  ∀ p, s.atc.position = some p → t < p.written + 60000000 * s.settings.zoneHold

/-- No position outlives the zone hold time (R68). -/
def State.positionOk (s : State) : Prop := s.freshUntil s.now

/-- A burst is staged exactly while a job is current; a burst waited or contended for belongs to a current
job, and a burst on the air to one whose first burst has won (R84, R90, R94). -/
def State.sidelinkOk (s : State) : Prop :=
  (s.slc.stage = [] ↔ s.slc.current = none)
    ∧ (s.slc.medium = .defer ∨ s.slc.medium.name = .contend → s.slc.current.isSome = true)
    ∧ (s.slc.medium.onAir = true → s.slc.current.any CurrentJob.won = true)

/-- The own tag in force is a station tag (R181). -/
def State.tagOk (s : State) : Prop := ∀ cfg, s.al.config = some cfg → cfg.tag ≠ 0

/-- While UNCONFIGURED every block holds its power-on state; the response, and the input levels of the three
lines, are all that can differ (R183). -/
def State.unconfiguredOk (s : State) : Prop :=
  s.al.config = none →
    s.atc = State.reset.atc ∧ s.sa = State.reset.sa ∧ s.pwc = State.reset.pwc ∧ s.tu = State.reset.tu
      ∧ s.slc = { State.reset.slc with carrier := s.slc.carrier }
      ∧ s.fp = { State.reset.fp with modemReady := s.fp.modemReady }
      ∧ s.al = { State.reset.al with response := s.al.response, resetLine := s.al.resetLine }

/-! ### What a tally holds -/

/-- Everything the second tally holds, the first one holds too (R157): tags as tags or in their buckets'
ranks, ranks bucket by bucket, and as high a floor. -/
def tallyHolds : Tally → Tally → Prop
  | .list tags, .list tags' => ∀ t ∈ tags', t ∈ tags
  | .list _, .sketch _ _ => False
  | .sketch ranks floor, .list tags' =>
    tags'.length ≤ floor ∧ ∀ t ∈ tags', tagRank t ≤ ranks.getD (tagBucket t) 0
  | .sketch ranks floor, .sketch ranks' floor' =>
    floor' ≤ floor ∧ ∀ b < 32, ranks'.getD b 0 ≤ ranks.getD b 0

/-! ### Keeping the power state -/

/-- The end of an event changes nothing in Power Control: the part is AWAKE and its awake hold has not run out
(R113), or it is in DOZE with its warm-up running (R117). -/
def State.keepsPower (s : State) : Prop :=
  s.pwc.power = .awake ∧ s.pwc.hold ≠ .runOut ∨ s.pwc.power = .doze ∧ s.pwc.warmUp.isSome = true

/-! ### The link -/

/-- The link can take a command: the reset line is off and no response is pending (R179). -/
def State.linkFree (s : State) : Bool := !s.al.resetLine && s.al.response.isNone

/-- The rows that are command transfers (R184, and R180's unknown command). -/
def isCommand : Instr → Bool
  | .configure _ | .setPosition _ | .clearPosition | .setOptIn _ | .setParticipation _ | .acknowledge _
  | .readAlert _ | .readText _ _ _ _ | .listAlerts | .fetchNotice | .readStatus | .clearFlags _
  | .restartLink | .unknownCommand => true
  | .powerOnReset _ | .responseRead | .linkResetLineAsserted | .linkResetLineReleased | .page _ _ _
  | .coverage _ _ | .reportDone _ _ | .reportRefused _ _ | .modemReadyDrop | .modemReadyRise
  | .pageFifoProcess | .answerTimerExpiry | .frameReceived _ _ | .rxFifoProcess | .carrierBegin
  | .carrierEnd _ | .syncDetected | .quietGapComplete | .holdLimitReached | .contentionSlotEnd
  | .preambleEnd | .burstCompletion | .collectLimit _ | .lifetimeExpiry _ | .lingerExpiry _
  | .positionStale | .assemblyLimit _ | .relayWaitExpiry _ | .tallyWaitExpiry _ | .awakeHoldRunOut
  | .sampleWindowOpen | .sampleWindowClose | .wakePattern | .warmUpEnd
  | .feedMessageOtherKind _ _ _ => false

/-- The state a command leaves that does nothing but answer: its arrival is activity (R112, R117), and its
response is pending. -/
def State.answered (s : State) (r : Response) : State := s.begin.activity.withResponse (some r)

/-! ### Notices (R190) -/

/-- A notice list after a notice was queued (R190). -/
def joinNotice (l : List Notice) (n : Notice) : List Notice :=
  if n ∈ l then l else if l.length < 24 then l ++ [n] else l

/-- The Application Link after a notice was queued (R190): merged, joined, or lost with NOTICE-OVERFLOW. -/
def Al.queued (al : Al) (n : Notice) : Al :=
  { al with
    notices := joinNotice al.notices n
    flags := { al.flags with
      noticeOverflow := al.flags.noticeOverflow
        || (decide (n ∉ al.notices) && decide (24 ≤ al.notices.length)) } }

/-! ### Position changes and re-evaluation -/

/-- Whether re-evaluation moves an entry to PRESENTING (R78): a HELD one whose row of R75's table says
Present. The rows are the manual's, written out. -/
def State.qualifies (s : State) (e : Entry) : Bool :=
  e.state == .held &&
    match (s.category e.category).presentation, e.area, s.atc.optIn.getLsbD e.category with
    | .mandatory, _, _ => true
    | .inArea, .inside, _ => true
    | .inArea, .unknown, _ => true
    | .inArea, .outside, _ => false
    | .optional, .inside, true => true
    | .optional, .inside, false => false
    | .optional, .unknown, _ => false
    | .optional, .outside, _ => false
    | .silent, _, _ => false

/-- An entry after its re-evaluation (R78). -/
def State.reevaluated (s : State) (e : Entry) : Entry :=
  if s.qualifies e then { e with state := .presenting, presented := true } else e

/-- `t` is `s` after re-evaluation of entries that `f` has changed first: every entry re-evaluated, the
PRESENT notices queued in slot order, NOTICE-OVERFLOW set where one of them is lost, and of the AL nothing
else touched but the response, and no other block at all (R72, R78, R190). -/
def State.Reevaluation (s t : State) (f : Entry → Entry) : Prop :=
  (∀ i, t.entryAt i = (s.entryAt i).map fun e => t.reevaluated (f e))
    ∧ (∀ i, t.genAt i = s.genAt i)
    ∧ { t.al with response := s.al.response } =
        ((List.range s.atc.table.length).filterMap fun i =>
          (s.entryAt i).bind fun e =>
            if t.qualifies (f e) then some (Notice.present (s.handleAt i)) else none).foldl
          Al.queued s.al
    ∧ t.atc.map = s.atc.map ∧ t.sa = s.sa ∧ t.slc = s.slc ∧ t.fp = s.fp ∧ t.tu = s.tu ∧ t.pending = s.pending

/-- `t` is `s` after a position change to `p` (R72): the record written, every area result recomputed, every
HELD entry re-evaluated. -/
def State.PositionChange (s t : State) (p : Option Position) : Prop :=
  t.atc.position = p ∧ t.atc.optIn = s.atc.optIn
    ∧ s.Reevaluation t fun e => { e with area := areaTest (p.map Position.zone) e.zones }

/-! ### The start of a relay (R127), as the manual's table has it -/

/-- The relay state a start sets: the first of R127's six rows whose condition holds. The wait of the last row
is R128's, which `Obligations.WaitTimes` writes out. -/
def startedRelay (cls : RelayClass) (cfg : Settings) (p : Participation) (now : Micros) (e : Entry) :
    RelayState :=
  if cls = .none then .none
  else if e.relay.hop = 0 then .none
  else if e.lifetimeEnd < now + 60000000 then .none
  else if p = .listenOnly then .withheld
  else if cfg.threshold ≤ e.relay.duplicates then .suppressed
  else .waiting (now + 1000 * relayWaitMillis cls cfg.tag e.id.serial e.relay)

/-! ### Dirty tallies and the report-due test (R139, R171, R172) -/

/-- The tally-send record of the entry `e` after a dirty report at `now`, by the rows of R139's table. -/
def State.dirtied (s : State) (now : Micros) (e : Entry) : TallySend :=
  match e.tallySend.state with
  | .idle =>
    if s.al.participation = .full ∧ e.state.name ≠ .expired then
      { e.tallySend with
        state := .waiting (tallyWaitExpiry s.settings.tag e.id.serial e.tallySend.lastSent now) }
    else e.tallySend
  | .waiting _ | .queued => e.tallySend
  | .staged | .sending => { e.tallySend with resend := true }

/-- The report queue of `s` after the report-due test of slot `i`, whose entry is now `e` (R171). -/
def State.reportJoins (s : State) (i : Nat) (e : Entry) : List Nat :=
  if (s.settings.reportStep + e.lastReported ≤ tallyCount e.tally
        ∨ (e.state.name = .cancelled ∨ e.state.name = .expired) ∧ e.lastReported < tallyCount e.tally)
      ∧ i ∉ s.tu.reportQueue ∧ ∀ o ∈ s.tu.outstanding, o.handle ≠ ⟨i, s.genAt i⟩ then
    s.tu.reportQueue ++ [i]
  else s.tu.reportQueue

/-- `t` is `s` as far as the Tally Unit goes after an event that tested slot `i`, whose entry became `e`: the
test of R171, and then R172, which sends the head's report where the uplink is open and none is outstanding. -/
def State.ReportTested (s t : State) (i : Nat) (e : Entry) : Prop :=
  (s.reportJoins i e = [] ∨ s.fp.coverage = false ∨ s.fp.blocked = true ∨ s.fp.modemReady = false
      ∨ s.tu.outstanding.isSome = true →
    t.tu = { s.tu with reportQueue := s.reportJoins i e } ∧ t.out.feed = none)
    ∧ ∀ j f rest, s.reportJoins i e = j :: rest → t.entryAt j = some f → s.fp.coverage = true →
      s.fp.blocked = false → s.fp.modemReady = true → s.tu.outstanding = none →
      t.tu = ⟨rest, some ⟨f.id, ⟨j, t.genAt j⟩, tallyCount f.tally, t.now + 10000000⟩⟩
        ∧ t.out.feed = some (reportBytes (tallyCount f.tally) ⟨f.id, f.tally⟩)

/-! ### Leaving COLLECTING (R37) -/

/-- `e'`, in slot `i` of `t`, is what the entry `e` of `s` becomes as it leaves COLLECTING (R37): its area
result computed anew, the row of R75's table that its class, its area result and its category's opt-in mark
give, carried out as R38, R76 and R77 say, and its relay started (R127). -/
def State.LeavesCollecting (s t : State) (i : Nat) (e e' : Entry) : Prop :=
  let cat := s.category e.category
  let area := areaTest (s.atc.position.map Position.zone) e.zones
  e' = { e with
      area := area
      state := e'.state
      presented := e'.presented
      ownAck := e'.ownAck
      acked := e'.acked
      tally := e'.tally
      tallySend := e'.tallySend
      relay := { e.relay with
        state := startedRelay cat.relay s.settings s.al.participation t.now e } }
    ∧ match cat.presentation, area, s.atc.optIn.getLsbD e.category with
      | .mandatory, _, _ | .inArea, .inside, _ | .inArea, .unknown, _ | .optional, .inside, true =>
        e'.state = .presenting ∧ e'.presented = true ∧ e'.ownAck = e.ownAck ∧ e'.acked = e.acked
          ∧ e'.tally = e.tally ∧ e'.tallySend = e.tallySend
          ∧ t.al = s.al.queued (.present ⟨i, s.genAt i⟩) ∧ t.tu = s.tu
      | .inArea, .outside, _ | .optional, .inside, false | .optional, .unknown, _ | .optional, .outside, _ =>
        e'.state = .held ∧ e'.presented = e.presented ∧ e'.ownAck = e.ownAck ∧ e'.acked = e.acked
          ∧ e'.tally = e.tally ∧ e'.tallySend = e.tallySend ∧ t.al = s.al ∧ t.tu = s.tu
      | .silent, _, _ =>
        e'.state = .acknowledged ∧ e'.presented = e.presented ∧ e'.ownAck = true
          ∧ e'.acked = some t.now ∧ e'.tally = addTag e.tally s.settings.tag ∧ t.al = s.al
          ∧ (e'.tally = e.tally → e'.tallySend = e.tallySend ∧ t.tu = s.tu)
          ∧ (e'.tally ≠ e.tally → e'.tallySend = s.dirtied t.now e ∧ s.ReportTested t i e')

/-! ### New entries and victims (R19, R25, R26, R30) -/

/-- The entry a header of a new identity creates (R5, R19, R20, R25, R26), in the given state and with its relay
not started. -/
def State.firstEntry (s : State) (cfg : Settings) (h : HeaderSegment) (origin : Origin) (rssi : Option Int)
    (st : EntryState) : Entry where
  id := h.id
  update := h.update
  action := h.action
  category := h.category
  precedence := (s.category h.category).precedence
  origin := origin
  zones := h.zones
  area := areaTest (s.atc.position.map Position.zone) h.zones
  texts := h.texts.map fun t => ⟨t.lang, t.count, .absent⟩
  lifetimeEnd := s.now + 60000000 * min h.lifetime 1440
  state := st
  presented := false
  ownAck := false
  partialMark := false
  accepted := s.now
  acked := none
  relay := ⟨.none, h.update, origin, min h.hop cfg.hopLimit, rssi, 0⟩
  tallySend := ⟨.idle, none, false⟩
  tally := .list []
  lastReported := 0

/-- The entry a header creates: an ALERT's is COLLECTING for at most 300 s (R25), a CANCEL's is a tombstone
whose relay is started (R26). -/
def State.madeEntry (s : State) (cfg : Settings) (h : HeaderSegment) (origin : Origin) (rssi : Option Int) :
    Entry :=
  match h.action with
  | .alert => s.firstEntry cfg h origin rssi (.collecting (s.now + 300000000))
  | .cancel =>
    let e := s.firstEntry cfg h origin rssi .cancelled
    { e with relay := { e.relay with
        state := startedRelay (s.category h.category).relay cfg s.al.participation s.now e } }

/-- The group of R30's table an entry is in for a newcomer of precedence `p`, if it is in one. -/
def evictionGroup (p : Nat) (e : Entry) : Option Nat :=
  match e.state with
  | .expired _ => some 1
  | .cancelled => some 2
  | .held => if e.precedence ≤ p then some 3 else none
  | .acknowledged => if e.precedence ≤ p then some 4 else none
  | .collecting _ => if e.precedence < p then some 5 else none
  | .presenting => none

/-- Lexicographic order of three numbers. -/
def before3 (a b : Nat × Nat × Nat) : Prop :=
  a.1 < b.1 ∨ a.1 = b.1 ∧ (a.2.1 < b.2.1 ∨ a.2.1 = b.2.1 ∧ a.2.2 < b.2.2)

/-- Within a group of R30, the entry `e` of slot `i` is chosen before the entry `f` of slot `k`; the lower slot
number is the last tie-break (R20). The linger lasts 120 s for every entry, so the oldest start has the earliest
end. -/
def chosenBefore (e : Entry) (i : Nat) (f : Entry) (k : Nat) : Prop :=
  match e.state, f.state with
  | .expired a, .expired b => before3 (0, a, i) (0, b, k)
  | .cancelled, .cancelled => before3 (0, e.lifetimeEnd, i) (0, f.lifetimeEnd, k)
  | .held, .held => before3 (e.precedence, e.accepted, i) (f.precedence, f.accepted, k)
  | .acknowledged, .acknowledged =>
    before3 (e.precedence, e.acked.getD 0, i) (f.precedence, f.acked.getD 0, k)
  | .collecting _, .collecting _ => before3 (e.precedence, e.accepted, i) (f.precedence, f.accepted, k)
  | _, _ => False

/-- The entry `e` of slot `i` is the victim for a newcomer of precedence `p` (R30): no entry is in an earlier
group, and none of its own group is chosen before it. -/
def State.IsVictim (s : State) (p i : Nat) (e : Entry) : Prop :=
  s.entryAt i = some e ∧ ∃ g, evictionGroup p e = some g
    ∧ ∀ k f g', k ≠ i → s.entryAt k = some f → evictionGroup p f = some g' →
      g < g' ∨ g = g' ∧ chosenBefore e i f k

/-! ### Endings and cuts (R89, R100, R101) -/

/-- The Sidelink Controller after its stage was emptied at `now` (R100, R101): a contention in progress stops,
DEFER and CONTEND become IDLE. -/
def Slc.emptied (slc : Slc) (now : Micros) : Slc :=
  { slc with
    current := none
    stage := []
    losses := 0
    medium := if slc.medium = .defer ∨ slc.medium.name = .contend then .idle else slc.medium
    quietSince := if slc.medium.name = .contend then some (slc.quietSince.getD now) else slc.quietSince }

/-- After an ending for the jobs of an identity no job of another identity is taken in their place: none is
queued, or the current job goes on. -/
def State.noHeadFollows (s : State) (id : Identity) : Prop :=
  s.slc.queue.filter (·.id ≠ id) = []
    ∨ ∀ c, s.slc.current = some c → c.job.id ≠ id ∨ s.slc.medium.onAir = true

/-- `t` holds the Sidelink Controller of `s` after an ending for both kinds of job of an identity (R100): queued
jobs removed; the current job with its end mark where it is on the air, and gone with its stage otherwise, stated
where no other job is queued. -/
def State.JobsEnded (s t : State) (id : Identity) : Prop :=
  let slc : Slc := { s.slc with queue := s.slc.queue.filter fun j => j.id ≠ id }
  match s.slc.current with
  | none => t.slc = slc
  | some c =>
    if c.job.id ≠ id then t.slc = slc
    else if s.slc.medium.onAir = true then t.slc = { slc with current := some { c with endMark := true } }
    else slc.queue = [] → t.slc = slc.emptied t.now

/-- The Sidelink Controller of `slc` after a cut at `now` for the jobs of an identity and kind (R101). -/
def Slc.cut (slc : Slc) (now : Micros) (id : Identity) (kind : JobKind) : Slc :=
  let x : Slc := { slc with queue := slc.queue.filter fun j => !(decide (j.id = id) && decide (j.kind = kind)) }
  match slc.current with
  | some c => if c.job.id = id ∧ c.job.kind = kind ∧ c.won = false then x.emptied now else x
  | none => x

/-- The Sidelink Controller of `slc` after an ending at `now` for the jobs of an identity and kind (R100): a queued
job removed, a burst on the air given the end mark, a stage emptied at once otherwise. -/
def Slc.ending (slc : Slc) (now : Micros) (id : Identity) (kind : JobKind) : Slc :=
  let x : Slc := { slc with queue := slc.queue.filter fun j => !(decide (j.id = id) && decide (j.kind = kind)) }
  match slc.current with
  | some c =>
    if c.job.id = id ∧ c.job.kind = kind then
      if slc.medium.onAir = true then { x with current := some { c with endMark := true } } else x.emptied now
    else x
  | none => x

/-! ### A header of a new identity (R25, R26, R30 to R32) -/

/-- `ex` is what follows in `s` from a header of a new identity taken out of its FIFO, which left `x`. It creates
its entry in the lowest empty slot (R17, R18); in a full table it takes the victim's slot (R30), whose jobs,
bound slots and report element go (R31); where there is no victim it is dropped with TABLE-FULL and its notice
(R32). -/
def State.NewIdentity (s x : State) (ex : Result) (cfg : Settings) (h : HeaderSegment) (origin : Origin)
    (rssi : Option Int) : Prop :=
  let precedence := (s.category h.category).precedence
  let made (t : State) (i : Nat) : Prop :=
    t.now = s.now ∧ t.entryAt i = some (s.madeEntry cfg h origin rssi) ∧ t.genAt i = s.genAt i + 1
      ∧ (∀ k, k ≠ i → t.genAt k = s.genAt k) ∧ t.fp = x.fp
  ((h.action = .alert → ∀ n sl, s.slotAt n = some sl → sl.key.id ≠ h.id) →
      (h.action = .cancel → 1 ≤ cfg.reportStep) →
      (∀ i < 32, s.entryAt i = none → (∀ k < i, s.entryAt k ≠ none) →
        ∃ t, ex = .next t ∧ made t i ∧ t.out = Outputs.none
          ∧ (∀ k, k ≠ i → t.entryAt k = s.entryAt k)
          ∧ t.sa.slots = s.sa.slots.map (fun o => o.filter fun sl =>
              !(sl.key.id == h.id && decide (sl.key.update ≤ h.update)))
          ∧ t.al = s.al ∧ t.slc = x.slc ∧ t.tu = s.tu ∧ t.pwc = s.pwc)
      ∧ ∀ i v, (∀ k < 32, s.entryAt k ≠ none) → s.IsVictim precedence i v →
        ∃ t, ex = .next t ∧ made t i
          ∧ (s.noHeadFollows v.id → t.al = s.al ∧ ∀ k, k ≠ i → t.entryAt k = s.entryAt k)
          ∧ t.sa.slots = s.sa.slots.map (fun o => o.filter fun sl =>
              !(sl.bound && sl.key.id == v.id)
                && !(sl.key.id == h.id && decide (sl.key.update ≤ h.update)))
          ∧ t.tu = { s.tu with reportQueue := s.tu.reportQueue.filter (· ≠ i) }
          ∧ x.JobsEnded t v.id)
    ∧ ((∀ k < 32, s.entryAt k ≠ none) →
      (∀ k f, s.entryAt k = some f → evictionGroup precedence f = none) →
      ex = .next { x with
        sa := { s.sa with
          slots := s.sa.slots.map fun o => o.filter fun sl => !(!sl.bound && sl.key.id == h.id) }
        al := Al.queued { s.al with flags := { s.al.flags with tableFull := true } } .tableFull })

/-! ### Slots and texts given up (R35, R60, R62, R63) -/

/-- The open slot `low` of number `n` is the one R60 and R63 take first: of lowest precedence, then of oldest
first segment, then of lower number (R49). -/
def State.LowestSlot (s : State) (n : Nat) (low : Slot) : Prop :=
  s.slotAt n = some low ∧ ∀ k sl, k ≠ n → s.slotAt k = some sl →
    before3 (low.precedence, low.firstSegment, n) (sl.precedence, sl.firstSegment, k)

/-- The state after the ATC was told that a slot was given up: the COLLECTING text of a bound one returns to
ABSENT (R35). -/
def State.slotLost (s : State) (low : Slot) : State :=
  match low.bound, s.slotOf low.key.id with
  | true, some i =>
    s.modifyEntry i fun e =>
      if e.state.name = .collecting ∧ (e.texts[low.key.text]?).map TextRecord.state = some .collecting then
        { e with texts := e.texts.modify low.key.text fun x => { x with state := .absent } }
      else e
  | _, _ => s

/-- Text `k` of an entry is one that reclaim may release (R62): the entry is ACKNOWLEDGED, its relay is over,
and the text is COMPLETE. -/
def Entry.releasable (e : Entry) (k : Nat) : Prop :=
  e.state = .acknowledged
    ∧ (e.relay.state = .done ∨ e.relay.state = .suppressed ∨ e.relay.state = .none
      ∨ e.relay.state = .withheld ∨ e.relay.state = .dropped)
    ∧ ∃ x chain, e.texts[k]? = some x ∧ x.state = .complete chain ∧ chain ≠ []

/-- Text `k` of the entry `e` of slot `i` is the one reclaim releases (R62): of lowest precedence, acknowledged
earliest, and the last one of its entry. Of two acknowledged at one instant it is the one in the lower slot (the
model's choice, log entry 27). -/
def State.ReleasesText (s : State) (i : Nat) (e : Entry) (k : Nat) : Prop :=
  s.entryAt i = some e ∧ e.releasable k ∧ (∀ k', k < k' → ¬ e.releasable k')
    ∧ ∀ j f k', j ≠ i → s.entryAt j = some f → f.releasable k' →
      before3 (e.precedence, e.acked.getD 0, i) (f.precedence, f.acked.getD 0, j)

/-- The slot made for a segment (R49, R53): its key, count and payload, this moment, and what R50 says of its
bound mark and precedence. -/
def State.openedSlot (s : State) (seg : TextSegment) (bound : Bool) (precedence : Nat) : Slot where
  key := ⟨seg.id, seg.update, seg.text⟩
  count := seg.count
  received := (List.replicate seg.count none).set seg.index (some ⟨seg.payload⟩)
  firstSegment := s.now
  bound := bound
  precedence := precedence

/-! ### Placing a job (R87, R88, R90, R92, R106) -/

/-- An entry after its job did not stay in a full queue (R88, R132, R140). -/
def notKept (job : Job) (e : Entry) : Entry :=
  match job.kind with
  | .relay =>
    if job.update = some e.relay.update ∧ e.relay.state = .queued then
      { e with relay := { e.relay with state := .dropped } }
    else e
  | .tally =>
    if e.tallySend.state = .queued then
      { e with tallySend := { e.tallySend with state := .idle, resend := false } }
    else e

/-- `ex` is what follows in `s` when, at `now`, a job of the entry `e` of slot `i` is placed; `cls` is the kind
class of its first burst, and the three functions give the entry its state QUEUED, STAGED and not kept. With a
job current, or in DOZE, it joins the queue behind every job of its precedence or a higher one (R87); at a full
queue the lowest job is displaced, or this one dropped (R88). Where nothing is current it is taken at once
(R90): in RECEIVE and JAMMED its burst waits there; from IDLE the SLC goes to DEFER, to contention after a
complete quiet gap (R92), or to JAMMED in a busy period that has lasted the hold limit (R106). -/
def State.JobPlaced (s : State) (ex : Result) (i : Nat) (e : Entry) (now : Micros) (job : Job) (cls : Nat)
    (queued staged dropped : Entry → Entry) : Prop :=
  let x : State := { s.begin with now := now }
  (s.slc.current.isSome = true ∨ s.slc.medium = .dozeSampling →
      (s.slc.queue.length < 12 →
        ∃ before after, s.slc.queue = before ++ after
          ∧ (∀ j ∈ before, job.precedence ≤ j.precedence)
          ∧ (∀ j ∈ after.head?, j.precedence < job.precedence)
          ∧ ex = .next (State.modifyEntry
              { x with slc := { s.slc with queue := before ++ job :: after } } i queued))
      ∧ (s.slc.queue.length = 12 → (∀ j ∈ s.slc.queue, job.precedence ≤ j.precedence) →
        ex = .next (x.setSendQueueFull.modifyEntry i dropped))
      ∧ ∀ kept lowest, s.slc.queue = kept ++ [lowest] → kept.length = 11 →
        lowest.precedence < job.precedence →
        ∃ before after, kept = before ++ after
          ∧ (∀ j ∈ before, job.precedence ≤ j.precedence)
          ∧ (∀ j ∈ after.head?, j.precedence < job.precedence)
          ∧ ex = .next
              (let y := (State.setSendQueueFull
                { x with slc := { s.slc with queue := before ++ job :: after } }).modifyEntry i queued
              match s.slotOf lowest.id with
              | some k => y.modifyEntry k (notKept lowest)
              | none => y))
    ∧ (s.slc.current = none → s.slc.stage = [] → s.slc.queue = [] → s.al.participation = .full →
      (job.kind = .relay → 60 ≤ e.remaining now) →
      let slc : Slc := { s.slc with
        current := some ⟨job, job.frames.drop 6, false, false⟩
        stage := x.buildBurst e.id (job.frames.take 6)
        losses := 0 }
      (s.slc.medium = .receive ∨ s.slc.medium = .jammed →
          ex = .next (State.modifyEntry { x with slc := slc } i staged))
        ∧ (∀ q, s.slc.medium = .idle → s.slc.quietSince = some q → q + 2000 ≤ now →
          let key := contentionKey s.settings.tag job.precedence cls 0
          ex = .next (State.modifyEntry
            { x with
              slc := { slc with
                medium := .contend key 1 (now + 100), busyStart := none
                quietSince := if key.getLsbD 15 then none else some q }
              out := ⟨none, none, if key.getLsbD 15 then [.markTone 1] else []⟩ } i staged))
        ∧ (s.slc.medium = .idle → (∀ q, s.slc.quietSince = some q → now < q + 2000) →
          ((∀ b, s.slc.busyStart = some b → now < b + 1000 * s.settings.holdLimit) →
              ex = .next (State.modifyEntry { x with slc := { slc with medium := .defer } } i staged))
            ∧ ∀ b, s.slc.busyStart = some b → b + 1000 * s.settings.holdLimit ≤ now →
              ex = .next ((State.modifyEntry { x with slc := { slc with medium := .jammed } } i staged).queueNotice
                .mediumJammed)))

/-! ### Taking the head of the send queue (R90 to R92) -/

/-- An entry after its job was taken and its first burst staged (R90, R132, R140). -/
def stagedBy (job : Job) (e : Entry) : Entry :=
  match job.kind with
  | .relay =>
    if job.update = some e.relay.update ∧ e.relay.state = .queued then
      { e with relay := { e.relay with state := .staged } }
    else e
  | .tally =>
    if e.tallySend.state = .queued then { e with tallySend := { e.tallySend with state := .staged } } else e

/-- The entry that a job names changed, if the table holds it. -/
def State.modifyNamed (s : State) (job : Job) (f : Entry → Entry) : State :=
  match s.slotOf job.id with
  | some i => s.modifyEntry i f
  | none => s

/-- `ex` is `m`, in which no job is current, after R90 took the head of its queue as the current job and staged its
first burst: from IDLE the SLC goes to DEFER, to contention after a complete quiet gap (R92), or to JAMMED in a busy
period that has lasted the hold limit (R106); where both fall together the gap counts first (the model's choice, log
entry 29). A relay with less than 60 s of lifetime left is given up instead, DONE (R91, R133); stated where it is the
last. -/
def State.TakesHead (m : State) (ex : Result) : Prop :=
  ∀ job rest, m.slc.queue = job :: rest →
    let late : Prop :=
      job.kind = .relay ∧ ∃ i e, m.slotOf job.id = some i ∧ m.entryAt i = some e ∧ e.remaining m.now < 60
    (late → rest = [] →
        ex = .next (State.modifyNamed { m with slc := { m.slc with queue := [] } } job fun e =>
          if job.update = some e.relay.update ∧ e.relay.state = .queued then
            { e with relay := { e.relay with state := .done } }
          else e))
      ∧ ∀ f frames, ¬ late → m.buildBurst job.id (job.frames.take 6) = f :: frames →
        let slc : Slc := { m.slc with
          queue := rest, current := some ⟨job, job.frames.drop 6, false, false⟩, stage := f :: frames, losses := 0 }
        (m.slc.medium = .receive ∨ m.slc.medium = .jammed →
            ex = .next (State.modifyNamed { m with slc := slc } job (stagedBy job)))
          ∧ (∀ q, m.slc.medium = .idle → m.slc.quietSince = some q → q + 2000 ≤ m.now →
            let key := contentionKey m.settings.tag job.precedence (4 - f.kind.toNat) 0
            ex = .next (State.modifyNamed
              { m with
                slc := { slc with
                  medium := .contend key 1 (m.now + 100), busyStart := none
                  quietSince := if key.getLsbD 15 then none else some q }
                out := { m.out with air := m.out.air ++ if key.getLsbD 15 then [.markTone 1] else [] } }
              job (stagedBy job)))
          ∧ (m.slc.medium = .idle → (∀ q, m.slc.quietSince = some q → m.now < q + 2000) →
            ((∀ b, m.slc.busyStart = some b → m.now < b + 1000 * m.settings.holdLimit) →
                ex = .next (State.modifyNamed { m with slc := { slc with medium := .defer } } job (stagedBy job)))
              ∧ ∀ b, m.slc.busyStart = some b → b + 1000 * m.settings.holdLimit ≤ m.now →
                ex = .next ((State.modifyNamed { m with slc := { slc with medium := .jammed } } job
                  (stagedBy job)).queueNotice .mediumJammed))

/-- R90 takes no head: a job is current, a burst staged, none queued, participation LISTEN-ONLY, or the medium OFF
or DOZE-SAMPLING. -/
def State.noHeadTaken (m : State) : Prop :=
  m.slc.current.isSome = true ∨ m.slc.stage ≠ [] ∨ m.slc.queue = [] ∨ m.al.participation = .listenOnly
    ∨ m.slc.medium = .off ∨ m.slc.medium = .dozeSampling

/-- `ex` is `m` after R90 at the end of an event: the head of its queue is taken where participation is FULL, no job
is current, the stage is empty, and the medium is neither OFF nor DOZE-SAMPLING. -/
def State.EndsWithHead (m : State) (ex : Result) : Prop :=
  (m.noHeadTaken → ex = .next m)
    ∧ (m.slc.current = none → m.slc.stage = [] → m.al.participation = .full → m.slc.medium ≠ .off →
      m.slc.medium ≠ .dozeSampling → m.TakesHead ex)

/-! ### Reports (R171, R172) -/

/-- `ex` is `m` with this report queue and nothing outstanding, after R172: the head's report goes where the
uplink is open, and stays queued otherwise. -/
def State.EndsWithReports (m : State) (queue : List Nat) (ex : Result) : Prop :=
  (queue = [] ∨ m.fp.coverage = false ∨ m.fp.blocked = true ∨ m.fp.modemReady = false →
      ex = .next { m with tu := ⟨queue, none⟩ })
    ∧ ∀ j f rest, queue = j :: rest → m.entryAt j = some f → m.fp.coverage = true →
      m.fp.blocked = false → m.fp.modemReady = true →
      ex = .next { m with
        tu := ⟨rest, some ⟨f.id, ⟨j, m.genAt j⟩, tallyCount f.tally, m.now + 10000000⟩⟩
        out := ⟨none, some (reportBytes (tallyCount f.tally) ⟨f.id, f.tally⟩), []⟩ }

/-! ### The end of an event (R90, R172, R113) -/

/-- `ex` is `m` after R90, and then R172: the report of the report queue's head goes where the uplink is open and
none is outstanding, which restarts the awake hold where the part is AWAKE (R112). -/
def State.EndsWithHeadAndReport (m : State) (ex : Result) : Prop :=
  ∃ u : State, m.EndsWithHead (.next u)
    ∧ (m.tu.reportQueue = [] ∨ m.fp.coverage = false ∨ m.fp.blocked = true ∨ m.fp.modemReady = false
        ∨ m.tu.outstanding.isSome = true →
      ex = .next u)
    ∧ ∀ j f rest, m.tu.reportQueue = j :: rest → u.entryAt j = some f → m.fp.coverage = true →
      m.fp.blocked = false → m.fp.modemReady = true → m.tu.outstanding = none →
      ex = .next { u with
        pwc :=
          match u.pwc.power with
          | .awake => { u.pwc with hold := .running (u.now + 1000000 * u.settings.awakeHold) }
          | .doze => u.pwc
        tu := ⟨rest, some ⟨f.id, ⟨j, u.genAt j⟩, tallyCount f.tally, u.now + 10000000⟩⟩
        out := { u.out with feed := some (reportBytes (tallyCount f.tally) ⟨f.id, f.tally⟩) } }

/-- `ex` is `m` after the end of its event: R90, R172, and R113, which changes nothing but Power Control and what
the SLC measures. -/
def State.EndsEvent (m : State) (ex : Result) : Prop :=
  ∃ u t : State, m.EndsWithHeadAndReport (.next u) ∧ ex = .next t ∧ (m.keepsPower → t = u)
    ∧ t.atc = u.atc ∧ t.sa = u.sa ∧ t.al = u.al ∧ t.tu = u.tu ∧ t.fp = u.fp ∧ t.now = u.now ∧ t.out = u.out
    ∧ t.pending = u.pending ∧ t.slc.queue = u.slc.queue ∧ t.slc.current = u.slc.current
    ∧ t.slc.stage = u.slc.stage ∧ t.slc.rxFifo = u.slc.rxFifo

/-! ### Slots at the acceptance of an ALERT (R27, R57) -/

/-- A text of the accepted ALERT has no full slot waiting for it. -/
def State.lacksText (s : State) (h : HeaderSegment) : Prop :=
  ∃ k < h.texts.length, ∀ n sl, s.slotAt n = some sl → sl.key = ⟨h.id, h.update, k⟩ →
    ∃ m : Nat, sl.received[m]? = some none

/-- Every text of the accepted ALERT has a full slot of its segment count waiting for it, and no slot is for a text
the ALERT does not list. -/
def State.hasEveryText (s : State) (h : HeaderSegment) : Prop :=
  (∀ k spec, h.texts[k]? = some spec → ∃ n sl, s.slotAt n = some sl ∧ sl.key = ⟨h.id, h.update, k⟩
      ∧ spec.count = sl.count ∧ ∀ m : Nat, sl.received[m]? ≠ some none)
    ∧ ∀ n sl, s.slotAt n = some sl → sl.key.id = h.id → sl.key.update = h.update →
      sl.key.text < h.texts.length

/-- `t` holds the slots of `s`, and in slot `i` the entry `made`, after an ALERT for it was accepted (R27, R57): the
slots of its update bound, the full ones completed, those its text list contradicts discarded with MALFORMED, slots
of lower updates discarded, and higher ones left. `al` is the Application Link's state before. -/
def State.SlotsBound (s t : State) (i : Nat) (h : HeaderSegment) (made : Entry) (al : Al) : Prop :=
  ∃ e, t.entryAt i = some e ∧ e = { made with texts := e.texts } ∧ e.texts.length = h.texts.length
    ∧ (∀ n, s.slotAt n = none → t.slotAt n = none)
    ∧ (∀ n sl, s.slotAt n = some sl →
        (sl.key.id ≠ h.id ∨ h.update < sl.key.update → t.slotAt n = some sl)
        ∧ (sl.key.id = h.id → sl.key.update < h.update → t.slotAt n = none)
        ∧ (sl.key.id = h.id → sl.key.update = h.update →
          (∀ spec, h.texts[sl.key.text]? = some spec → spec.count = sl.count →
              ((∃ m : Nat, sl.received[m]? = some none) →
                  t.slotAt n = some { sl with bound := true, precedence := e.precedence }
                    ∧ e.texts[sl.key.text]? = some ⟨spec.lang, spec.count, .collecting⟩)
                ∧ ((∀ m : Nat, sl.received[m]? ≠ some none) →
                  t.slotAt n = none ∧ e.texts[sl.key.text]? =
                    some ⟨spec.lang, spec.count, .complete (sl.received.filterMap id)⟩))
            ∧ ((∀ spec, h.texts[sl.key.text]? = some spec → spec.count ≠ sl.count) →
              t.slotAt n = none ∧ t.al.flags.malformed = true)))
    ∧ (∀ k spec, h.texts[k]? = some spec →
        (∀ n sl, s.slotAt n = some sl → sl.key = ⟨h.id, h.update, k⟩ → spec.count ≠ sl.count) →
        e.texts[k]? = some ⟨spec.lang, spec.count, .absent⟩)
    ∧ t.al = { al with flags := { al.flags with malformed := t.al.flags.malformed } }
    ∧ ((∀ n sl, s.slotAt n = some sl → sl.key.id = h.id → sl.key.update = h.update →
        ∃ spec, h.texts[sl.key.text]? = some spec ∧ spec.count = sl.count) → t.al = al)

/-- `t` follows where every text of the accepted ALERT was complete already (R25, R28, R34): the entry `made` of slot
`i` has all its texts COMPLETE and leaves COLLECTING in the same event, from `base`, which is `s` but for the notice
or the generation of this acceptance; its slots are closed and those of lower updates discarded. -/
def State.TextsComplete (s base t : State) (i : Nat) (h : HeaderSegment) (made : Entry) : Prop :=
  ∃ e' texts, t.entryAt i = some e' ∧ texts.length = h.texts.length
    ∧ (∀ n sl spec, s.slotAt n = some sl → sl.key.id = h.id → sl.key.update = h.update →
        h.texts[sl.key.text]? = some spec →
        texts[sl.key.text]? = some ⟨spec.lang, spec.count, .complete (sl.received.filterMap id)⟩)
    ∧ base.LeavesCollecting t i { made with texts := texts } e'
    ∧ t.sa.slots = s.sa.slots.map fun o => o.filter fun sl =>
        !(sl.key.id == h.id && decide (sl.key.update ≤ h.update))

/-! ### A header that supersedes or cancels an entry (R19, R27 to R29) -/

/-- The entry a superseding or cancelling header makes of the entry `e`: its fields and its relay record are those of
a new entry, its tally, report record and tally-send record its own; a tally wait that runs is started anew by a
supersede (R28, R29, R123, R142). -/
def State.keptEntry (s : State) (cfg : Settings) (h : HeaderSegment) (e : Entry) (origin : Origin)
    (rssi : Option Int) : Entry :=
  { s.madeEntry cfg h origin rssi with
    tally := e.tally
    lastReported := e.lastReported
    tallySend :=
      match h.action, e.tallySend.state with
      | .alert, .waiting _ =>
        if s.al.participation = .full ∧ e.state.name ≠ .expired then
          { e.tallySend with
            state := .waiting (tallyWaitExpiry cfg.tag e.id.serial e.tallySend.lastSent s.now) }
        else e.tallySend
      | _, _ => e.tallySend }

/-- `ex` is what follows in `s` from a header of the identity of the entry `e` of slot `i` taken out of its FIFO, which
left `x`, where it supersedes (R28) or cancels (R29) that entry: the relay jobs are ended (R100, R135), slots are
discarded or bound (R27), the entry is filled, a notice follows for one that was presented, and a cancel starts its
relay (R127) and tests the report (R171). -/
def State.ChangesEntry (s x : State) (ex : Result) (cfg : Settings) (h : HeaderSegment) (i : Nat) (e : Entry)
    (origin : Origin) (rssi : Option Int) : Prop :=
  let kept := s.keptEntry cfg h e origin rssi
  let slc := x.slc.ending s.now h.id .relay
  (h.action = .cancel →
      e.update < h.update
        ∨ h.update = e.update ∧ e.action = .alert ∧ e.state.name ≠ .cancelled ∧ e.state.name ≠ .expired →
      State.EndsEvent
        (State.modifyEntry
          { x with
            slc := slc
            sa := { s.sa with slots := s.sa.slots.map fun o => o.filter fun sl =>
              !(sl.key.id == h.id && decide (sl.key.update ≤ h.update)) }
            al :=
              if e.presented = true ∧ e.state ≠ .cancelled then s.al.queued (.cancelled ⟨i, s.genAt i⟩)
              else s.al
            tu := { s.tu with reportQueue := s.reportJoins i kept } } i fun _ => kept)
        ex)
    ∧ (h.action = .alert → e.update < h.update → s.slotsOk →
      (∀ n sl, s.slotAt n = some sl → sl.key.id = h.id → sl.key.update = h.update → sl.bound = false) →
      let al := if e.presented = true then s.al.queued (.superseded ⟨i, s.genAt i⟩) else s.al
      (s.lacksText h → ∃ m : State, s.SlotsBound m i h kept al
          ∧ m = { x with atc := { x.atc with table := m.atc.table }, sa := m.sa, slc := slc, al := m.al }
          ∧ (∀ k, k ≠ i → m.entryAt k = s.entryAt k) ∧ (∀ k, m.genAt k = s.genAt k) ∧ m.EndsEvent ex)
        ∧ (s.hasEveryText h → State.noHeadTaken { x with slc := slc } →
          ∃ t, ex = .next t ∧ t.now = s.now ∧ s.TextsComplete { s with al := al } t i h kept
            ∧ (∀ k, k ≠ i → t.entryAt k = s.entryAt k) ∧ (∀ k, t.genAt k = s.genAt k)
            ∧ t.slc.queue = slc.queue ∧ t.slc.current = slc.current ∧ t.slc.stage = slc.stage ∧ t.fp = x.fp))

end Sys2Proof.Machine
end

