-- ==== Sys2Proof/Certificates/Slice0/Obligations.lean ====
section
/-! DEFINITION. The statements for the provers. Each is about the part, for every state that meets its
hypotheses; none is about a program. Where a clause rests on a choice of the model, its docstring names the
log entry. -/

open Sys2Proof Sys2Proof.Machine

/-! ### Steps and reset -/

/-- One step takes the command at the front of the queue and carries it out on the rest of the queue. -/
def Obligations.StepTakesFrontCommand : Prop :=
  ∀ (s : State) (c : Instr) (rest : List Instr), s.pending = c :: rest →
    step s = exec c { s with pending := rest }

/-- With no command waiting, the part takes one of its own events that are due, or lets a microsecond pass;
and it lets one pass where nothing is due (the model's choice, log entries 2 and 3; for every value of
`Config.eventOrder`). -/
def Obligations.IdleStepTakesDueEventOrTicks : Prop :=
  ∀ s : State, s.pending = [] →
    ((s.dueTimers = [] ∧ step s = .next s.tick)
        ∨ ∃ c ∈ s.dueTimers ++ s.dueFifos, step s = exec c { s with choice := s.choice + 1 })
      ∧ (s.dueTimers = [] → s.dueFifos = [] → step s = .next s.tick)

/-- The power-on values of every block (section 10.9, R15, R17, R47, R67, R74, R84, R111, R165, R178). -/
def Obligations.ResetHasPowerOnValues : Prop :=
  let r := State.reset
  (r.atc.table.length = 32 ∧ ∀ i < 32, r.entryAt i = none ∧ r.genAt i = 0)
    ∧ r.atc.position = none ∧ r.atc.optIn = 0xFFFF
    ∧ r.atc.map =
      [⟨15, .mandatory, .fast⟩, ⟨12, .inArea, .fast⟩, ⟨10, .inArea, .normal⟩, ⟨8, .inArea, .normal⟩,
        ⟨6, .optional, .normal⟩, ⟨3, .optional, .normal⟩, ⟨1, .silent, .normal⟩,
        ⟨0, .optional, .none⟩, ⟨0, .optional, .none⟩, ⟨0, .optional, .none⟩, ⟨0, .optional, .none⟩,
        ⟨0, .optional, .none⟩, ⟨0, .optional, .none⟩, ⟨0, .optional, .none⟩, ⟨0, .optional, .none⟩,
        ⟨0, .optional, .none⟩]
    ∧ (r.freeBlocks = 128 ∧ ∀ n < 8, r.sa.slots[n]? = some none)
    ∧ r.slc.medium = .off ∧ r.slc.queue = [] ∧ r.slc.current = none ∧ r.slc.stage = []
    ∧ r.slc.rxFifo = [] ∧ r.slc.lastActivity = none ∧ r.slc.busyStart = none
    ∧ r.pwc.power = .awake ∧ r.pwc.hold = .notStarted ∧ r.pwc.warmUp = none ∧ r.pwc.nextWindow = none
    ∧ r.fp.pageFifo = [] ∧ r.readyLine = false ∧ r.fp.coverage = false ∧ r.fp.blocked = false
    ∧ r.tu.reportQueue = [] ∧ r.tu.outstanding = none
    ∧ r.al.config = none ∧ r.al.response = none ∧ r.al.notices = [] ∧ r.noticeLine = false
    ∧ r.al.flags = ⟨false, false, false, false, false, false, false⟩ ∧ r.al.participation = .full

/-- The state after reset meets every invariant stated below. -/
def Obligations.ResetMeetsTheInvariants : Prop :=
  let r := State.reset
  r.settled = true ∧ r.noticesOk ∧ r.fifosOk ∧ r.queueOk ∧ r.tableOk ∧ r.talliesOk ∧ r.tagOk ∧ r.poolOk
    ∧ r.assemblyOk ∧ r.reportsOk ∧ r.modesOk ∧ r.sidelinkOk ∧ r.unconfiguredOk ∧ r.positionOk

/-! ### Segments and frames -/

/-- A header segment is read back as it was built, for every field its encoding admits (R4, R8), and its
length is that of the layout (section 1.3). -/
def Obligations.HeaderSegmentRoundTrip : Prop :=
  ∀ h : HeaderSegment, headerOk h = true → h.update < 16 → h.category < 16 → h.hop < 8 →
    h.lifetime < 65536 →
    readHeader (headerBytes h) = some h
      ∧ (headerBytes h).length = 9 + 3 * h.zones.length + 3 * h.texts.length

/-- A text segment is read back as it was built (R6, R8). A tally segment of either mode is read back as it
was built (R7, R8). -/
def Obligations.TextAndTallySegmentRoundTrip : Prop :=
  (∀ t : TextSegment, textOk t = true → t.update < 16 → t.text < 4 →
      readText (textBytes t) = some t ∧ (textBytes t).length = 7 + t.payload.length)
    ∧ (∀ t : TallySegment, originatorOk t.id = true → tallyOk t.tally = true →
      readTally (tallyBytes t) = some t)

/-- A frame check differs wherever one byte differs, and running it over the bytes and their check leaves 0:
so a frame the part sends passes at a receiver, and no frame with one wrong body byte does (R9, R10). -/
def Obligations.FrameCheckDetectsOneWrongByte : Prop :=
  (∀ (before after : List Byte) (a b : Byte), a ≠ b →
      crc (before ++ a :: after) ≠ crc (before ++ b :: after))
    ∧ (∀ bytes : List Byte, crc (bytes ++ bytes16 (crc bytes)) = 0)
    ∧ (∀ (kind : Byte) (tag : Tag) (before after : List Byte) (a b : Byte), a ≠ b →
        frameCheckOk (makeFrame kind tag (before ++ a :: after)) = true
          ∧ frameCheckOk { makeFrame kind tag (before ++ a :: after) with
              body := before ++ b :: after } = false)

/-- The header a relay sends passes R4; its hop budget is one less than the record's, its lifetime the
remaining one rounded down to minutes, within 1..1440; its other fields are the entry's (R8, R133). The
remaining lifetime is rounded down to whole seconds first (the model's reading, log entry 1). -/
def Obligations.RelayedHeaderIsWellFormed : Prop :=
  ∀ (e : Entry) (now : Micros), originatorOk e.id = true → e.update < 16 → e.category < 16 →
    1 ≤ e.relay.hop → e.relay.hop ≤ 7 → 1 ≤ e.zones.length → e.zones.length ≤ 8 →
    (∀ z ∈ e.zones, zoneOk z = true) → e.texts.length ≤ 4 → (e.action = .alert → e.texts ≠ []) →
    (∀ t ∈ e.texts, 1 ≤ t.count ∧ t.count ≤ 8) → 60 ≤ e.remaining now →
    e.lifetimeEnd ≤ now + seconds 86400 →
    let h := relayedHeader e now
    readHeader (headerBytes h) = some h ∧ h.hop + 1 = e.relay.hop
      ∧ 1 ≤ h.lifetime ∧ h.lifetime ≤ 1440
      ∧ 60 * h.lifetime ≤ e.remaining now ∧ e.remaining now < 60 * h.lifetime + 60
      ∧ h.id = e.id ∧ h.update = e.update ∧ h.action = e.action ∧ h.category = e.category
      ∧ h.zones = e.zones ∧ h.texts = e.texts.map fun t => ⟨t.lang, t.count⟩

/-! ### Zones -/

/-- The five rows of the area test, in their order, on the fields of well-formed zone codes (R13): a field is
specified where it is not 0, and P is at least as fine as Z where it specifies each field Z specifies. The
area result of a list of zones depends on which zones it lists and not on their order or repetition; INSIDE
wins over UNKNOWN and UNKNOWN over OUTSIDE (R14). -/
def Obligations.AreaTestAndAreaResult : Prop :=
  (∀ (position : Option ZoneCode) (z : ZoneCode), zoneOk z = true →
      (∀ p, position = some p → zoneOk p = true) →
      zoneTest position z =
        if zoneRegion z = 0 then .inside
        else
          match position with
          | none => .unknown
          | some p =>
            if (zoneRegion p ≠ 0 ∧ zoneRegion z ≠ zoneRegion p)
                ∨ (zoneDistrict z ≠ 0 ∧ zoneDistrict p ≠ 0 ∧ zoneDistrict z ≠ zoneDistrict p)
                ∨ (zoneSquare z ≠ 0 ∧ zoneSquare p ≠ 0 ∧ zoneSquare z ≠ zoneSquare p) then .outside
            else if zoneRegion p ≠ 0 ∧ (zoneDistrict z ≠ 0 → zoneDistrict p ≠ 0)
                ∧ (zoneSquare z ≠ 0 → zoneSquare p ≠ 0) then .inside
            else .unknown)
    ∧ ((∀ (position : Option ZoneCode) (zs zs' : List ZoneCode), (∀ z, z ∈ zs ↔ z ∈ zs') →
        areaTest position zs = areaTest position zs')
      ∧ ∀ (position : Option ZoneCode) (zs : List ZoneCode),
        (areaTest position zs = .inside ↔ ∃ z ∈ zs, zoneTest position z = .inside)
          ∧ (areaTest position zs = .outside ↔ ∀ z ∈ zs, zoneTest position z = .outside))

/-! ### Tallies -/

/-- Bucket and rank of a tag, with the eight rows of the manual's table (R147). -/
def Obligations.BucketAndRankOfTag : Prop :=
  (∀ t : Tag, tagBucket t = t.toNat % 32
      ∧ (t.toNat / 32 = 0 → tagRank t = 16)
      ∧ (t.toNat / 32 ≠ 0 → ∃ k, 2 ^ k ∣ t.toNat / 32 ∧ ¬ 2 ^ (k + 1) ∣ t.toNat / 32
          ∧ tagRank t = min 16 (1 + k)))
    ∧ (tagBucket 0x12345680 = 0 ∧ tagRank 0x12345680 = 3)
    ∧ (tagBucket 0x0000F3A0 = 0 ∧ tagRank 0x0000F3A0 = 1)
    ∧ (tagBucket 0x2222AB01 = 1 ∧ tagRank 0x2222AB01 = 4)
    ∧ (tagBucket 0x00000020 = 0 ∧ tagRank 0x00000020 = 1)
    ∧ (tagBucket 0x00000040 = 0 ∧ tagRank 0x00000040 = 2)
    ∧ (tagBucket 0x00000011 = 17 ∧ tagRank 0x00000011 = 16)
    ∧ (tagBucket 0x80000000 = 0 ∧ tagRank 0x80000000 = 16)
    ∧ (tagBucket 0xFFFFFFFF = 31 ∧ tagRank 0xFFFFFFFF = 1)

/-- A received LIST merged into an own SKETCH: each tag folded, the floor raised to the number of tags, the
mode kept; an empty LIST changes nothing (R154). -/
def Obligations.MergeOfListIntoSketch : Prop :=
  ∀ (ranks : List Nat) (floor : Nat) (tags : List Tag), ranks.length = 32 →
    (∃ ranks', mergeTally (.sketch ranks floor) (.list tags) = .sketch ranks' (max floor tags.length)
      ∧ ranks'.length = 32
      ∧ ∀ b < 32,
        ranks.getD b 0 ≤ ranks'.getD b 0
          ∧ (∀ t ∈ tags, tagBucket t = b → tagRank t ≤ ranks'.getD b 0)
          ∧ (ranks'.getD b 0 = ranks.getD b 0
              ∨ ∃ t ∈ tags, tagBucket t = b ∧ tagRank t = ranks'.getD b 0))
      ∧ mergeTally (.sketch ranks floor) (.list []) = .sketch ranks floor

/-- A received SKETCH merged: an own LIST is converted with its length as floor, then each rank and the floor
take the larger value (R153). -/
def Obligations.MergeOfSketch : Prop :=
  (∀ (ranks ranks' : List Nat) (floor floor' : Nat), ranks.length = 32 → ranks'.length = 32 →
      ∃ r, mergeTally (.sketch ranks floor) (.sketch ranks' floor') = .sketch r (max floor floor')
        ∧ r.length = 32 ∧ ∀ b < 32, r.getD b 0 = max (ranks.getD b 0) (ranks'.getD b 0))
    ∧ ∀ (tags : List Tag) (ranks' : List Nat) (floor' : Nat), ranks'.length = 32 →
      ∃ r, mergeTally (.list tags) (.sketch ranks' floor') = .sketch r (max tags.length floor')
        ∧ r.length = 32
        ∧ ∀ b < 32,
          ranks'.getD b 0 ≤ r.getD b 0
            ∧ (∀ t ∈ tags, tagBucket t = b → tagRank t ≤ r.getD b 0)
            ∧ (r.getD b 0 = ranks'.getD b 0 ∨ ∃ t ∈ tags, tagBucket t = b ∧ tagRank t = r.getD b 0)

/-- A merge gives a tally that R145 or R146 allows and that holds everything both tallies held; merging the same
tally again changes nothing (R151, R157). Two LISTs: while the merge stays a LIST, the own tally is covered
exactly when it held nothing beyond the received one; a merge that converts it is never covered (R155, R157).
Against a SKETCH an own SKETCH is covered when all ranks and the floors are equal, which after a merge says that
the own tally held nothing more; against a LIST, when it equals the sketch form of the list (R155). -/
def Obligations.MergeHoldsBothAndCoveredTest : Prop :=
  (∀ own received : Tally, tallyOk own = true → tallyOk received = true →
      tallyOk (mergeTally own received) = true
        ∧ tallyHolds (mergeTally own received) own ∧ tallyHolds (mergeTally own received) received
        ∧ mergeTally (mergeTally own received) received = mergeTally own received)
    ∧ (∀ tags tags' : List Tag, tallyOk (.list tags) = true → tallyOk (.list tags') = true →
      match mergeTally (.list tags) (.list tags') with
      | .list merged =>
        (∀ t, t ∈ merged ↔ t ∈ tags ∨ t ∈ tags')
          ∧ (coveredBy (.list merged) (.list tags') = true ↔ ∀ t ∈ tags, t ∈ tags')
      | .sketch ranks floor => floor = 25 ∧ coveredBy (.sketch ranks floor) (.list tags') = false)
    ∧ ∀ (ranks ranks' : List Nat) (floor floor' : Nat) (tags : List Tag), ranks.length = 32 →
      ranks'.length = 32 →
      (coveredBy (.sketch ranks floor) (.sketch ranks' floor') = true ↔ ranks = ranks' ∧ floor = floor')
        ∧ (coveredBy (mergeTally (.sketch ranks floor) (.sketch ranks' floor')) (.sketch ranks' floor') = true ↔
          floor ≤ floor' ∧ ∀ b < 32, ranks.getD b 0 ≤ ranks'.getD b 0)
        ∧ (coveredBy (mergeTally (.list tags) (.sketch ranks' floor')) (.sketch ranks' floor') = true ↔
          tags.length ≤ floor' ∧ ∀ t ∈ tags, tagRank t ≤ ranks'.getD (tagBucket t) 0)
        ∧ (coveredBy (mergeTally (.sketch ranks floor) (.list tags)) (.list tags) = true ↔
          floor ≤ tags.length
            ∧ ∀ b < 32, ranks.getD b 0 = 0 ∨ ∃ t ∈ tags, tagBucket t = b ∧ ranks.getD b 0 ≤ tagRank t)

/-- The sum S and E_raw of R159, their ranges, and that E_raw never falls where no rank falls. The count of a
tally: the number of tags of a LIST, one more for each tag inserted; for a SKETCH the estimate clamped to
1,048,575 and raised to the floor; and a conversion never lowers it (R158, R161). The estimate: LC[V] by the
manual's table where E_raw is 80 or less and V, the number of buckets of rank 0, is above 0; E_raw otherwise
(R160). -/
def Obligations.EstimateAndCountOfTally : Prop :=
  ((∀ ranks : List Nat, ranks.length = 32 → (∀ r ∈ ranks, r ≤ 16) →
        rankSum ranks = ((List.range 32).map fun b => 2 ^ (16 - ranks.getD b 0)).sum
          ∧ 32 ≤ rankSum ranks ∧ rankSum ranks ≤ 2097152
          ∧ rawEstimate ranks = 714 * 65536 / rankSum ranks
          ∧ 22 ≤ rawEstimate ranks ∧ rawEstimate ranks ≤ 1462272)
      ∧ ∀ ranks ranks' : List Nat, ranks.length = 32 → ranks'.length = 32 → (∀ r ∈ ranks, r ≤ 16) →
        (∀ r ∈ ranks', r ≤ 16) → (∀ b < 32, ranks.getD b 0 ≤ ranks'.getD b 0) →
        rawEstimate ranks ≤ rawEstimate ranks')
    ∧ ((∀ tags : List Tag, tallyCount (.list tags) = tags.length)
      ∧ (∀ (tags : List Tag) (t : Tag), t ∉ tags → tags.length < 24 →
          tallyCount (addTag (.list tags) t) = tags.length + 1)
      ∧ (∀ (tags : List Tag) (t : Tag), tallyOk (.list tags) = true →
          tags.length ≤ tallyCount (addTag (.list tags) t))
      ∧ (∀ (tags : List Tag) (received : Tally), tallyOk (.list tags) = true → tallyOk received = true →
          tags.length ≤ tallyCount (mergeTally (.list tags) received))
      ∧ (∀ (ranks : List Nat) (floor : Nat), tallyOk (.sketch ranks floor) = true →
          tallyCount (.sketch ranks floor) = max (min (estimate ranks) 1048575) floor
            ∧ floor ≤ tallyCount (.sketch ranks floor) ∧ tallyCount (.sketch ranks floor) ≤ 1048575
            ∧ (45 ≤ rankSum ranks → estimate ranks ≤ 1048575))
      ∧ rankSum (List.replicate 32 16) = 32 ∧ rawEstimate (List.replicate 32 16) = 1462272
      ∧ ∀ floor ≤ 25, tallyCount (.sketch (List.replicate 32 16) floor) = 1048575)
    ∧ ∀ ranks : List Nat, ranks.length = 32 → (∀ r ∈ ranks, r ≤ 16) →
      (rawEstimate ranks ≤ 80 → ∀ row : Nat × Nat, ranks.count 0 = row.1 →
          row ∈ [(1, 111), (2, 89), (3, 76), (4, 67), (5, 59), (6, 54), (7, 49), (8, 44),
            (9, 41), (10, 37), (11, 34), (12, 31), (13, 29), (14, 26), (15, 24), (16, 22),
            (17, 20), (18, 18), (19, 17), (20, 15), (21, 13), (22, 12), (23, 11), (24, 9),
            (25, 8), (26, 7), (27, 5), (28, 4), (29, 3), (30, 2), (31, 1), (32, 0)] →
          estimate ranks = row.2)
        ∧ (80 < rawEstimate ranks ∨ ranks.count 0 = 0 → estimate ranks = rawEstimate ranks)

/-! ### Keys, waits and configuration -/

/-- The contention key: precedence in bits 15..12, kind class in 11..10, the salt in 9..0; it is never 0; the
salts of 1024 successive loss counts all differ (R93). -/
def Obligations.ContentionKeyFields : Prop :=
  (∀ (tag : Tag) (precedence cls losses : Nat), precedence ≤ 15 → 1 ≤ cls → cls ≤ 3 →
      let key := (contentionKey tag precedence cls losses).toNat
      key / 4096 = precedence ∧ key / 1024 % 4 = cls
        ∧ key % 1024 = (tag.toNat % 1024 + 331 * losses) % 1024 ∧ key ≠ 0)
    ∧ (∀ (tag : Tag) (precedence cls losses i j : Nat), i < 1024 → j < 1024 →
        contentionKey tag precedence cls (losses + i) = contentionKey tag precedence cls (losses + j) →
        i = j)
    ∧ contentionKey 0x12345680 10 3 0 = 0xAE80 ∧ contentionKey 0x12345680 10 3 1 = 0xAFCB

/-- The relay wait is base, spread and jitter, lies in its ranges, and a fainter peer copy never waits longer
(R128). The tally wait is W = 500 + ((own tag mod 65536) + serial) mod 1000 ms, so 500..1499 ms, and ends no
earlier than 5 s after the last send (R139). -/
def Obligations.WaitTimes : Prop :=
  (∀ (tag : Tag) (serial : BitVec 16) (r : RelayRecord),
      20 ≤ relayWaitMillis .fast tag serial r ∧ relayWaitMillis .fast tag serial r ≤ 830
        ∧ 200 ≤ relayWaitMillis .normal tag serial r ∧ relayWaitMillis .normal tag serial r ≤ 1010)
    ∧ (∀ (cls : RelayClass) (tag : Tag) (serial : BitVec 16) (r r' : RelayRecord) (a b : Int),
        r.origin = .peer → r'.origin = .peer → r.rssi = some a → r'.rssi = some b → a ≤ b →
        relayWaitMillis cls tag serial r ≤ relayWaitMillis cls tag serial r')
    ∧ (∀ (tag : Tag) (serial : BitVec 16) (r : RelayRecord) (a : Int),
        let jitter := ((tag.toNat % 65536) ^^^ serial.toNat) % 251
        (r.origin = .cell → relayWaitMillis .fast tag serial r = 20 + 280 + jitter
            ∧ relayWaitMillis .normal tag serial r = 200 + 280 + jitter)
          ∧ (r.origin = .peer → r.rssi = some a →
            let spread := 8 * (max (-110) (min a (-40)) + 110)
            (relayWaitMillis .fast tag serial r : Int) = 20 + spread + jitter
              ∧ (relayWaitMillis .normal tag serial r : Int) = 200 + spread + jitter))
    ∧ ∀ (tag : Tag) (serial : BitVec 16) (lastSent : Option Micros) (now : Micros),
      (let w := 500 + (tag.toNat % 65536 + serial.toNat) % 1000;
        (lastSent = none → tallyWaitExpiry tag serial lastSent now = now + 1000 * w)
          ∧ ∀ t, lastSent = some t →
            tallyWaitExpiry tag serial lastSent now = max (now + 1000 * w) (t + 5000000))
        ∧ now + millis 500 ≤ tallyWaitExpiry tag serial lastSent now
        ∧ (∀ t, lastSent = some t → t + seconds 5 ≤ tallyWaitExpiry tag serial lastSent now)
        ∧ (tallyWaitExpiry tag serial lastSent now ≤ now + millis 1499
            ∨ ∃ t, lastSent = some t ∧ tallyWaitExpiry tag serial lastSent now = t + seconds 5)

/-- Every value of a configuration lies in its range as taken; a value within its range is taken as given, one
outside it as the nearer end, and a field marked "default" takes its default, the hold limit with the listen
interval as taken (R181). -/
def Obligations.ConfigurationAsTaken : Prop :=
  ∀ (r : ConfigRecord) (tag : Tag) (doze : Bool),
    let c := takenSettings r tag doze
    c.tag = tag ∧ c.doze = doze
      ∧ c.hopLimit ≤ 7 ∧ 1 ≤ c.threshold ∧ c.threshold ≤ 7
      ∧ 100 ≤ c.listenInterval ∧ c.listenInterval ≤ 2000 ∧ 2 ≤ c.awakeHold ∧ c.awakeHold ≤ 60
      ∧ c.listenInterval + 100 ≤ c.holdLimit ∧ c.holdLimit ≤ 3000
      ∧ 1 ≤ c.zoneHold ∧ c.zoneHold ≤ 120 ∧ 1 ≤ c.reportStep ∧ c.reportStep ≤ 1000
      ∧ (∀ n, r.hopLimit = some n → n ≤ 7 → c.hopLimit = n)
      ∧ (∀ n, r.threshold = some n → 1 ≤ n → n ≤ 7 → c.threshold = n)
      ∧ (∀ n, r.listenInterval = some n → 100 ≤ n → n ≤ 2000 → c.listenInterval = n)
      ∧ (∀ n, r.awakeHold = some n → 2 ≤ n → n ≤ 60 → c.awakeHold = n)
      ∧ (∀ n, r.holdLimit = some n → c.listenInterval + 100 ≤ n → n ≤ 3000 → c.holdLimit = n)
      ∧ (∀ n, r.zoneHold = some n → 1 ≤ n → n ≤ 120 → c.zoneHold = n)
      ∧ (∀ n, r.reportStep = some n → 1 ≤ n → n ≤ 1000 → c.reportStep = n)
      ∧ (∀ n, r.hopLimit = some n → 7 < n → c.hopLimit = 7)
      ∧ (∀ n, r.threshold = some n → (n < 1 → c.threshold = 1) ∧ (7 < n → c.threshold = 7))
      ∧ (∀ n, r.listenInterval = some n →
          (n < 100 → c.listenInterval = 100) ∧ (2000 < n → c.listenInterval = 2000))
      ∧ (∀ n, r.awakeHold = some n → (n < 2 → c.awakeHold = 2) ∧ (60 < n → c.awakeHold = 60))
      ∧ (∀ n, r.holdLimit = some n → (n < c.listenInterval + 100 → c.holdLimit = c.listenInterval + 100)
          ∧ (3000 < n → c.holdLimit = 3000))
      ∧ (∀ n, r.zoneHold = some n → (n < 1 → c.zoneHold = 1) ∧ (120 < n → c.zoneHold = 120))
      ∧ (∀ n, r.reportStep = some n → (n < 1 → c.reportStep = 1) ∧ (1000 < n → c.reportStep = 1000))
      ∧ (r.hopLimit = none → c.hopLimit = 4) ∧ (r.threshold = none → c.threshold = 2)
      ∧ (r.listenInterval = none → c.listenInterval = 500) ∧ (r.awakeHold = none → c.awakeHold = 10)
      ∧ (r.holdLimit = none → c.holdLimit = max 800 (c.listenInterval + 100))
      ∧ (r.zoneHold = none → c.zoneHold = 30) ∧ (r.reportStep = none → c.reportStep = 10)

/-! ### Invariants that every step keeps -/

/-- Every command and event completes, whatever the state, in a state of rest (R90, R113, R117, R172; the
order of the end of an event is the model's, log entry 16), and leaves the waiting commands as they are. -/
def Obligations.EveryCommandCompletesAtRest : Prop :=
  ∀ (c : Instr) (s : State),
    ∃ t, exec c s = .next t ∧ t.settled = true ∧ t.pending = s.pending ∧ t.choice = s.choice

/-- The notice queue holds at most 24 notices and no two alike (R190); the page FIFO at most 8 segments (R167)
and the receive FIFO at most 4 frames (R104). The send queue holds at most 12 jobs, no two of one identity and
kind, in precedence order (R87). -/
def Obligations.QueuesAndFifosKept : Prop :=
  (∀ s t : State, step s = .next t →
      (s.noticesOk → t.noticesOk) ∧ (s.fifosOk → t.fifosOk))
    ∧ (∀ s t : State, s.queueOk → step s = .next t → t.queueOk)

/-- The table has 32 slots and no two entries of one identity (R17). -/
def Obligations.TableKept : Prop :=
  ∀ s t : State, s.tableOk → step s = .next t → t.tableOk

/-- Every tally stays one that R145 or R146 allows, and the own tag a station tag (R151, R181). -/
def Obligations.TalliesKept : Prop :=
  ∀ s t : State, s.talliesOk → s.tagOk → step s = .next t → t.talliesOk ∧ t.tagOk

/-- Slots and chains never hold more blocks than the pool has (R47, R54). There are 8 slot numbers and one open
slot for each key (R49); a bound slot belongs to a COLLECTING entry's current update, and a slot of such an
update is bound and its text COLLECTING (R27, R35, R51, R57). The report queue names each entry at most once
and only entries of the table (R31, R46, R170). -/
def Obligations.PoolAndReportQueueKept : Prop :=
  (∀ s t : State, s.poolOk → step s = .next t → t.poolOk)
    ∧ (∀ s t : State, s.tableOk → s.assemblyOk → step s = .next t → t.assemblyOk)
    ∧ (∀ s t : State, s.reportsOk → step s = .next t → t.reportsOk)

/-- OFF while UNCONFIGURED only, DOZE-SAMPLING in DOZE only, a warm-up in DOZE only (R84, R110, R118). A burst
is staged exactly while a job is current; DEFER, CONTEND, PREAMBLE and SEND belong to a current job, and a
burst goes on the air only when its job's first burst has won (R84, R90, R94, R99). -/
def Obligations.PowerModesAndStageKept : Prop :=
  (∀ s t : State, s.modesOk → step s = .next t → t.modesOk)
    ∧ (∀ s t : State, s.sidelinkOk → step s = .next t → t.sidelinkOk)

/-- Until CONFIGURE is taken, every block holds its power-on state, whatever happens (R183). A position never
outlives the zone hold time: no step leaves a position older than it (R68). -/
def Obligations.UnconfiguredPartHoldsPowerOnState : Prop :=
  (∀ s t : State, s.unconfiguredOk → step s = .next t → t.unconfiguredOk)
    ∧ ∀ s t : State, s.unconfiguredOk → s.positionOk → step s = .next t → t.positionOk

/-! ### Rules of the whole part -/

/-- Once taken, the configuration and the category map stay as they are until power-on reset (R15, R178). -/
def Obligations.ConfigurationFixedOnceTaken : Prop :=
  ∀ (c : Instr) (s t : State) (cfg : Settings), (∀ m, c ≠ .powerOnReset m) → s.al.config = some cfg →
    exec c s = .next t → t.al.config = some cfg ∧ t.atc.map = s.atc.map

/-- While an entry exists, its identity stays and its update number never decreases (R23). -/
def Obligations.UpdateNumberNeverDecreases : Prop :=
  ∀ (c : Instr) (s t : State) (i : Nat) (e e' : Entry), (∀ m, c ≠ .powerOnReset m) →
    exec c s = .next t → s.entryAt i = some e → t.entryAt i = some e' → s.genAt i = t.genAt i →
    e.update ≤ e'.update ∧ e'.id = e.id

/-- A PRESENTING entry keeps its slot: it is never evicted, and it leaves PRESENTING only for ACKNOWLEDGED,
CANCELLED or EXPIRED, or with a higher update (R39). -/
def Obligations.PresentingEntryStaysInTheTable : Prop :=
  ∀ (c : Instr) (s t : State) (i : Nat) (e : Entry), (∀ m, c ≠ .powerOnReset m) →
    exec c s = .next t → s.entryAt i = some e → e.state = .presenting →
    t.genAt i = s.genAt i
      ∧ ∃ e', t.entryAt i = some e' ∧ e'.id = e.id
        ∧ (e'.state = .presenting ∨ e'.state = .acknowledged ∨ e'.state = .cancelled
            ∨ (∃ l, e'.state = .expired l) ∨ e.update < e'.update)

/-- In LISTEN-ONLY a part without a current job takes none and puts nothing on the air (R109). -/
def Obligations.ListenOnlyPartStaysSilent : Prop :=
  ∀ (c : Instr) (s t : State), s.sidelinkOk → s.al.participation = .listenOnly → s.slc.current = none →
    exec c s = .next t → t.al.participation = .listenOnly →
    t.slc.current = none ∧ t.slc.stage = [] ∧ t.out.air = []

/-- A refused command changes no state but the response: its arrival is activity, and its refusal is pending
(R179, R180). -/
def Obligations.RefusedCommandChangesNothing : Prop :=
  ∀ (c : Instr) (s t : State) (code : RefusalCode), isCommand c = true → s.settled = true →
    s.linkFree = true → exec c s = .next t → t.al.response = some (.refused code) →
    t = s.answered (.refused code)

/-- A command transfer that is not taken, and what every transfer is to Power Control (R112, R117, R118, R179,
R180, R183): discarded while the reset line is asserted; BUSY while a response is pending; NOT-CONFIGURED
before CONFIGURE, but for three rows. In AWAKE a configured part restarts its awake hold; in DOZE the first
transfer starts the warm-up. That the reset line is looked at before a pending response is the model's reading
(log entry 19). -/
def Obligations.CommandTransferNotTaken : Prop :=
  ∀ (c : Instr) (s : State), isCommand c = true → s.settled = true →
    (s.al.resetLine = true → exec c s = .next s.begin.activity)
      ∧ (s.al.resetLine = false → s.al.response.isSome = true →
          exec c s = .next { s.activity with out := ⟨some .busy, none, []⟩ })
      ∧ (s.linkFree = true → s.al.config = none → (∀ r, c ≠ .configure r) → c ≠ .readStatus →
          c ≠ .unknownCommand → exec c s = .next (s.answered (.refused .notConfigured)))
      ∧ (∀ cfg, s.pwc.power = .awake → s.al.config = some cfg →
          s.activity.pwc = { s.pwc with hold := .running (s.now + 1000000 * cfg.awakeHold) })
      ∧ (s.pwc.power = .doze → s.pwc.warmUp = none →
          s.activity.pwc =
            { s.pwc with warmUp := some (s.now + 2000), nextWindow := none, window := none })

/-! ### The application link -/

/-- POWER_ON_RESET sets every block to its power-on values; the modem-ready state is as the line shows (R165,
R178); the waiting commands and the input levels stay (the model's choice, log entries 7 and 8). -/
def Obligations.PowerOnResetCompletes : Prop :=
  ∀ (s : State) (m : Bool), ∃ t, exec (.powerOnReset m) s = .next t
    ∧ t.atc = State.reset.atc ∧ t.sa = State.reset.sa ∧ t.pwc = State.reset.pwc ∧ t.tu = State.reset.tu
    ∧ t.slc = { State.reset.slc with carrier := t.slc.carrier }
    ∧ t.slc.carrier.isSome = s.slc.carrier.isSome
    ∧ t.fp = { State.reset.fp with modemReady := m }
    ∧ t.al = { State.reset.al with resetLine := s.al.resetLine }
    ∧ t.out = Outputs.none ∧ t.pending = s.pending

/-- CONFIGURE (R15, R180, R181, R182): a record within its ranges is taken, each category's map entry as the
record gives it or the default, the SLC enters IDLE and measures from now, the awake hold starts, and the
response holds the values as taken; another record is BAD-ARGUMENT; a configured part refuses. That a list of
another number of categories than 16 is BAD-ARGUMENT is the model's choice (log entry 11). -/
def Obligations.ConfigureCompletes : Prop :=
  (∀ (s : State) (r : ConfigRecord) (tag : Tag) (doze : Bool),
      s.unconfiguredOk → s.al.config = none → s.linkFree = true →
      r.stationTag = some tag → tag ≠ 0 → r.dozeEnabled = some doze → r.categories.length = 16 →
      (∀ a : CategoryArg, some a ∈ r.categories →
        a.precedence ≤ 15 ∧ a.presentation.isSome = true ∧ a.relay.isSome = true) →
      ∃ map : List CategoryEntry,
        map.length = 16
          ∧ (∀ i < 16, ∀ e, map[i]? = some e →
              match r.categories[i]? with
              | some (some a) =>
                e.precedence = a.precedence ∧ some e.presentation = a.presentation
                  ∧ some e.relay = a.relay
              | _ => State.reset.atc.map[i]? = some e)
          ∧ exec (.configure r) s = .next
            { s.begin with
              atc := { s.atc with map := map }
              al := { s.al with
                config := some (takenSettings r tag doze)
                response := some (.configured (takenSettings r tag doze) map) }
              slc := { s.slc with
                medium := .idle
                quietSince := if s.slc.carrier.isSome then none else some s.now
                busyStart := if s.slc.carrier.isSome then some s.now else none }
              pwc := { s.pwc with
                hold := .running (s.now + 1000000 * (takenSettings r tag doze).awakeHold) } })
    ∧ (∀ (s : State) (r : ConfigRecord), s.settled = true → s.al.config = none → s.linkFree = true →
        (r.stationTag = none ∨ r.stationTag = some 0 ∨ r.dozeEnabled = none ∨ r.categories.length ≠ 16
          ∨ ∃ a : CategoryArg, some a ∈ r.categories
              ∧ (15 < a.precedence ∨ a.presentation = none ∨ a.relay = none)) →
        exec (.configure r) s = .next (s.answered (.refused .badArgument)))
    ∧ ∀ (s : State) (r : ConfigRecord) (cfg : Settings), s.settled = true → s.al.config = some cfg →
      s.linkFree = true → exec (.configure r) s = .next (s.answered (.refused .alreadyConfigured))

/-- SET_POSITION, CLEAR_POSITION and POSITION_STALE: each write of the record is a position change; a malformed
zone is refused, and clearing NONE changes nothing (R68, R69, R70, R72). Every HELD entry whose row of R75's
table says Present is presented, in slot order (R78), with NOTICE-OVERFLOW set where its notice is lost (R190).
No stale position is read (R68): an event of a timer that expires after the position goes stale, and one that
reads the position or an area result once it is stale, are what they are after POSITION_STALE; that every FIFO
event with a segment, and every SET_OPT_IN, counts as such a reader at the instant of staleness is the model's
choice (log entry 33). A SET_POSITION at the instant of staleness may come first (R73). A staleness event
without a position has no effect, and the clock is brought forward to the zone hold time's end, or to a timer's
expiry past it (the model's choices, log entry 4). -/
def Obligations.PositionEventsComplete : Prop :=
  (∀ (s : State) (z : ZoneCode) (cfg : Settings), s.settled = true → s.linkFree = true →
      s.al.config = some cfg →
      if zoneOk z = true then
        ∃ t, exec (.setPosition z) s = .next t
          ∧ s.PositionChange t (some ⟨z, .application, s.now⟩)
          ∧ t.al.response = some .done ∧ t.pwc = s.activity.pwc ∧ t.now = s.now ∧ t.out = Outputs.none
      else exec (.setPosition z) s = .next (s.answered (.refused .badArgument)))
    ∧ (∀ (s : State) (cfg : Settings), s.settled = true → s.linkFree = true → s.al.config = some cfg →
        match s.atc.position with
        | none => exec .clearPosition s = .next (s.answered .done)
        | some _ =>
          ∃ t, exec .clearPosition s = .next t ∧ s.PositionChange t none
            ∧ t.al.response = some .done ∧ t.pwc = s.activity.pwc ∧ t.now = s.now ∧ t.out = Outputs.none)
    ∧ ∀ s : State, s.settled = true →
      match s.atc.position with
      | none => exec .positionStale s = .next s.begin
      | some p =>
        ∃ t, exec .positionStale s = .next t ∧ s.PositionChange t none
          ∧ t.now = max s.now (p.written + 60000000 * s.settings.zoneHold)
          ∧ t.al.response = s.al.response ∧ t.pwc = s.pwc ∧ t.out = Outputs.none
          ∧ (let stale := p.written + 60000000 * s.settings.zoneHold
            (∀ c w, (c, some w) ∈ s.timers ∨ c = .quietGapComplete ∧ s.gapInstant = some w →
                stale < max s.now w → exec c s = exec c t)
              ∧ (∀ i w, s.collectDue i = some w → stale ≤ max s.now w →
                exec (.collectLimit i) s = exec (.collectLimit i) t)
              ∧ (stale ≤ s.now →
                (s.fp.pageFifo ≠ [] → exec .pageFifoProcess s = exec .pageFifoProcess t)
                  ∧ (s.slc.rxFifo ≠ [] → s.slc.medium ≠ .off → s.slc.medium ≠ .dozeSampling →
                    exec .rxFifoProcess s = exec .rxFifoProcess t)
                  ∧ (s.linkFree = true →
                    exec .readStatus s = exec .readStatus t
                      ∧ ∀ cfg, s.al.config = some cfg →
                        (∀ marks, exec (.setOptIn marks) s = exec (.setOptIn marks) t)
                          ∧ ∀ h e, h.slot ≤ 31 → s.entryAt h.slot = some e → s.genAt h.slot = h.gen →
                            exec (.readAlert h) s = exec (.readAlert h) t)))

/-- SET_OPT_IN replaces the set and re-evaluates every HELD entry by the rows of R75's table, with
NOTICE-OVERFLOW set where a notice is lost (R78, R190); no area result is computed anew (R74). Stated while the
position is not stale; what is done where it is says Obligations.PositionEventsComplete. -/
def Obligations.SetOptInCompletes : Prop :=
  ∀ (s : State) (marks : BitVec 16) (cfg : Settings), s.settled = true → s.linkFree = true →
    s.al.config = some cfg → s.freshAt s.now →
    ∃ t, exec (.setOptIn marks) s = .next t
      ∧ t.atc.optIn = marks ∧ t.atc.position = s.atc.position ∧ (s.Reevaluation t fun e => e)
      ∧ t.al.response = some .done ∧ t.pwc = s.activity.pwc ∧ t.now = s.now ∧ t.out = Outputs.none

/-- SET_PARTICIPATION: another value is refused; FULL, and LISTEN-ONLY where it is already held, change the
setting only. A change to LISTEN-ONLY empties the queue and gives the current job an ending, by its end mark
while a burst is on the air and at once otherwise (R108). Relays that are WAITING, QUEUED or STAGED become
WITHHELD, and one that is SENDING when its job ends at once; the final relay states stay, and a relay on the air
stays SENDING (R108, R132, R136). Tally sends that are WAITING, QUEUED or STAGED become IDLE, one on the air
stays SENDING, and the resend marks are cleared (R142). -/
def Obligations.SetParticipationCompletes : Prop :=
  ∀ (s : State) (cfg : Settings), s.settled = true → s.linkFree = true → s.al.config = some cfg →
    exec (.setParticipation .other) s = .next (s.answered (.refused .badArgument))
      ∧ ((s.al.participation = .full ∨ s.slc.queue = []) →
          exec (.setParticipation .full) s = .next
            { s.answered .done with
              al := { s.al with participation := .full, response := some .done } })
      ∧ (s.al.participation = .listenOnly →
          exec (.setParticipation .listenOnly) s = .next (s.answered .done))
      ∧ (s.al.participation = .full →
          ∃ t, exec (.setParticipation .listenOnly) s = .next t
            ∧ t.al = { s.al with participation := .listenOnly, response := some .done }
            ∧ t.slc.queue = [] ∧ t.pwc = s.activity.pwc ∧ t.sa = s.sa ∧ t.fp = s.fp ∧ t.tu = s.tu
            ∧ (∀ i, t.genAt i = s.genAt i)
            ∧ (∀ i, t.entryAt i = (s.entryAt i).map fun e =>
                -- the entry whose current job has no burst on the air, which ends at once
                let ends (kind : JobKind) : Prop :=
                  s.slc.medium.onAir = false ∧ ∃ c ∈ s.slc.current, c.job.kind = kind
                    ∧ s.slotOf c.job.id = some i ∧ (kind = .relay → c.job.update = some e.relay.update)
                { e with
                  relay := { e.relay with
                    state :=
                      match e.relay.state with
                      | .waiting _ | .queued | .staged => .withheld
                      | .sending => if ends .relay then .withheld else .sending
                      | final => final }
                  tallySend := { e.tallySend with
                    state :=
                      match e.tallySend.state with
                      | .idle | .waiting _ | .queued | .staged => .idle
                      | .sending => if ends .tally then .idle else .sending
                    resend := false } })
            ∧ (match s.slc.current with
                | none =>
                  t.slc.current = none ∧ t.slc.stage = s.slc.stage
                    ∧ t.slc.medium ≠ .defer ∧ t.slc.medium.name ≠ .contend
                | some c =>
                  if s.slc.medium.onAir = true then
                    t.slc = { s.slc with queue := [], current := some { c with endMark := true } }
                  else t.slc = Slc.emptied { s.slc with queue := [] } s.now))

/-- ACKNOWLEDGE, by the state of the entry its handle names (R2, R80, R81): PRESENTING and HELD go to
ACKNOWLEDGED, at this moment (R20), with the own tag added; ACKNOWLEDGED stays; the rest are refused. A changed
tally is dirty: in IDLE its wait starts under FULL, in STAGED and SENDING the resend mark is set, and nothing
changes otherwise (R139, R149); then the entry is tested for a report, which goes where the uplink is open
(R171, R172). -/
def Obligations.AcknowledgeCompletes : Prop :=
  ∀ (s : State) (h : Handle) (cfg : Settings), s.settled = true → s.linkFree = true →
    s.al.config = some cfg →
    (31 < h.slot → exec (.acknowledge h) s = .next (s.answered (.refused .badArgument)))
      ∧ (h.slot ≤ 31 → (s.entryAt h.slot = none ∨ s.genAt h.slot ≠ h.gen) →
          exec (.acknowledge h) s = .next (s.answered (.refused .staleHandle)))
      ∧ ∀ e, h.slot ≤ 31 → s.entryAt h.slot = some e → s.genAt h.slot = h.gen →
        if e.state = .acknowledged then exec (.acknowledge h) s = .next (s.answered .done)
        else if e.state = .presenting ∨ e.state = .held then
          ∃ t e', exec (.acknowledge h) s = .next t ∧ t.entryAt h.slot = some e'
            ∧ e' = { e with state := .acknowledged, ownAck := true, acked := some s.now
                            tally := addTag e.tally cfg.tag, tallySend := e'.tallySend }
            ∧ (addTag e.tally cfg.tag = e.tally → e'.tallySend = e.tallySend ∧ t.tu = s.tu)
            ∧ (addTag e.tally cfg.tag ≠ e.tally →
                e'.tallySend = s.dirtied s.now e ∧ s.ReportTested t h.slot e')
            ∧ (∀ k, k ≠ h.slot → t.entryAt k = s.entryAt k) ∧ (∀ k, t.genAt k = s.genAt k)
            ∧ t.al = { s.al with response := some .done }
            ∧ t.sa = s.sa ∧ t.slc = s.slc ∧ t.fp = s.fp ∧ t.atc.position = s.atc.position
            ∧ t.atc.optIn = s.atc.optIn ∧ t.atc.map = s.atc.map ∧ t.now = s.now
        else exec (.acknowledge h) s = .next (s.answered (.refused .wrongState))

/-- READ_ALERT and READ_TEXT answer and change nothing else (R2, R185, R186). A COMPLETE text is read as the
bytes of its blocks in chain order, from the offset onwards, at most 96 (R65). The remaining lifetime is rounded
down to whole seconds (the model's reading, log entry 1). A READ_ALERT is stated while the position is not stale
(R68; see Obligations.PositionEventsComplete). -/
def Obligations.ReadAlertAndReadTextComplete : Prop :=
  ∀ (s : State) (h : Handle) (cfg : Settings), s.settled = true → s.linkFree = true →
    s.al.config = some cfg →
    (31 < h.slot → exec (.readAlert h) s = .next (s.answered (.refused .badArgument)))
      ∧ (h.slot ≤ 31 → (s.entryAt h.slot = none ∨ s.genAt h.slot ≠ h.gen) →
          exec (.readAlert h) s = .next (s.answered (.refused .staleHandle))
            ∧ ∀ index ≤ 3, ∀ offset length,
              exec (.readText h index offset length) s = .next (s.answered (.refused .staleHandle)))
      ∧ (∀ index offset length, 3 < index ∨ 31 < h.slot →
          exec (.readText h index offset length) s = .next (s.answered (.refused .badArgument)))
      ∧ ∀ e, h.slot ≤ 31 → s.entryAt h.slot = some e → s.genAt h.slot = h.gen →
        (s.freshAt s.now → ∃ r : Summary, exec (.readAlert h) s = .next (s.answered (.summary r))
          ∧ r.handle = h ∧ r.id = e.id ∧ r.update = e.update ∧ r.action = e.action
          ∧ r.category = e.category ∧ r.precedence = e.precedence ∧ r.state = e.state.name
          ∧ r.origin = e.origin ∧ r.area = e.area ∧ r.zones = e.zones
          ∧ r.lifetime = (if e.state.name = .expired then 0 else (e.lifetimeEnd - s.now) / 1000000)
          ∧ r.texts.map Prod.fst = e.texts.map TextRecord.lang
          ∧ (∀ (k : Nat) (t : TextRecord), e.texts[k]? = some t →
              ∃ x : TextReport, r.texts[k]? = some (t.lang, x)
              ∧ x = match t.state with
                | .absent => .absent
                | .collecting => .collecting
                | .released => .released
                | .complete chain => .complete (chainLength chain))
          ∧ r.partialMark = e.partialMark ∧ r.ownAck = e.ownAck ∧ r.relay = e.relay.state.name
          ∧ r.mode = tallyMode e.tally ∧ r.count = tallyCount e.tally)
        ∧ ∀ index ≤ 3, ∀ offset length,
          match e.texts[index]? with
          | none => exec (.readText h index offset length) s = .next (s.answered (.refused .badArgument))
          | some t =>
            match t.state with
            | .absent | .collecting =>
              exec (.readText h index offset length) s = .next (s.answered (.refused .wrongState))
            | .released =>
              exec (.readText h index offset length) s = .next (s.answered (.refused .textReleased))
            | .complete chain =>
              chain ≠ [] → (∀ b ∈ chain.dropLast, b.payload.length = 96) →
              (∀ b ∈ chain.getLast?, 1 ≤ b.payload.length ∧ b.payload.length ≤ 96) →
              exec (.readText h index offset length) s =
                .next (s.answered (.text
                  (((chain.flatMap Block.payload).drop offset).take (min length 96))))

/-- LIST_ALERTS returns the handle and state of each occupied slot, in slot order, and changes nothing else
(R187). -/
def Obligations.ListAlertsCompletes : Prop :=
  ∀ (s : State) (cfg : Settings), s.settled = true → s.linkFree = true → s.al.config = some cfg →
    s.tableOk →
    exec .listAlerts s = .next (s.answered (.alerts
      ((List.range 32).filterMap fun i =>
        (s.entryAt i).map fun e => ((⟨i, s.genAt i⟩ : Handle), e.state.name))))

/-- READ_STATUS returns the status record in both configured states and changes nothing else (R188); before
CONFIGURE the record is the one of R183. The position's age is rounded down to whole seconds (the model's
reading, log entry 1). Stated while the position is not stale, so that the age is below the zone hold time (R68;
see Obligations.PositionEventsComplete). -/
def Obligations.ReadStatusCompletes : Prop :=
  ∀ s : State, s.settled = true → s.linkFree = true → s.freshAt s.now →
    exec .readStatus s = .next (s.answered (.status
        { configured := s.al.config.isSome
          power := s.pwc.power
          medium := s.slc.medium.name
          coverage := s.fp.coverage
          blocked := s.fp.blocked
          position := s.atc.position.map fun p => ⟨p.zone, p.source, (s.now - p.written) / 1000000⟩
          participation := s.al.participation
          entries := s.identities.length
          freeBlocks := s.freeBlocks
          sendQueue := s.slc.queue.length
          outstanding := s.tu.outstanding.map Outstanding.id
          flags := s.al.flags }))
      ∧ (s.al.config = none → s.unconfiguredOk →
          exec .readStatus s = .next (s.answered (.status
            ⟨false, .awake, .off, false, false, none, .full, 0, 128, 0, none,
              ⟨false, false, false, false, false, false, false⟩⟩)))

/-- FETCH_NOTICE removes and returns the oldest notice, or answers NONE (R191); CLEAR_FLAGS clears the marked
flags and no other (R189); an unknown command is refused in both configured states (R180). -/
def Obligations.FetchNoticeAndClearFlagsComplete : Prop :=
  ∀ s : State, s.settled = true → s.linkFree = true →
    exec .unknownCommand s = .next (s.answered (.refused .badArgument))
      ∧ ∀ cfg, s.al.config = some cfg →
        (match s.al.notices with
          | [] => exec .fetchNotice s = .next (s.answered (.notice none))
          | n :: rest =>
            exec .fetchNotice s = .next
              { s.answered (.notice (some n)) with
                al := { s.al with notices := rest, response := some (.notice (some n)) } })
        ∧ ∀ marks : Flags,
          exec (.clearFlags marks) s = .next
            { s.answered .done with
              al := { s.al with
                response := some .done
                flags :=
                  { rxOverrun := if marks.rxOverrun then false else s.al.flags.rxOverrun
                    damaged := if marks.damaged then false else s.al.flags.damaged
                    malformed := if marks.malformed then false else s.al.flags.malformed
                    noticeOverflow := if marks.noticeOverflow then false else s.al.flags.noticeOverflow
                    tableFull := if marks.tableFull then false else s.al.flags.tableFull
                    poolExhausted := if marks.poolExhausted then false else s.al.flags.poolExhausted
                    sendQueueFull := if marks.sendQueueFull then false else s.al.flags.sendQueueFull } } }

/-- A link restart, by command or by the reset line: the notice queue emptied and filled with a PRESENT for
each PRESENTING entry in slot order, at most 24, the pending response dropped, NOTICE-OVERFLOW as the refill
leaves it, and nothing else changed (R192). The line restarts the link at its change to asserted only, and its
release changes the line only. A response read returns the pending response and leaves none, or returns an
empty answer and changes nothing; it is no activity (R179). That the release restarts nothing is the model's
reading (log entry 20). -/
def Obligations.LinkRestartAndResponseReadComplete : Prop :=
  (∀ s : State, s.settled = true →
      let present := (List.range s.atc.table.length).filterMap fun i =>
        (s.entryAt i).bind fun e =>
          if e.state = .presenting then some (Notice.present ⟨i, s.genAt i⟩) else none
      let al := { s.al with
        notices := present.take 24
        flags := { s.al.flags with noticeOverflow := decide (24 < present.length) } }
      (∀ cfg, s.linkFree = true → s.al.config = some cfg →
          exec .restartLink s = .next { s.begin.activity with al := { al with response := some .done } })
        ∧ (s.al.resetLine = false →
            exec .linkResetLineAsserted s = .next
              { s.begin.activity with al := { al with response := none, resetLine := true } })
        ∧ (s.al.resetLine = true → exec .linkResetLineAsserted s = .next s.begin)
        ∧ exec .linkResetLineReleased s = .next { s.begin with al := { s.al with resetLine := false } })
    ∧ (∀ s : State, s.settled = true →
      match s.al.response with
      | some r =>
        exec .responseRead s = .next
          { s with out := ⟨some (.response r), none, []⟩, al := { s.al with response := none } }
      | none => exec .responseRead s = .next { s with out := ⟨some .empty, none, []⟩ })

/-! ### The feed port -/

/-- A PAGE of a sound envelope joins the page FIFO, or is dropped with RX-OVERRUN at a full one (R167); a
message of a bad envelope sets MALFORMED and does nothing more (R11, R166); before CONFIGURE every message is
discarded (R166). -/
def Obligations.FeedMessageArrivalCompletes : Prop :=
  ∀ (s : State) (kind : PageKind) (other length : Byte) (body : List Byte), s.settled = true →
    (other = 0 ∨ 5 < other.toNat) →
    (s.al.config = none →
        exec (.page kind length body) s = .next s.begin
          ∧ exec (.coverage length body) s = .next s.begin
          ∧ exec (.reportDone length body) s = .next s.begin
          ∧ exec (.reportRefused length body) s = .next s.begin
          ∧ exec (.feedMessageOtherKind other length body) s = .next s.begin)
      ∧ ∀ cfg, s.al.config = some cfg →
        exec (.feedMessageOtherKind other length body) s = .next s.begin.activity.setMalformed
          ∧ (length.toNat ≠ body.length →
              exec (.page kind length body) s = .next s.begin.activity.setMalformed)
          ∧ (length.toNat ≠ body.length ∨ (body ≠ [0] ∧ (∀ a b c, body ≠ [1, a, b, c]))
                ∨ (∃ a b c, body = [1, a, b, c] ∧ zoneOk (a ++ b ++ c) = false) →
              exec (.coverage length body) s = .next s.begin.activity.setMalformed)
          ∧ (length.toNat ≠ body.length ∨ body.length ≠ 4 →
              exec (.reportDone length body) s = .next s.begin.activity.setMalformed
                ∧ exec (.reportRefused length body) s = .next s.begin.activity.setMalformed)
          ∧ (length.toNat = body.length →
              exec (.page kind length body) s = .next
                (if s.fp.pageFifo.length < 8 then
                  { s.begin.activity with
                    fp := { s.fp with pageFifo := s.fp.pageFifo ++ [⟨kind, body⟩] } }
                else s.begin.activity.setRxOverrun))

/-- A COVERAGE message (R169, R71): ABSENT changes the coverage state with a notice; PRESENT sets it, clears the
block and hands on the serving zone, which replaces the record unless an APPLICATION position that is not stale
is at least as fine, and re-evaluates every HELD entry by the rows of R75's table (R72, R78). Stated for a part
with no report waiting; a waiting report goes at the end of the event (R172), built from its entry's tally. -/
def Obligations.CoverageMessageCompletes : Prop :=
  ∀ (s : State) (cfg : Settings), s.settled = true → s.al.config = some cfg →
    (s.fp.coverage = false → exec (.coverage 1 [0]) s = .next s.begin.activity)
      ∧ (s.fp.coverage = true →
          exec (.coverage 1 [0]) s = .next
            ({ s.begin.activity with fp := { s.fp with coverage := false } }.queueNotice .coverageChanged))
      ∧ (∀ a b c : Byte, zoneOk (a ++ b ++ c) = true →
          let z : ZoneCode := a ++ b ++ c
          let m : State := { s.begin.activity with fp := { s.fp with coverage := true, blocked := false } }
          let m := if s.fp.coverage then m else m.queueNotice .coverageChanged
          (s.tu.reportQueue = [] →
            (∀ p, s.atc.position = some p → p.source = .application →
              s.now < p.written + 60000000 * cfg.zoneHold) →
            match s.atc.position with
            | some ⟨held, .application, _⟩ =>
              if (zoneLevel held).rank < (zoneLevel z).rank then
                ∃ t, exec (.coverage 4 [1, a, b, c]) s = .next t
                  ∧ m.PositionChange t (some ⟨z, .feed, s.now⟩) ∧ t.al.response = s.al.response
                  ∧ t.pwc = s.activity.pwc
              else exec (.coverage 4 [1, a, b, c]) s = .next m
            | _ =>
              ∃ t, exec (.coverage 4 [1, a, b, c]) s = .next t
                ∧ m.PositionChange t (some ⟨z, .feed, s.now⟩) ∧ t.al.response = s.al.response
                ∧ t.pwc = s.activity.pwc)
          ∧ ∀ i e rest, s.tu.reportQueue = i :: rest → s.entryAt i = some e →
            s.fp.modemReady = true → s.tu.outstanding = none →
            ∃ t, exec (.coverage 4 [1, a, b, c]) s = .next t
              ∧ t.tu.reportQueue = rest
              ∧ t.tu.outstanding =
                  some ⟨e.id, ⟨i, s.genAt i⟩, tallyCount e.tally, s.now + 10000000⟩
              ∧ t.out.feed = some (reportBytes (tallyCount e.tally) ⟨e.id, e.tally⟩)
              ∧ t.fp = { s.fp with coverage := true, blocked := false })

/-- Answers to the outstanding report (R173, R174, R175): REPORT_DONE credits the count it carried, and an entry
that is due again by either condition of R171 joins the queue at the tail unless it stands there; the head of
the queue is then sent where the uplink is open (R172). REPORT_REFUSED and the answer timer return the entry to
the head of the queue and block the uplink; an answer for another identity, or with nothing outstanding, is
ignored; an entry that is gone gets nothing. Where its timer does not run ANSWER_TIMER_EXPIRY has no effect,
and the clock is brought forward to the timer's expiry (the model's choices, log entry 4). -/
def Obligations.ReportAnswersComplete : Prop :=
  ∀ (s : State) (cfg : Settings) (a b c d : Byte), s.settled = true → s.al.config = some cfg →
    ((∀ o, s.tu.outstanding = some o → o.id ≠ ⟨a ++ b, c ++ d⟩) →
        exec (.reportDone 4 [a, b, c, d]) s = .next s.begin.activity
          ∧ exec (.reportRefused 4 [a, b, c, d]) s = .next s.begin.activity)
      ∧ (s.tu.outstanding = none → exec .answerTimerExpiry s = .next s.begin)
      ∧ ∀ o, s.tu.outstanding = some o →
        (o.id = ⟨a ++ b, c ++ d⟩ →
          (s.entryAt o.handle.slot = none ∨ s.genAt o.handle.slot ≠ o.handle.gen →
            s.begin.activity.EndsWithReports s.tu.reportQueue (exec (.reportDone 4 [a, b, c, d]) s))
          ∧ (∀ e, s.entryAt o.handle.slot = some e → s.genAt o.handle.slot = o.handle.gen →
              State.EndsWithReports
                (s.begin.activity.modifyEntry o.handle.slot fun e => { e with lastReported := o.count })
                (if (cfg.reportStep + o.count ≤ tallyCount e.tally
                      ∨ (e.state.name = .cancelled ∨ e.state.name = .expired)
                        ∧ o.count < tallyCount e.tally)
                    ∧ o.handle.slot ∉ s.tu.reportQueue then
                  s.tu.reportQueue ++ [o.handle.slot]
                else s.tu.reportQueue)
                (exec (.reportDone 4 [a, b, c, d]) s))
          ∧ exec (.reportRefused 4 [a, b, c, d]) s = .next
              { s.begin.activity with
                fp := { s.fp with blocked := true }
                tu := ⟨if s.handleOk o.handle then
                    o.handle.slot :: s.tu.reportQueue.filter (· ≠ o.handle.slot)
                  else s.tu.reportQueue, none⟩ })
        ∧ (s.pwc.power = .doze ∨ s.pwc.hold ≠ .runOut → s.freshUntil (max s.now o.expiry) →
            exec .answerTimerExpiry s = .next
              { s.begin with
                now := max s.now o.expiry
                fp := { s.fp with blocked := true }
                tu := ⟨if s.handleOk o.handle then
                    o.handle.slot :: s.tu.reportQueue.filter (· ≠ o.handle.slot)
                  else s.tu.reportQueue, none⟩ })

/-- The modem's ready line (R165, R176): a rise is recorded and is activity; a drop empties the page FIFO,
refuses an outstanding report and makes coverage ABSENT, with a notice where it was PRESENT, or
NOTICE-OVERFLOW where the notice is lost (R190). Before CONFIGURE both are recorded only. A drop or rise of a
line that shows that level already is acted on all the same (the model's choice, log entry 21). -/
def Obligations.ModemReadyLineCompletes : Prop :=
  ∀ s : State, s.settled = true →
    (s.al.config = none →
        exec .modemReadyDrop s = .next { s.begin with fp := { s.fp with modemReady := false } }
          ∧ (s.tu.reportQueue = [] →
            exec .modemReadyRise s = .next { s.begin with fp := { s.fp with modemReady := true } }))
      ∧ ∀ cfg, s.al.config = some cfg →
        (s.tu.reportQueue = [] ∨ s.fp.coverage = false ∨ s.fp.blocked = true
              ∨ s.tu.outstanding.isSome = true →
            exec .modemReadyRise s = .next
              { s.begin.activity with fp := { s.fp with modemReady := true } })
          ∧ ∃ t, exec .modemReadyDrop s = .next t
            ∧ t.fp = ⟨[], false, false, s.fp.blocked || s.tu.outstanding.isSome⟩
            ∧ t.tu.outstanding = none
            ∧ t.tu.reportQueue =
              (match s.tu.outstanding with
                | some o =>
                  if s.handleOk o.handle then
                    o.handle.slot :: s.tu.reportQueue.filter (· ≠ o.handle.slot)
                  else s.tu.reportQueue
                | none => s.tu.reportQueue)
            ∧ t.al = (if s.fp.coverage then s.al.queued .coverageChanged else s.al)
            ∧ t.atc = s.atc ∧ t.sa = s.sa ∧ t.slc = s.slc ∧ t.pwc = s.activity.pwc

/-- PAGE_FIFO_PROCESS (R168): nothing at an empty FIFO; a malformed segment sets MALFORMED (R3). A header of a
new identity creates its entry, an ALERT's COLLECTING (R25) and a CANCEL's a tombstone with its relay started
(R26, R127), in the lowest empty slot (R17, R18, R19); in a full table it takes the victim's slot, chosen by the
groups and keys of R30 with R20's moments, whose jobs, bound slots and report element go (R31); where there is
no victim it is dropped with TABLE-FULL and its notice (R32). A stale or ignored header and a cell duplicate
change nothing (R23, R24); a text segment that no entry takes opens an unbound slot (R51, R53). CANCELLED
entries are ordered by the instant their lifetime ends (log entry 1). Stated in both power states, AWAKE and
DOZE with its warm-up running (R168), while the position is not stale (see Obligations.PositionEventsComplete). -/
def Obligations.PageFifoProcessCompletes : Prop :=
  ∀ (s : State) (cfg : Settings), s.settled = true → s.al.config = some cfg →
    (s.fp.pageFifo = [] → exec .pageFifoProcess s = .next s.begin)
      ∧ ∀ p rest, s.fp.pageFifo = p :: rest → s.keepsPower → s.freshAt s.now →
        let x : State := { s.begin with fp := { s.fp with pageFifo := rest } }
        ((p.kind = .header ∧ readHeader p.segment = none ∨ p.kind = .text ∧ readText p.segment = none) →
            exec .pageFifoProcess s = .next x.setMalformed)
        ∧ (∀ h, p.kind = .header → readHeader p.segment = some h → s.tableOk → s.slotOf h.id = none →
            s.NewIdentity x (exec .pageFifoProcess s) cfg h .cell none)
        ∧ (∀ h i e, p.kind = .header → readHeader p.segment = some h → s.slotOf h.id = some i →
            s.entryAt i = some e →
            (h.update < e.update ∨ h.update = e.update ∧ h.action = e.action
              ∨ h.update = e.update ∧ (e.state.name = .expired ∨ h.action = .alert)) →
            exec .pageFifoProcess s = .next x)
        ∧ ∀ seg n, p.kind = .text → readText p.segment = some seg → s.slotOf seg.id = none →
          s.slotsOk → s.usedBlocks < 128 →
          (∀ k sl, s.slotAt k = some sl → sl.key ≠ ⟨seg.id, seg.update, seg.text⟩) →
          n < 8 → s.slotAt n = none → (∀ k < n, s.slotAt k ≠ none) →
          exec .pageFifoProcess s = .next
            { x with sa := { s.sa with
              slots := s.sa.slots.set n (some (s.openedSlot seg false 0)) } }

/-- A page's text segment (R51). Of the entry's own update: a stale or late one changes nothing; one the entry's
text list contradicts sets MALFORMED; one for an ABSENT text opens a bound slot, and makes a text of one segment
COMPLETE at once (R53, R55). For the open bound slot of a COLLECTING text (R52, R54, R55): another segment count
sets MALFORMED; an index already stored changes nothing; otherwise its block is stored, and the last one missing
closes the slot and makes the text COMPLETE, its chain in index order; where that completes the entry it leaves
COLLECTING in the same event (R34, R37). One of no entry, or of a higher update, joins the unbound slot of its
key in the same way, and a full one stays open (R52, R56). An ALERT for a new identity binds the unbound slots
of its update to its entry, completes the full ones, discards with MALFORMED those its text list contradicts,
discards slots of lower updates and leaves higher ones unbound (R27, R57); where full slots hold every text, the
entry leaves COLLECTING in the event that created it (R25, R34, R37). Stated in both power states, AWAKE and DOZE
with its warm-up running (R168), while the position is not stale (see Obligations.PositionEventsComplete). -/
def Obligations.TextSegmentJoinsItsSlot : Prop :=
  ∀ (s : State) (cfg : Settings) (p : Page) (rest : List Page),
    s.settled = true → s.al.config = some cfg → s.keepsPower → s.fp.pageFifo = p :: rest → s.freshAt s.now →
    let x : State := { s.begin with fp := { s.fp with pageFifo := rest } }
    (∀ (seg : TextSegment) (i : Nat) (e : Entry), p.kind = .text → readText p.segment = some seg →
        s.slotOf seg.id = some i → s.entryAt i = some e →
        (seg.update < e.update ∨ seg.update = e.update ∧ e.state.name ≠ .collecting →
            exec .pageFifoProcess s = .next x)
          ∧ (e.state.name = .collecting → seg.update = e.update → e.texts[seg.text]? = none →
            exec .pageFifoProcess s = .next x.setMalformed)
          ∧ ∀ text, e.state.name = .collecting → seg.update = e.update →
            e.texts[seg.text]? = some text →
            (∀ chain, text.state = .complete chain → exec .pageFifoProcess s = .next x)
              ∧ (text.state = .absent → seg.count ≠ text.count →
                exec .pageFifoProcess s = .next x.setMalformed)
              ∧ ∀ n < 8, text.state = .absent → seg.count = text.count → 2 ≤ seg.count → s.slotsOk →
                s.usedBlocks < 128 → s.slotAt n = none → (∀ k < n, s.slotAt k ≠ none) →
                exec .pageFifoProcess s = .next (State.modifyEntry
                  { x with sa := { s.sa with
                    slots := s.sa.slots.set n (some (s.openedSlot seg true e.precedence)) } } i fun e =>
                  { e with texts := e.texts.set seg.text { text with state := .collecting } })
              ∧ (text.state = .absent → seg.count = text.count → seg.count = 1 → s.slotsOk →
                s.usedBlocks < 128 → (∃ n < 8, s.slotAt n = none) →
                (∀ k sl, s.slotAt k = some sl → sl.key ≠ ⟨seg.id, seg.update, seg.text⟩) →
                let texts := e.texts.set seg.text { text with state := .complete [⟨seg.payload⟩] }
                (∀ k other, k ≠ seg.text → e.texts[k]? = some other →
                    (∀ chain, other.state ≠ .complete chain) →
                    exec .pageFifoProcess s = .next (x.modifyEntry i fun e => { e with texts := texts }))
                  ∧ ((∀ k other, k ≠ seg.text → e.texts[k]? = some other →
                      ∃ chain, other.state = .complete chain) →
                    ∃ t e', exec .pageFifoProcess s = .next t ∧ t.now = s.now ∧ t.entryAt i = some e'
                      ∧ s.LeavesCollecting t i { e with texts := texts } e' ∧ t.sa = s.sa
                      ∧ (∀ k, k ≠ i → t.entryAt k = s.entryAt k) ∧ ∀ k, t.genAt k = s.genAt k)))
      ∧ (∀ (seg : TextSegment) (n : Nat) (sl : Slot), p.kind = .text → readText p.segment = some seg →
        (s.slotOf seg.id = none
          ∨ ∃ i e, s.slotOf seg.id = some i ∧ s.entryAt i = some e ∧ e.update < seg.update) →
        s.findSlot ⟨seg.id, seg.update, seg.text⟩ = some n → s.slotAt n = some sl → sl.bound = false →
        (seg.count ≠ sl.count → exec .pageFifoProcess s = .next x.setMalformed)
          ∧ (∀ b, seg.count = sl.count → sl.received[seg.index]? = some (some b) →
              exec .pageFifoProcess s = .next x)
          ∧ (seg.count = sl.count → sl.received[seg.index]? = some none → s.usedBlocks < 128 →
              exec .pageFifoProcess s = .next
                { x with sa := { s.sa with
                  slots := s.sa.slots.set n
                    (some { sl with received := sl.received.set seg.index (some ⟨seg.payload⟩) }) } }))
      ∧ (∀ (seg : TextSegment) (i n : Nat) (e : Entry) (text : TextRecord) (sl : Slot), p.kind = .text →
        readText p.segment = some seg → s.slotOf seg.id = some i → s.entryAt i = some e →
        e.state.name = .collecting → e.update = seg.update → e.texts[seg.text]? = some text →
        text.state = .collecting → s.findSlot ⟨seg.id, seg.update, seg.text⟩ = some n →
        s.slotAt n = some sl → sl.bound = true →
        let received := sl.received.set seg.index (some ⟨seg.payload⟩)
        let texts := e.texts.set seg.text { text with state := .complete (received.filterMap id) }
        (seg.count ≠ sl.count → exec .pageFifoProcess s = .next x.setMalformed)
          ∧ (∀ b, seg.count = sl.count → sl.received[seg.index]? = some (some b) →
              exec .pageFifoProcess s = .next x)
          ∧ (∀ k, seg.count = sl.count → sl.received[seg.index]? = some none → s.usedBlocks < 128 →
              k ≠ seg.index → sl.received[k]? = some none →
              exec .pageFifoProcess s = .next
                { x with sa := { s.sa with
                  slots := s.sa.slots.set n (some { sl with received := received }) } })
          ∧ (seg.count = sl.count → sl.received[seg.index]? = some none → s.usedBlocks < 128 →
              (∀ j, j ≠ seg.index → sl.received[j]? ≠ some none) →
              (∀ k other, k ≠ seg.text → e.texts[k]? = some other →
                  (∀ chain, other.state ≠ .complete chain) →
                  exec .pageFifoProcess s = .next
                    (State.modifyEntry { x with sa := { s.sa with slots := s.sa.slots.set n none } } i
                      fun e => { e with texts := texts }))
                ∧ ((∀ k other, k ≠ seg.text → e.texts[k]? = some other →
                    ∃ chain, other.state = .complete chain) →
                  ∃ t e', exec .pageFifoProcess s = .next t ∧ t.now = s.now ∧ t.entryAt i = some e'
                    ∧ s.LeavesCollecting t i { e with texts := texts } e'
                    ∧ t.sa = { s.sa with slots := s.sa.slots.set n none }
                    ∧ (∀ k, k ≠ i → t.entryAt k = s.entryAt k) ∧ (∀ k, t.genAt k = s.genAt k)
                    ∧ t.slc = s.slc ∧ t.fp = x.fp ∧ t.atc.position = s.atc.position
                    ∧ t.atc.optIn = s.atc.optIn ∧ t.atc.map = s.atc.map)))
      ∧ ∀ (h : HeaderSegment) (i : Nat), p.kind = .header → readHeader p.segment = some h →
        h.action = .alert → s.tableOk → s.slotsOk → s.slotOf h.id = none →
        (∀ n sl, s.slotAt n = some sl → sl.key.id = h.id → sl.key.update = h.update → sl.bound = false) →
        i < 32 → s.entryAt i = none → (∀ k < i, s.entryAt k ≠ none) →
        let made : Entry := s.firstEntry cfg h .cell none (.collecting (s.now + 300000000))
        let new (t : State) : Prop :=
          exec .pageFifoProcess s = .next t ∧ t.genAt i = s.genAt i + 1
            ∧ (∀ k, k ≠ i → t.entryAt k = s.entryAt k ∧ t.genAt k = s.genAt k)
            ∧ t.slc = s.slc ∧ t.fp = x.fp
        (s.lacksText h →
            ∃ t, new t ∧ s.SlotsBound t i h made s.al ∧ t.tu = s.tu ∧ t.pwc = s.pwc)
          ∧ (s.hasEveryText h → ∃ t, new t
            ∧ s.TextsComplete (s.modifySlot i fun slot => { slot with gen := slot.gen + 1 }) t i h made)

/-- RX_FIFO_PROCESS (R105): nothing at an empty FIFO, in OFF or in DOZE-SAMPLING; a malformed frame sets
MALFORMED and one of the own tag is dropped (R9). A text frame does what a page with its segment does (R51). A
header of a new identity creates its entry as a page does, with origin PEER and its RSSI (R25, R26, R30 to R32);
that CANCELLED entries are ordered as victims by the exact instant their lifetime ends is the model's reading
(log entry 1). A stale or ignored header changes nothing: it is no duplicate and is not counted against the
relay (R23, R24, R130). A tally without an entry is dropped; with one it is merged and reported dirty or
covered, a covered report cuts a queued or staged tally job (R101, R141), and the entry is tested for a report
(R151, R156, R171), which goes where the uplink is open (R172). A peer duplicate is counted, may raise the hop
budget, and suppresses the relay at the threshold, which cuts its queued or staged job (R101, R126, R130, R131);
that the copy that reaches the threshold raises the hop budget first is the model's choice (log entry 28). A cut
leaves R90 to take the next head, before R172; of a complete gap and a hold limit reached at one instant, the
gap then counts first (the model's choice, log entry 29). Stated while the position is not stale (see
Obligations.PositionEventsComplete). -/
def Obligations.RxFifoProcessCompletes : Prop :=
  ∀ (s : State) (cfg : Settings), s.settled = true → s.al.config = some cfg →
    (s.slc.rxFifo = [] ∨ s.slc.medium = .off ∨ s.slc.medium = .dozeSampling →
        exec .rxFifoProcess s = .next s.begin)
      ∧ ∀ r rest, s.slc.rxFifo = r :: rest → s.slc.medium ≠ .off → s.slc.medium ≠ .dozeSampling →
        s.keepsPower → s.freshAt s.now →
        let x : State := { s.begin with slc := { s.slc with rxFifo := rest } }
        (readFrame r.frame = none → exec .rxFifoProcess s = .next x.setMalformed)
        ∧ ((readFrame r.frame).isSome = true → r.frame.sender = cfg.tag →
            exec .rxFifoProcess s = .next x)
        ∧ (∀ seg p, readFrame r.frame = some (.text seg) → r.frame.sender ≠ cfg.tag → p.kind = .text →
            readText p.segment = some seg →
            exec .rxFifoProcess s =
              exec .pageFifoProcess { x with fp := { s.fp with pageFifo := p :: s.fp.pageFifo } })
        ∧ (∀ h, readFrame r.frame = some (.header h) → r.frame.sender ≠ cfg.tag → s.tableOk →
            s.slotOf h.id = none →
            s.NewIdentity x (exec .rxFifoProcess s) cfg h .peer (some r.rssi))
        ∧ (∀ seg, readFrame r.frame = some (.tally seg) → s.slotOf seg.id = none →
            exec .rxFifoProcess s = .next x)
        ∧ (∀ seg i e, readFrame r.frame = some (.tally seg) → r.frame.sender ≠ cfg.tag →
            s.slotOf seg.id = some i → s.entryAt i = some e →
            let tally := mergeTally e.tally seg.tally
            let covered := coveredBy tally seg.tally
            let e' : Entry := { e with
              tally := tally
              tallySend :=
                if covered = true then
                  { e.tallySend with
                    state := if e.tallySend.state = .sending then .sending else .idle, resend := false }
                else s.dirtied s.now e }
            let slc : Slc :=
              if covered = true ∧ (e.tallySend.state = .queued ∨ e.tallySend.state = .staged) then
                x.slc.cut s.now e.id .tally
              else x.slc
            State.EndsWithHeadAndReport
              (State.modifyEntry
                { x with slc := slc, tu := { s.tu with reportQueue := s.reportJoins i e' } } i fun _ => e')
              (exec .rxFifoProcess s))
        ∧ (∀ h i e, readFrame r.frame = some (.header h) → s.slotOf h.id = some i → s.entryAt i = some e →
            h.update < e.update
              ∨ h.update = e.update
                ∧ (e.state.name = .expired ∨ h.action = .alert ∧ e.action = .cancel) →
            exec .rxFifoProcess s = .next x)
        ∧ ∀ h i e, readFrame r.frame = some (.header h) → r.frame.sender ≠ cfg.tag →
          s.slotOf h.id = some i → s.entryAt i = some e → e.state.name ≠ .expired →
          h.update = e.update → h.action = e.action →
          let suppressed : Prop :=
            cfg.threshold ≤ min 15 (e.relay.duplicates + 1)
              ∧ (e.relay.state.name = .waiting ∨ e.relay.state.name = .queued
                ∨ e.relay.state.name = .staged)
          State.EndsWithHead
            (State.modifyEntry
              { x with slc := if suppressed then x.slc.cut s.now e.id .relay else x.slc } i fun e =>
              { e with relay := { e.relay with
                duplicates := min 15 (e.relay.duplicates + 1)
                hop :=
                  if e.state.name = .collecting ∨ e.relay.state.name = .waiting
                      ∨ e.relay.state.name = .queued then
                    max e.relay.hop (min h.hop cfg.hopLimit)
                  else e.relay.hop
                state := if suppressed then .suppressed else e.relay.state } })
            (exec .rxFifoProcess s)

/-- A header that supersedes or cancels its entry, out of either FIFO (origin CELL without RSSI, or PEER with
its RSSI): an ALERT of a higher update (R28), a CANCEL of a higher update, or one of the equal update where the
entry is an ALERT's and neither CANCELLED nor EXPIRED (R23, R29). The relay jobs are ended (R28, R29, R135): a
queued one leaves the queue, one on the air gets the end mark, a staged one goes with its stage (R100), and R90
takes the next head (where gap and hold limit fall together the gap counts first, the model's choice, log entry
29). The entry's fields become the header's, accepted at this moment (R20), its marks are cleared and its relay
record is reset (R123); tally, report record and handle are kept, a tally wait that runs is started anew by a
supersede (R28, R142), and an update that was presented gets its notice (R190). An ALERT discards the slots of
lower updates and binds those of its own; where they hold every text, the entry leaves COLLECTING in the same
event (R27, R28, R34, R57), stated while no head is taken. A CANCEL discards the slots up to its update, starts
its relay by the rows of R127's table and is tested for a report, which goes where the uplink is open (R29,
R171, R172). Where the awake hold has run out, what Power Control and the medium become as the event ends (R113)
is not stated here. Stated while the position is not stale (see Obligations.PositionEventsComplete). -/
def Obligations.SupersedeAndCancelKeepTheTally : Prop :=
  ∀ (s : State) (cfg : Settings) (h : HeaderSegment) (i : Nat) (e : Entry),
    s.settled = true → s.al.config = some cfg → s.freshAt s.now → s.slotOf h.id = some i →
    s.entryAt i = some e →
    (∀ p rest, s.fp.pageFifo = p :: rest → p.kind = .header → readHeader p.segment = some h →
        s.ChangesEntry { s.begin with fp := { s.fp with pageFifo := rest } } (exec .pageFifoProcess s) cfg h i e
          .cell none)
      ∧ ∀ r rest, s.slc.rxFifo = r :: rest → s.slc.medium ≠ .off → s.slc.medium ≠ .dozeSampling →
        readFrame r.frame = some (.header h) → r.frame.sender ≠ cfg.tag →
        s.ChangesEntry { s.begin with slc := { s.slc with rxFifo := rest } } (exec .rxFifoProcess s) cfg h i e
          .peer (some r.rssi)

/-! ### The sidelink -/

/-- A frame that completes reception joins the receive FIFO with its clamped level, or is dropped with
RX-OVERRUN at a full one, or discarded with DAMAGED (R104); outside RECEIVE none is received (R84). A sync
takes IDLE and DEFER to RECEIVE and is ignored elsewhere (R103); that it does so in IDLE also in a busy period that
has lasted the hold limit, the jam left to HOLD_LIMIT_REACHED, is the model's choice (log entry 31). -/
def Obligations.FrameAndSyncComplete : Prop :=
  ∀ (s : State) (f : Frame) (rssi : Int), s.settled = true →
    (s.slc.medium ≠ .receive → exec (.frameReceived f rssi) s = .next s.begin)
      ∧ (s.slc.medium = .receive → s.pwc.power = .awake →
          exec (.frameReceived f rssi) s = .next
            (if frameCheckOk f = false then s.begin.setDamaged
            else if 4 ≤ s.slc.rxFifo.length then s.begin.setRxOverrun
            else
              { s.begin with slc := { s.slc with
                rxFifo := s.slc.rxFifo ++ [⟨f, max (-130) (min rssi (-20))⟩] } }))
      ∧ (s.slc.medium = .idle ∨ s.slc.medium = .defer →
          exec .syncDetected s = .next
            { s.begin with slc := { s.slc with medium := .receive, quietSince := none } })
      ∧ (s.slc.medium ≠ .idle → s.slc.medium ≠ .defer → exec .syncDetected s = .next s.begin)

/-- Carrier begins (R85): it is activity, begins or continues the busy period and restarts the quiet gap; in a
listening slot of CONTEND it is a loss (R95). While the station sends it is not reported; in OFF nothing is
measured; in DOZE only an open window counts marks and spaces (R115, R116). Carrier ends (R85): it is activity,
sets the last-activity time and starts the quiet gap, in a listening slot of CONTEND too; it ends a reception,
which inside a frame sets DAMAGED, in IDLE with no burst staged and in DEFER with one (R103), which a busy
period that has lasted the hold limit takes to JAMMED with its notice (R106). That nothing is reported while the
station sends is the model's reading (log entry 17), and so is that the mark which ends a space out of bounds
begins the next pair, the count at 0 (log entry 18, of R116); that a pattern seen but not yet taken is lost with
the count is its choice (log entry 18); that a row which repeats a begin or an end is acted on again is its
choice (log entry 26), and so is that carrier which begins as 2 ms of quiet are reached, before
QUIET_GAP_COMPLETE, begins a new busy period (log entry 30). -/
def Obligations.CarrierEventsComplete : Prop :=
  (∀ s : State, s.settled = true →
      (s.slc.medium.sending = true → exec .carrierBegin s = .next s.begin)
        ∧ (s.slc.medium = .off →
            exec .carrierBegin s = .next { s.begin with slc := { s.slc with carrier := some s.now } })
        ∧ (s.slc.medium = .dozeSampling →
            exec .carrierBegin s = .next { s.begin with
              slc := { s.slc with carrier := some s.now }
              pwc := { s.pwc with window := s.pwc.window.map fun w =>
                { w with
                  pairs :=
                    match w.phase with
                    | .space since => if since + 400 ≤ s.now ∧ s.now ≤ since + 600 then w.pairs + 1 else 0
                    | _ => w.pairs
                  phase := .mark s.now } } })
        ∧ ∀ cfg, s.al.config = some cfg → s.pwc.power = .awake →
          let busy := some (s.busySince.getD s.now)
          let pwc := { s.pwc with hold := .running (s.now + 1000000 * cfg.awakeHold) }
          (s.slc.medium = .idle ∨ s.slc.medium = .defer ∨ s.slc.medium = .receive
                ∨ s.slc.medium = .jammed →
              exec .carrierBegin s = .next { s.begin with
                slc := { s.slc with carrier := some s.now, quietSince := none, busyStart := busy }
                pwc := pwc })
            ∧ ∀ key slot slotEnd, s.slc.medium = .contend key slot slotEnd →
              key.getLsbD (16 - slot) = false → s.busySince = none → 0 < cfg.holdLimit →
              exec .carrierBegin s = .next { s.begin with
                slc := { s.slc with
                  carrier := some s.now, quietSince := none, busyStart := some s.now
                  losses := s.slc.losses + 1, medium := .defer }
                pwc := pwc })
    ∧ (∀ (s : State) (unfinished : Nat), s.settled = true →
      (s.slc.medium.sending = true → exec (.carrierEnd unfinished) s = .next s.begin)
        ∧ (s.slc.medium = .off →
            exec (.carrierEnd unfinished) s = .next { s.begin with slc := { s.slc with carrier := none } })
        ∧ (s.slc.medium = .dozeSampling →
            exec (.carrierEnd unfinished) s = .next { s.begin with
              slc := { s.slc with carrier := none }
              pwc := { s.pwc with window := s.pwc.window.map fun w =>
                match w.phase with
                | .mark since =>
                  if since + 400 ≤ s.now ∧ s.now ≤ since + 600 then { w with phase := .space s.now }
                  else { w with pairs := 0, phase := .waiting }
                | _ => w } })
        ∧ ∀ cfg, s.al.config = some cfg → s.pwc.power = .awake →
          let slc := { s.slc with carrier := none, quietSince := some s.now, lastActivity := some s.now }
          let pwc := { s.pwc with hold := .running (s.now + 1000000 * cfg.awakeHold) }
          (s.slc.medium = .idle ∨ s.slc.medium = .defer ∨ s.slc.medium = .jammed
                ∨ s.slc.medium.name = .contend ∧ s.slc.medium.sending = false →
              exec (.carrierEnd unfinished) s = .next { s.begin with slc := slc, pwc := pwc })
            ∧ (∀ b, s.slc.medium = .receive → s.slc.stage ≠ [] → s.slc.busyStart = some b →
                b + 1000 * cfg.holdLimit ≤ s.now →
                exec (.carrierEnd unfinished) s = .next
                  (let x : State := { s.begin with slc := { slc with medium := .jammed }, pwc := pwc }
                  State.queueNotice (if unfinished = 0 then x else x.setDamaged) .mediumJammed))
            ∧ (s.slc.medium = .receive →
                (s.slc.stage ≠ [] → ∀ b, s.slc.busyStart = some b → s.now < b + 1000 * cfg.holdLimit) →
                exec (.carrierEnd unfinished) s = .next
                  (let x : State := { s.begin with
                      slc := { slc with medium := if s.slc.stage = [] then .idle else .defer }
                      pwc := pwc }
                  if unfinished = 0 then x else x.setDamaged)))

/-- The quiet gap completes 2 ms after quiet began (R85): a busy period ends; in DEFER the first contention
slot begins with the key formed anew (R92, R93, R94); in JAMMED the jam clears with its notice (R107). Where
no gap is measured the event has no effect (the model's choice, log entry 4). A busy period that has lasted
the hold limit in DEFER or RECEIVE takes the SLC to JAMMED with its notice; the stage and the FIFO stay
(R106). Elsewhere it is not judged. Once the clock stands at an instant at which both fall, the gap is counted
first (the model's choice, log entry 29). Where its timer does not run such an event has no effect, and the clock is
brought forward to the timer's expiry (the model's choices, log entry 4). -/
def Obligations.QuietGapAndHoldLimitComplete : Prop :=
  (∀ s : State, s.settled = true →
      (s.slc.quietSince = none → exec .quietGapComplete s = .next s.begin)
        ∧ ∀ q, s.slc.quietSince = some q → s.freshUntil (max s.now (q + 2000)) →
          let now := max s.now (q + 2000)
          (s.slc.medium = .idle ∨ s.slc.medium = .receive →
              exec .quietGapComplete s = .next
                { s.begin with now := now, slc := { s.slc with busyStart := none } })
            ∧ (s.slc.medium = .jammed → s.slc.stage = [] →
              exec .quietGapComplete s = .next
                (State.queueNotice
                  { s.begin with now := now, slc := { s.slc with busyStart := none, medium := .idle } }
                  .mediumClear))
            ∧ ∀ f frames c, s.slc.stage = f :: frames → s.slc.current = some c →
              let key := contentionKey s.settings.tag c.job.precedence (4 - f.kind.toNat) s.slc.losses
              let x : State := { s.begin with
                now := now
                slc := { s.slc with
                  busyStart := none, medium := .contend key 1 (now + 100)
                  quietSince := if key.getLsbD 15 then none else some q }
                out := ⟨none, none, if key.getLsbD 15 then [.markTone 1] else []⟩ }
              (s.slc.medium = .defer → exec .quietGapComplete s = .next x)
                ∧ (s.slc.medium = .jammed →
                  exec .quietGapComplete s = .next (x.queueNotice .mediumClear)))
    ∧ (∀ s : State, s.settled = true →
      (s.slc.medium ≠ .defer → s.slc.medium ≠ .receive → s.slc.medium.name ≠ .contend →
          exec .holdLimitReached s = .next s.begin)
        ∧ (s.busySince = none → exec .holdLimitReached s = .next s.begin)
        ∧ ∀ b, s.slc.medium = .defer ∨ s.slc.medium = .receive → s.busySince = some b →
          s.freshUntil (max s.now (b + 1000 * s.settings.holdLimit)) →
          exec .holdLimitReached s = .next
            (State.queueNotice
              { s.begin with
                now := max s.now (b + 1000 * s.settings.holdLimit)
                slc := { s.slc with medium := .jammed } }
              .mediumJammed))

/-- A contention slot ends: the next one begins with a mark tone where its key bit is 1; after the 16th the
station has won, sends its preamble, LONG after quiet of half the awake hold, and the first win is reported
(R94, R97, R132). A SHORT preamble is the 1 ms sync; a LONG one is mark–space pairs of 500 µs each for the
listen interval + 19 ms, and then the sync (R97). The preamble ends and the staged frames go on the air, 32 µs
for each byte (R98). Where its timer does not run such an event has no effect, and the clock is brought
forward to the timer's expiry (the model's choices, log entry 4). -/
def Obligations.ContentionAndPreambleComplete : Prop :=
  (∀ (s : State) (cfg : Settings), s.settled = true → s.al.config = some cfg →
      (s.slc.medium.name ≠ .contend → exec .contentionSlotEnd s = .next s.begin)
        ∧ ∀ key slot slotEnd, s.slc.medium = .contend key slot slotEnd → s.freshUntil (max s.now slotEnd) →
          let now := max s.now slotEnd
          (slot < 16 →
            exec .contentionSlotEnd s = .next { s.begin with
              now := now
              slc := { s.slc with
                medium := .contend key (slot + 1) (now + 100)
                quietSince :=
                  if key.getLsbD (15 - slot) then none else some (s.slc.quietSince.getD now) }
              out := ⟨none, none, if key.getLsbD (15 - slot) then [.markTone (slot + 1)] else []⟩ })
          ∧ ∀ c, slot = 16 → s.slc.carrier = none → s.slc.current = some c →
            let kind : Preamble :=
              match s.slc.lastActivity with
              | none => .long
              | some a => if a + 500000 * cfg.awakeHold ≤ now then .long else .short
            let ends := now + match kind with
              | .short => 1000
              | .long => 1000 * (cfg.listenInterval + 20)
            ∃ t, exec .contentionSlotEnd s = .next t ∧ t.now = now
              ∧ t.slc = { s.slc with
                  medium := .preamble kind ends, quietSince := none
                  current := some { c with won := true } }
              ∧ t.out = ⟨none, none, [.preamble kind
                  (match kind with
                  | .short => [.sync 1000]
                  | .long => [.pairs (cfg.listenInterval + 19) 500 500, .sync 1000])]⟩
              ∧ t.al = s.al ∧ t.sa = s.sa ∧ t.tu = s.tu ∧ t.fp = s.fp
              ∧ (∀ k, s.slotOf c.job.id ≠ some k → t.entryAt k = s.entryAt k)
              ∧ ∀ i e, s.slotOf c.job.id = some i → s.entryAt i = some e →
                ∃ e', t.entryAt i = some e'
                  ∧ (c.won = true → e' = e)
                  ∧ (c.won = false → c.job.kind = .relay →
                      e' = if c.job.update = some e.relay.update ∧ e.relay.state = .staged then
                          { e with relay := { e.relay with state := .sending } }
                        else e)
                  ∧ (c.won = false → c.job.kind = .tally →
                      e' = if e.tallySend.state = .staged then
                          { e with tallySend := { e.tallySend with state := .sending } }
                        else e))
    ∧ (∀ s : State, s.settled = true →
      (s.slc.medium.name ≠ .preamble → exec .preambleEnd s = .next s.begin)
        ∧ ∀ kind ends, s.slc.medium = .preamble kind ends → s.freshUntil (max s.now ends) →
          let now := max s.now ends
          exec .preambleEnd s = .next { s.begin with
            now := now
            slc := { s.slc with
              medium := .send (now + (s.slc.stage.map fun f => 32 * (8 + f.body.length)).sum) }
            out := ⟨none, none, [.burst s.slc.stage]⟩ })

/-- A burst completes (R99, R85): activity, and the stage empties. A job with its end mark set is reported
ended: its relay WITHHELD under LISTEN-ONLY, its tally record IDLE with the last-sent time as it was (R132,
R140); that the record's resend mark stays as it was (log entry 22), and that the report acts on a QUEUED or
STAGED record whatever job it serves (log entry 12), are the model's readings of R140. A job with frames left
stages its next burst, with no loss, in DEFER. One with none left is complete: its relay DONE, or its tally IDLE
with this instant as last-sent time, or WAITING anew where the resend mark was set (R132, R140). Where the job
is over R90 takes the head of the send queue and stages its first burst in DEFER, and the SLC is IDLE where the
queue is empty (R99, step 3). Where its timer does not run such an event has no effect, and the clock is brought
forward to the timer's expiry (the model's choices, log entry 4). A relay whose job ended stays SENDING where
participation is FULL again (the model's reading, log entry 23). -/
def Obligations.BurstCompletionCompletes : Prop :=
  ∀ (s : State) (cfg : Settings) (c : CurrentJob), s.settled = true → s.al.config = some cfg →
    (s.slc.medium.name ≠ .send → exec .burstCompletion s = .next s.begin)
      ∧ ∀ ends, s.slc.medium = .send ends → s.pwc.power = .awake → s.slc.current = some c →
        s.freshUntil (max s.now ends) →
        let now := max s.now ends
        let pwc := { s.pwc with hold := .running (now + 1000000 * cfg.awakeHold) }
        let slc := { s.slc with
          stage := [], losses := 0, lastActivity := some now, quietSince := some now }
        let jobOver (f : Entry → Entry) : State := State.modifyNamed
          { s.begin with now := now, pwc := pwc, slc := { slc with current := none, medium := .idle } } c.job f
        (c.endMark = true →
          State.EndsWithHead
            (jobOver fun e =>
              match c.job.kind with
              | .relay =>
                if s.al.participation = .listenOnly ∧ c.job.update = some e.relay.update
                    ∧ e.relay.state = .sending then
                  { e with relay := { e.relay with state := .withheld } }
                else e
              | .tally =>
                if e.tallySend.state = .queued ∨ e.tallySend.state = .staged
                    ∨ e.tallySend.state = .sending then
                  { e with tallySend := { e.tallySend with state := .idle } }
                else e)
            (exec .burstCompletion s))
        ∧ (c.endMark = false → c.unstaged = [] →
          State.EndsWithHead
            (jobOver fun e =>
              match c.job.kind with
              | .relay =>
                if c.job.update = some e.relay.update ∧ e.relay.state = .sending then
                  { e with relay := { e.relay with state := .done } }
                else e
              | .tally =>
                if e.tallySend.state = .sending then
                  { e with tallySend :=
                    ⟨if e.tallySend.resend = true ∧ s.al.participation = .full ∧ e.state.name ≠ .expired then
                      .waiting (tallyWaitExpiry cfg.tag e.id.serial (some now) now) else .idle, some now, false⟩ }
                else e)
            (exec .burstCompletion s))
        ∧ (c.endMark = false →
          (s.advance ends).buildBurst c.job.id (c.unstaged.take 6) ≠ [] →
          (∀ b, s.slc.busyStart = some b → now < b + 1000 * cfg.holdLimit) →
          exec .burstCompletion s = .next { s.begin with
            now := now
            pwc := pwc
            slc := { slc with
              medium := .defer
              stage := (s.advance ends).buildBurst c.job.id (c.unstaged.take 6)
              current := some { c with unstaged := c.unstaged.drop 6 } } })

/-! ### Timers of entries and slots -/

/-- COLLECT_LIMIT (R36, R37): the partial mark, COLLECTING texts ABSENT and bound slots discarded; then the
entry leaves COLLECTING: its area result computed anew, the row of R75's table for its class, area result and
opt-in mark taken (Present, R38; Hold, R76; Acknowledge, R77), and its relay started by the six rows of R127's
table. It has no effect on an entry that is not COLLECTING, and the clock is brought forward to the limit (the
model's choices, log entry 4). Stated where the position is not stale at the limit; the decision on a position
that is says Obligations.PositionEventsComplete. -/
def Obligations.CollectLimitCompletes : Prop :=
  ∀ (s : State) (i : Nat), s.settled = true →
    ((∀ e, s.entryAt i = some e → e.state.name ≠ .collecting) →
        exec (.collectLimit i) s = .next s.begin)
      ∧ ∀ e limit, s.entryAt i = some e → e.state = .collecting limit → s.freshAt (max s.now limit) →
        ∃ t e', exec (.collectLimit i) s = .next t ∧ t.now = max s.now limit
          ∧ t.entryAt i = some e' ∧ t.genAt i = s.genAt i
          ∧ s.LeavesCollecting t i
              { e with
                partialMark := true
                texts := e.texts.map fun x =>
                  if x.state = .collecting then { x with state := .absent } else x } e'
          ∧ (∀ n sl, t.slotAt n = some sl →
              s.slotAt n = some sl ∧ ¬ (sl.bound = true ∧ sl.key.id = e.id))
          ∧ (∀ n sl, s.slotAt n = some sl → ¬ (sl.bound = true ∧ sl.key.id = e.id) →
              t.slotAt n = some sl)
          ∧ (∀ k, k ≠ i → t.entryAt k = s.entryAt k ∧ t.genAt k = s.genAt k)
          ∧ t.atc.position = s.atc.position ∧ t.atc.optIn = s.atc.optIn ∧ t.atc.map = s.atc.map

/-- LIFETIME_EXPIRY (R44, R135, R142): a COLLECTING entry's bound slots are discarded and its COLLECTING texts
ABSENT; the waits are cancelled and the relay and tally jobs ended, a queued one removed, a staged one emptied,
one on the air marked to end (R100); the entry enters EXPIRED with its linger of 120 s; a presented entry that
was not CANCELLED gets its notice; and the entry is due for a report where its count is above the last reported
one (R171), which goes where the uplink is open (R172). LINGER_EXPIRY (R46): the entry leaves the table and the
report queue, its generation stays, and no notice is queued. Where its timer does not run such an event has no
effect, and the clock is brought forward to the timer's expiry (the model's choices, log entry 4). -/
def Obligations.LifetimeAndLingerComplete : Prop :=
  ∀ (s : State) (i : Nat), s.settled = true →
    ((∀ e, s.entryAt i = some e → e.state.name = .expired) → exec (.lifetimeExpiry i) s = .next s.begin)
      ∧ ((∀ e, s.entryAt i = some e → e.state.name ≠ .expired) →
          exec (.lingerExpiry i) s = .next s.begin)
      ∧ (∀ e, s.entryAt i = some e → e.state.name ≠ .expired → s.slotOf e.id = some i →
          s.freshUntil (max s.now e.lifetimeEnd) →
          let collecting := e.state.name = .collecting
          let e' : Entry := { e with
            state := .expired (max s.now e.lifetimeEnd + 120000000)
            texts :=
              if collecting then
                e.texts.map fun x => if x.state = .collecting then { x with state := .absent } else x
              else e.texts
            tallySend := { e.tallySend with state := .idle, resend := false }
            relay := { e.relay with
              state :=
                match e.relay.state with
                | .waiting _ | .queued | .staged | .sending => .none
                | x => x } }
          ∃ t, exec (.lifetimeExpiry i) s = .next t ∧ t.now = max s.now e.lifetimeEnd
            ∧ t.entryAt i = some e' ∧ (∀ k, t.genAt k = s.genAt k)
            ∧ t.sa.slots =
              (if collecting then
                s.sa.slots.map fun o => o.filter fun sl => !(sl.bound && sl.key.id == e.id)
              else s.sa.slots)
            ∧ (s.pwc.power = .awake → s.pwc.hold ≠ .runOut → s.JobsEnded t e.id)
            ∧ s.ReportTested t i e'
            ∧ (s.noHeadFollows e.id →
              (∀ k, k ≠ i → t.entryAt k = s.entryAt k)
                ∧ t.al =
                  (if e.presented = true ∧ e.state.name ≠ .cancelled then
                    s.al.queued (.expired ⟨i, s.genAt i⟩)
                  else s.al)))
      ∧ ∀ e l, s.entryAt i = some e → e.state = .expired l → s.freshUntil (max s.now l) →
        ∃ t, exec (.lingerExpiry i) s = .next t ∧ t.now = max s.now l
          ∧ t.entryAt i = none ∧ t.genAt i = s.genAt i
          ∧ (∀ k, k ≠ i → t.entryAt k = s.entryAt k ∧ t.genAt k = s.genAt k)
          ∧ t.tu = { s.tu with reportQueue := s.tu.reportQueue.filter (· ≠ i) }
          ∧ t.al = s.al ∧ t.sa = s.sa

/-- ASSEMBLY_LIMIT (R59, R35): the slot is discarded 60 s after its first segment; a bound slot's COLLECTING
text returns to ABSENT, and the entry stays as it was otherwise. No flag, no notice. Where its timer does not
run such an event has no effect, and the clock is brought forward to the timer's expiry (the model's choices,
log entry 4). A slot shortage (R60): a segment that needs a slot while all 8 are open takes the lowest slot of a
lower precedence, which is discarded, and is dropped without a flag where there is none; one for an unbound slot
is always dropped. A block shortage (R61 to R64): the last COMPLETE text of the ACKNOWLEDGED entry whose relay
is over, of lowest precedence and acknowledged earliest (of two at one instant the one in the lower slot, the
model's choice, log entry 27), is RELEASED; failing that the lowest slot of a lower precedence is discarded;
failing both the segment is dropped with POOL-EXHAUSTED, and a slot it needed is not created. Stated for a
segment that leaves its slot incomplete, in both power states, AWAKE and DOZE with its warm-up running (R168). -/
def Obligations.AssemblyLimitCompletes : Prop :=
  (∀ (s : State) (n : Nat), s.settled = true →
    (s.slotAt n = none → exec (.assemblyLimit n) s = .next s.begin)
      ∧ ∀ sl, s.slotAt n = some sl → s.freshUntil (max s.now (sl.firstSegment + 60000000)) →
        ∃ t, exec (.assemblyLimit n) s = .next t ∧ t.now = max s.now (sl.firstSegment + 60000000)
          ∧ t.slotAt n = none ∧ (∀ k, k ≠ n → t.slotAt k = s.slotAt k) ∧ t.al = s.al ∧ t.tu = s.tu
          ∧ (sl.bound = false → t.atc = s.atc)
          ∧ (∀ k, t.genAt k = s.genAt k)
          ∧ (∀ k, s.slotOf sl.key.id ≠ some k → t.entryAt k = s.entryAt k)
          ∧ ∀ i e x, sl.bound = true → s.slotOf sl.key.id = some i → s.entryAt i = some e →
            e.state.name = .collecting → e.texts[sl.key.text]? = some x → x.state = .collecting →
            t.entryAt i = some { e with texts := e.texts.set sl.key.text { x with state := .absent } })
    ∧ ∀ (s : State) (p : Page) (rest : List Page) (seg : TextSegment), s.settled = true → s.keepsPower →
      s.fp.pageFifo = p :: rest → p.kind = .text → readText p.segment = some seg → s.slotsOk →
      s.freshAt s.now →
      let x : State := { s.begin with fp := { s.fp with pageFifo := rest } }
      ((∀ n < 8, s.slotAt n ≠ none) →
          (s.findSlot ⟨seg.id, seg.update, seg.text⟩ = none →
            (s.slotOf seg.id = none
              ∨ ∃ i e, s.slotOf seg.id = some i ∧ s.entryAt i = some e ∧ e.update < seg.update) →
            exec .pageFifoProcess s = .next x)
          ∧ ∀ i e text, s.slotOf seg.id = some i → s.entryAt i = some e → e.state.name = .collecting →
            e.update = seg.update → e.texts[seg.text]? = some text → text.state = .absent →
            text.count = seg.count →
            ((∀ n sl, s.slotAt n = some sl → e.precedence ≤ sl.precedence) →
                exec .pageFifoProcess s = .next x)
              ∧ ∀ n low, s.LowestSlot n low → low.precedence < e.precedence → 2 ≤ seg.count →
                s.usedBlocks ≤ 128 → (∃ b, some b ∈ low.received) →
                exec .pageFifoProcess s = .next
                  ((State.slotLost
                    { x with sa := { s.sa with
                      slots := s.sa.slots.set n (some (s.openedSlot seg true e.precedence)) } }
                    low).modifyEntry i fun e =>
                  { e with texts := e.texts.set seg.text { text with state := .collecting } }))
      ∧ (∀ i n e text, s.slotOf seg.id = some i → s.entryAt i = some e → e.state.name = .collecting →
        e.update = seg.update → e.texts[seg.text]? = some text → text.state = .absent →
        text.count = seg.count → n < 8 → s.slotAt n = none → s.usedBlocks = 128 →
        (∀ j f k, s.entryAt j = some f → ¬ f.releasable k) →
        (∀ m low, s.slotAt m = some low → e.precedence ≤ low.precedence) →
        exec .pageFifoProcess s = .next x.setPoolExhausted)
      ∧ ∀ i n e text sl, s.slotOf seg.id = some i → s.entryAt i = some e → e.state.name = .collecting →
        e.update = seg.update → e.texts[seg.text]? = some text → text.state = .collecting →
        s.findSlot ⟨seg.id, seg.update, seg.text⟩ = some n → s.slotAt n = some sl →
        seg.count = sl.count → sl.received[seg.index]? = some none → s.usedBlocks = 128 →
        let stored : Slot := { sl with received := sl.received.set seg.index (some ⟨seg.payload⟩) }
        ((∀ j f k, s.entryAt j = some f → ¬ f.releasable k) →
            (∀ m low, s.slotAt m = some low → sl.precedence ≤ low.precedence) →
            exec .pageFifoProcess s = .next x.setPoolExhausted)
          ∧ ∀ k', k' ≠ seg.index → sl.received[k']? = some none →
            (∀ j f k, s.ReleasesText j f k →
                exec .pageFifoProcess s = .next
                  (State.modifyEntry
                    { x with sa := { s.sa with slots := s.sa.slots.set n (some stored) } } j fun f =>
                    { f with texts := f.texts.modify k fun y => { y with state := .released } }))
              ∧ ∀ m low, (∀ j f k, s.entryAt j = some f → ¬ f.releasable k) → s.LowestSlot m low →
                low.precedence < sl.precedence → (∃ b, some b ∈ low.received) →
                exec .pageFifoProcess s = .next (State.slotLost
                  { x with sa := { s.sa with
                    slots := (s.sa.slots.set m none).set n (some stored) } } low)

/-- RELAY_WAIT_EXPIRY and TALLY_WAIT_EXPIRY (R86, R129, R134, R140): a job is placed. A relay's frame list is the
header and, for an ALERT, the segments of each COMPLETE text in text order and index order; a tally's is its one
frame. Behind a current job the new job joins the queue in precedence order and the record is QUEUED (R87); at a
full queue the lowest job is displaced, or the new one dropped, with SEND-QUEUE-FULL (R88). Where no job is
current or queued it is taken at once and its first burst staged (R90, R91): in RECEIVE and JAMMED it waits
there, and from IDLE the SLC goes to DEFER, to CONTEND after a complete quiet gap (R92), or to JAMMED in a busy
period that has lasted the hold limit (R106); where both fall together the gap counts first (the model's choice,
log entry 29). A relay with less than 60 s of lifetime left is given up, DONE
(R133); the remaining lifetime is rounded down to whole seconds (the model's reading, log entry 1). Where its
timer does not run such an event has no effect, and the clock is brought forward to the timer's expiry (the
model's choices, log entry 4). -/
def Obligations.WaitExpiriesComplete : Prop :=
  ∀ (s : State) (i : Nat) (e : Entry), s.settled = true → s.entryAt i = some e →
    (e.relay.state.name ≠ .waiting → exec (.relayWaitExpiry i) s = .next s.begin)
      ∧ (e.tallySend.state.isWaiting = false → exec (.tallyWaitExpiry i) s = .next s.begin)
      ∧ (s.slotOf e.id = some i → (s.pwc.power = .awake ∨ s.pwc.warmUp.isSome = true) →
        (∀ w, e.relay.state = .waiting w → s.freshUntil (max s.now w) →
          let now := max s.now w
          let relay (st : RelayState) (e : Entry) : Entry := { e with relay := { e.relay with state := st } }
          let frames : List FrameRef :=
            match e.action with
            | .cancel => [.header]
            | .alert =>
              .header :: (List.range e.texts.length).flatMap fun k =>
                match (e.texts[k]?).map TextRecord.state with
                | some (.complete chain) => (List.range chain.length).map fun j => .text k j
                | _ => []
          ((∀ j ∈ s.slc.queue, j.id = e.id → j.kind ≠ .relay) →
              s.JobPlaced (exec (.relayWaitExpiry i) s) i e now
                ⟨e.id, .relay, e.precedence, some e.relay.update, frames, now⟩ 3
                (relay .queued) (relay .staged) (relay .dropped))
            ∧ (s.slc.current = none → s.slc.stage = [] → s.slc.queue = [] → s.al.participation = .full →
              s.slc.medium = .idle ∨ s.slc.medium = .receive ∨ s.slc.medium = .jammed → s.keepsPower →
              e.remaining now < 60 →
              exec (.relayWaitExpiry i) s = .next
                (State.modifyEntry { s.begin with now := now } i (relay .done))))
        ∧ ∀ w, e.tallySend.state = .waiting w → (∀ j ∈ s.slc.queue, j.id = e.id → j.kind ≠ .tally) →
          s.freshUntil (max s.now w) →
          let now := max s.now w
          let send (st : TallySendState) (e : Entry) : Entry :=
            { e with tallySend := { e.tallySend with state := st } }
          s.JobPlaced (exec (.tallyWaitExpiry i) s) i e now
            ⟨e.id, .tally, e.precedence, none, [.tally], now⟩ 1 (send .queued) (send .staged) fun e =>
              { e with tallySend := { e.tallySend with state := .idle, resend := false } })

/-! ### Power Control -/

/-- AWAKE_HOLD_RUN_OUT (R112, R113, R114, R110): the timer has run out; where every condition holds the part
enters DOZE, and otherwise nothing else changes. Where its timer does not run such an event has no effect, and
the clock is brought forward to the timer's expiry (the model's choices, log entry 4). -/
def Obligations.AwakeHoldRunOutCompletes : Prop :=
  ∀ s : State, s.settled = true → s.pwc.power = .awake →
    ((∀ x, s.pwc.hold ≠ .running x) → exec .awakeHoldRunOut s = .next s.begin)
      ∧ ∀ x, s.pwc.hold = .running x → s.freshUntil (max s.now x) →
        let now := max s.now x
        ((s.al.config = none ∨ (∃ cfg, s.al.config = some cfg ∧ cfg.doze = false)
              ∨ s.workless = false) →
            exec .awakeHoldRunOut s = .next
              { s.begin with now := now, pwc := { s.pwc with hold := .runOut } })
          ∧ ∀ cfg, s.al.config = some cfg → cfg.doze = true → s.slc.queue = [] →
            s.slc.current = none → s.slc.stage = [] → (∀ n, s.slotAt n = none) →
            (∀ k e, s.entryAt k = some e →
              e.relay.state.name ≠ .waiting ∧ e.tallySend.state.isWaiting = false) →
            s.tu.outstanding = none → s.fp.pageFifo = [] → s.slc.rxFifo = [] →
            exec .awakeHoldRunOut s = .next
              { s.begin with
                now := now
                slc := { s.slc with
                  medium := .dozeSampling, busyStart := none, quietSince := none
                  lastActivity :=
                    if s.slc.carrier.isSome = true ∧ s.slc.medium ≠ .off
                        ∧ s.slc.medium ≠ .dozeSampling then some now
                    else s.slc.lastActivity }
                pwc := ⟨.doze, .runOut, none, some (now + 1000 * cfg.listenInterval), none⟩ }

/-- The sample windows of DOZE and the wake (R115, R116, R117, R118): a window opens as scheduled and closes
after 8 ms, and a pattern seen but not yet taken goes with it (the model's choice, log entry 18); a wake
pattern, six pairs within the window, is seen when the sixth pair's space reaches 400 µs, and starts the 2 ms
warm-up and removes the schedule; WAKE_PATTERN has no effect where fewer pairs are counted or the sixth would
lie past the window. At the warm-up's end the part is AWAKE with the awake hold restarted and the SLC in IDLE,
measuring anew, and R90 takes the head of the send queue (R118, step 3). Where its timer does not run such an
event has no effect, and the clock is brought forward to the timer's expiry (the model's choices, log entries 4
and 18). -/
def Obligations.SampleWindowsAndWarmUpComplete : Prop :=
  ∀ s : State, s.settled = true →
    ((s.pwc.power = .awake ∨ s.pwc.warmUp.isSome = true ∨ s.pwc.nextWindow = none) →
        exec .sampleWindowOpen s = .next s.begin)
      ∧ (∀ w, s.pwc.power = .doze → s.pwc.warmUp = none → s.pwc.nextWindow = some w →
          s.freshUntil (max s.now w) →
          let now := max s.now w
          exec .sampleWindowOpen s = .next { s.begin with
            now := now
            pwc := { s.pwc with
              nextWindow := some (now + 1000 * s.settings.listenInterval)
              window := some ⟨now, 0, if s.slc.carrier = some now then .mark now else .waiting⟩ } })
      ∧ (s.pwc.window = none →
          exec .sampleWindowClose s = .next s.begin ∧ exec .wakePattern s = .next s.begin)
      ∧ (∀ w, s.pwc.window = some w → s.freshUntil (max s.now (w.opened + 8000)) →
          exec .sampleWindowClose s = .next
            { s.begin with now := max s.now (w.opened + 8000), pwc := { s.pwc with window := none } })
      ∧ (∀ w, s.pwc.window = some w → w.pairs < 5 → exec .wakePattern s = .next s.begin)
      ∧ (∀ opened since, s.pwc.window = some ⟨opened, 5, .space since⟩ → opened + 8000 < since + 400 →
          exec .wakePattern s = .next s.begin)
      ∧ (∀ opened since, s.pwc.window = some ⟨opened, 5, .space since⟩ → s.pwc.power = .doze →
          s.pwc.warmUp = none → since + 400 ≤ opened + 8000 → s.freshUntil (max s.now (since + 400)) →
          let now := max s.now (since + 400)
          exec .wakePattern s = .next { s.begin with
            now := now
            pwc := { s.pwc with warmUp := some (now + 2000), nextWindow := none, window := none } })
      ∧ (s.pwc.warmUp = none → exec .warmUpEnd s = .next s.begin)
      ∧ ∀ w cfg, s.pwc.warmUp = some w → s.al.config = some cfg → s.pwc.power = .doze →
        s.freshUntil (max s.now w) →
        let now := max s.now w
        State.EndsWithHead
          { s.begin with
            now := now
            pwc := { s.pwc with
              power := .awake, warmUp := none, hold := .running (now + 1000000 * cfg.awakeHold) }
            slc := { s.slc with
              medium := .idle
              quietSince := if s.slc.carrier.isSome then none else some now
              busyStart := if s.slc.carrier.isSome then some now else none } }
          (exec .warmUpEnd s)
end

