-- ==== Sys2Proof/Laws/State.lean ====
section
/-! SUPPORT. The fields of the state after each update: one lemma per field per update, true by rfl. -/

namespace Sys2Proof.Machine

variable (s : State)

/-! `withTable` -/
@[simp] theorem State.withTable_now (t : List TableSlot) : (s.withTable t).now = s.now := rfl
@[simp] theorem State.withTable_choice (t : List TableSlot) : (s.withTable t).choice = s.choice := rfl
@[simp] theorem State.withTable_pending (t : List TableSlot) : (s.withTable t).pending = s.pending := rfl
@[simp] theorem State.withTable_out (t : List TableSlot) : (s.withTable t).out = s.out := rfl
@[simp] theorem State.withTable_sa (t : List TableSlot) : (s.withTable t).sa = s.sa := rfl
@[simp] theorem State.withTable_slc (t : List TableSlot) : (s.withTable t).slc = s.slc := rfl
@[simp] theorem State.withTable_pwc (t : List TableSlot) : (s.withTable t).pwc = s.pwc := rfl
@[simp] theorem State.withTable_fp (t : List TableSlot) : (s.withTable t).fp = s.fp := rfl
@[simp] theorem State.withTable_tu (t : List TableSlot) : (s.withTable t).tu = s.tu := rfl
@[simp] theorem State.withTable_al (t : List TableSlot) : (s.withTable t).al = s.al := rfl
@[simp] theorem State.withTable_atc_table (t : List TableSlot) : (s.withTable t).atc.table = t := rfl
@[simp] theorem State.withTable_atc_position (t : List TableSlot) : (s.withTable t).atc.position = s.atc.position := rfl
@[simp] theorem State.withTable_atc_map (t : List TableSlot) : (s.withTable t).atc.map = s.atc.map := rfl
@[simp] theorem State.withTable_atc_optIn (t : List TableSlot) : (s.withTable t).atc.optIn = s.atc.optIn := rfl

/-! `modifySlot` -/
@[simp] theorem State.modifySlot_now (i : Nat) (f : TableSlot → TableSlot) : (s.modifySlot i f).now = s.now := rfl
@[simp] theorem State.modifySlot_choice (i : Nat) (f : TableSlot → TableSlot) : (s.modifySlot i f).choice = s.choice := rfl
@[simp] theorem State.modifySlot_pending (i : Nat) (f : TableSlot → TableSlot) : (s.modifySlot i f).pending = s.pending := rfl
@[simp] theorem State.modifySlot_out (i : Nat) (f : TableSlot → TableSlot) : (s.modifySlot i f).out = s.out := rfl
@[simp] theorem State.modifySlot_sa (i : Nat) (f : TableSlot → TableSlot) : (s.modifySlot i f).sa = s.sa := rfl
@[simp] theorem State.modifySlot_slc (i : Nat) (f : TableSlot → TableSlot) : (s.modifySlot i f).slc = s.slc := rfl
@[simp] theorem State.modifySlot_pwc (i : Nat) (f : TableSlot → TableSlot) : (s.modifySlot i f).pwc = s.pwc := rfl
@[simp] theorem State.modifySlot_fp (i : Nat) (f : TableSlot → TableSlot) : (s.modifySlot i f).fp = s.fp := rfl
@[simp] theorem State.modifySlot_tu (i : Nat) (f : TableSlot → TableSlot) : (s.modifySlot i f).tu = s.tu := rfl
@[simp] theorem State.modifySlot_al (i : Nat) (f : TableSlot → TableSlot) : (s.modifySlot i f).al = s.al := rfl
@[simp] theorem State.modifySlot_atc_table (i : Nat) (f : TableSlot → TableSlot) : (s.modifySlot i f).atc.table = s.atc.table.modify i f := rfl
@[simp] theorem State.modifySlot_atc_position (i : Nat) (f : TableSlot → TableSlot) : (s.modifySlot i f).atc.position = s.atc.position := rfl
@[simp] theorem State.modifySlot_atc_map (i : Nat) (f : TableSlot → TableSlot) : (s.modifySlot i f).atc.map = s.atc.map := rfl
@[simp] theorem State.modifySlot_atc_optIn (i : Nat) (f : TableSlot → TableSlot) : (s.modifySlot i f).atc.optIn = s.atc.optIn := rfl

/-! `modifyEntry` -/
@[simp] theorem State.modifyEntry_now (i : Nat) (f : Entry → Entry) : (s.modifyEntry i f).now = s.now := rfl
@[simp] theorem State.modifyEntry_choice (i : Nat) (f : Entry → Entry) : (s.modifyEntry i f).choice = s.choice := rfl
@[simp] theorem State.modifyEntry_pending (i : Nat) (f : Entry → Entry) : (s.modifyEntry i f).pending = s.pending := rfl
@[simp] theorem State.modifyEntry_out (i : Nat) (f : Entry → Entry) : (s.modifyEntry i f).out = s.out := rfl
@[simp] theorem State.modifyEntry_sa (i : Nat) (f : Entry → Entry) : (s.modifyEntry i f).sa = s.sa := rfl
@[simp] theorem State.modifyEntry_slc (i : Nat) (f : Entry → Entry) : (s.modifyEntry i f).slc = s.slc := rfl
@[simp] theorem State.modifyEntry_pwc (i : Nat) (f : Entry → Entry) : (s.modifyEntry i f).pwc = s.pwc := rfl
@[simp] theorem State.modifyEntry_fp (i : Nat) (f : Entry → Entry) : (s.modifyEntry i f).fp = s.fp := rfl
@[simp] theorem State.modifyEntry_tu (i : Nat) (f : Entry → Entry) : (s.modifyEntry i f).tu = s.tu := rfl
@[simp] theorem State.modifyEntry_al (i : Nat) (f : Entry → Entry) : (s.modifyEntry i f).al = s.al := rfl
@[simp] theorem State.modifyEntry_atc_table (i : Nat) (f : Entry → Entry) : (s.modifyEntry i f).atc.table = s.atc.table.modify i fun sl => { sl with entry := sl.entry.map f } := rfl
@[simp] theorem State.modifyEntry_atc_position (i : Nat) (f : Entry → Entry) : (s.modifyEntry i f).atc.position = s.atc.position := rfl
@[simp] theorem State.modifyEntry_atc_map (i : Nat) (f : Entry → Entry) : (s.modifyEntry i f).atc.map = s.atc.map := rfl
@[simp] theorem State.modifyEntry_atc_optIn (i : Nat) (f : Entry → Entry) : (s.modifyEntry i f).atc.optIn = s.atc.optIn := rfl

/-! `mapEntries` -/
@[simp] theorem State.mapEntries_now (f : Entry → Entry) : (s.mapEntries f).now = s.now := rfl
@[simp] theorem State.mapEntries_choice (f : Entry → Entry) : (s.mapEntries f).choice = s.choice := rfl
@[simp] theorem State.mapEntries_pending (f : Entry → Entry) : (s.mapEntries f).pending = s.pending := rfl
@[simp] theorem State.mapEntries_out (f : Entry → Entry) : (s.mapEntries f).out = s.out := rfl
@[simp] theorem State.mapEntries_sa (f : Entry → Entry) : (s.mapEntries f).sa = s.sa := rfl
@[simp] theorem State.mapEntries_slc (f : Entry → Entry) : (s.mapEntries f).slc = s.slc := rfl
@[simp] theorem State.mapEntries_pwc (f : Entry → Entry) : (s.mapEntries f).pwc = s.pwc := rfl
@[simp] theorem State.mapEntries_fp (f : Entry → Entry) : (s.mapEntries f).fp = s.fp := rfl
@[simp] theorem State.mapEntries_tu (f : Entry → Entry) : (s.mapEntries f).tu = s.tu := rfl
@[simp] theorem State.mapEntries_al (f : Entry → Entry) : (s.mapEntries f).al = s.al := rfl
@[simp] theorem State.mapEntries_atc_table (f : Entry → Entry) : (s.mapEntries f).atc.table = s.atc.table.map fun sl => { sl with entry := sl.entry.map f } := rfl
@[simp] theorem State.mapEntries_atc_position (f : Entry → Entry) : (s.mapEntries f).atc.position = s.atc.position := rfl
@[simp] theorem State.mapEntries_atc_map (f : Entry → Entry) : (s.mapEntries f).atc.map = s.atc.map := rfl
@[simp] theorem State.mapEntries_atc_optIn (f : Entry → Entry) : (s.mapEntries f).atc.optIn = s.atc.optIn := rfl

/-! `withSlots` -/
@[simp] theorem State.withSlots_now (l : List (Option Slot)) : (s.withSlots l).now = s.now := rfl
@[simp] theorem State.withSlots_choice (l : List (Option Slot)) : (s.withSlots l).choice = s.choice := rfl
@[simp] theorem State.withSlots_pending (l : List (Option Slot)) : (s.withSlots l).pending = s.pending := rfl
@[simp] theorem State.withSlots_out (l : List (Option Slot)) : (s.withSlots l).out = s.out := rfl
@[simp] theorem State.withSlots_atc (l : List (Option Slot)) : (s.withSlots l).atc = s.atc := rfl
@[simp] theorem State.withSlots_slc (l : List (Option Slot)) : (s.withSlots l).slc = s.slc := rfl
@[simp] theorem State.withSlots_pwc (l : List (Option Slot)) : (s.withSlots l).pwc = s.pwc := rfl
@[simp] theorem State.withSlots_fp (l : List (Option Slot)) : (s.withSlots l).fp = s.fp := rfl
@[simp] theorem State.withSlots_tu (l : List (Option Slot)) : (s.withSlots l).tu = s.tu := rfl
@[simp] theorem State.withSlots_al (l : List (Option Slot)) : (s.withSlots l).al = s.al := rfl
@[simp] theorem State.withSlots_sa_slots (l : List (Option Slot)) : (s.withSlots l).sa.slots = l := rfl

/-! `withMedium` -/
@[simp] theorem State.withMedium_now (m : Medium) : (s.withMedium m).now = s.now := rfl
@[simp] theorem State.withMedium_choice (m : Medium) : (s.withMedium m).choice = s.choice := rfl
@[simp] theorem State.withMedium_pending (m : Medium) : (s.withMedium m).pending = s.pending := rfl
@[simp] theorem State.withMedium_out (m : Medium) : (s.withMedium m).out = s.out := rfl
@[simp] theorem State.withMedium_atc (m : Medium) : (s.withMedium m).atc = s.atc := rfl
@[simp] theorem State.withMedium_sa (m : Medium) : (s.withMedium m).sa = s.sa := rfl
@[simp] theorem State.withMedium_pwc (m : Medium) : (s.withMedium m).pwc = s.pwc := rfl
@[simp] theorem State.withMedium_fp (m : Medium) : (s.withMedium m).fp = s.fp := rfl
@[simp] theorem State.withMedium_tu (m : Medium) : (s.withMedium m).tu = s.tu := rfl
@[simp] theorem State.withMedium_al (m : Medium) : (s.withMedium m).al = s.al := rfl
@[simp] theorem State.withMedium_slc_medium (m : Medium) : (s.withMedium m).slc.medium = m := rfl
@[simp] theorem State.withMedium_slc_queue (m : Medium) : (s.withMedium m).slc.queue = s.slc.queue := rfl
@[simp] theorem State.withMedium_slc_current (m : Medium) : (s.withMedium m).slc.current = s.slc.current := rfl
@[simp] theorem State.withMedium_slc_stage (m : Medium) : (s.withMedium m).slc.stage = s.slc.stage := rfl
@[simp] theorem State.withMedium_slc_losses (m : Medium) : (s.withMedium m).slc.losses = s.slc.losses := rfl
@[simp] theorem State.withMedium_slc_rxFifo (m : Medium) : (s.withMedium m).slc.rxFifo = s.slc.rxFifo := rfl
@[simp] theorem State.withMedium_slc_lastActivity (m : Medium) : (s.withMedium m).slc.lastActivity = s.slc.lastActivity := rfl
@[simp] theorem State.withMedium_slc_busyStart (m : Medium) : (s.withMedium m).slc.busyStart = s.slc.busyStart := rfl
@[simp] theorem State.withMedium_slc_quietSince (m : Medium) : (s.withMedium m).slc.quietSince = s.slc.quietSince := rfl
@[simp] theorem State.withMedium_slc_carrier (m : Medium) : (s.withMedium m).slc.carrier = s.slc.carrier := rfl

/-! `withCurrent` -/
@[simp] theorem State.withCurrent_now (c : Option CurrentJob) : (s.withCurrent c).now = s.now := rfl
@[simp] theorem State.withCurrent_choice (c : Option CurrentJob) : (s.withCurrent c).choice = s.choice := rfl
@[simp] theorem State.withCurrent_pending (c : Option CurrentJob) : (s.withCurrent c).pending = s.pending := rfl
@[simp] theorem State.withCurrent_out (c : Option CurrentJob) : (s.withCurrent c).out = s.out := rfl
@[simp] theorem State.withCurrent_atc (c : Option CurrentJob) : (s.withCurrent c).atc = s.atc := rfl
@[simp] theorem State.withCurrent_sa (c : Option CurrentJob) : (s.withCurrent c).sa = s.sa := rfl
@[simp] theorem State.withCurrent_pwc (c : Option CurrentJob) : (s.withCurrent c).pwc = s.pwc := rfl
@[simp] theorem State.withCurrent_fp (c : Option CurrentJob) : (s.withCurrent c).fp = s.fp := rfl
@[simp] theorem State.withCurrent_tu (c : Option CurrentJob) : (s.withCurrent c).tu = s.tu := rfl
@[simp] theorem State.withCurrent_al (c : Option CurrentJob) : (s.withCurrent c).al = s.al := rfl
@[simp] theorem State.withCurrent_slc_medium (c : Option CurrentJob) : (s.withCurrent c).slc.medium = s.slc.medium := rfl
@[simp] theorem State.withCurrent_slc_queue (c : Option CurrentJob) : (s.withCurrent c).slc.queue = s.slc.queue := rfl
@[simp] theorem State.withCurrent_slc_current (c : Option CurrentJob) : (s.withCurrent c).slc.current = c := rfl
@[simp] theorem State.withCurrent_slc_stage (c : Option CurrentJob) : (s.withCurrent c).slc.stage = s.slc.stage := rfl
@[simp] theorem State.withCurrent_slc_losses (c : Option CurrentJob) : (s.withCurrent c).slc.losses = s.slc.losses := rfl
@[simp] theorem State.withCurrent_slc_rxFifo (c : Option CurrentJob) : (s.withCurrent c).slc.rxFifo = s.slc.rxFifo := rfl
@[simp] theorem State.withCurrent_slc_lastActivity (c : Option CurrentJob) : (s.withCurrent c).slc.lastActivity = s.slc.lastActivity := rfl
@[simp] theorem State.withCurrent_slc_busyStart (c : Option CurrentJob) : (s.withCurrent c).slc.busyStart = s.slc.busyStart := rfl
@[simp] theorem State.withCurrent_slc_quietSince (c : Option CurrentJob) : (s.withCurrent c).slc.quietSince = s.slc.quietSince := rfl
@[simp] theorem State.withCurrent_slc_carrier (c : Option CurrentJob) : (s.withCurrent c).slc.carrier = s.slc.carrier := rfl

/-! `withQueue` -/
@[simp] theorem State.withQueue_now (q : List Job) : (s.withQueue q).now = s.now := rfl
@[simp] theorem State.withQueue_choice (q : List Job) : (s.withQueue q).choice = s.choice := rfl
@[simp] theorem State.withQueue_pending (q : List Job) : (s.withQueue q).pending = s.pending := rfl
@[simp] theorem State.withQueue_out (q : List Job) : (s.withQueue q).out = s.out := rfl
@[simp] theorem State.withQueue_atc (q : List Job) : (s.withQueue q).atc = s.atc := rfl
@[simp] theorem State.withQueue_sa (q : List Job) : (s.withQueue q).sa = s.sa := rfl
@[simp] theorem State.withQueue_pwc (q : List Job) : (s.withQueue q).pwc = s.pwc := rfl
@[simp] theorem State.withQueue_fp (q : List Job) : (s.withQueue q).fp = s.fp := rfl
@[simp] theorem State.withQueue_tu (q : List Job) : (s.withQueue q).tu = s.tu := rfl
@[simp] theorem State.withQueue_al (q : List Job) : (s.withQueue q).al = s.al := rfl
@[simp] theorem State.withQueue_slc_medium (q : List Job) : (s.withQueue q).slc.medium = s.slc.medium := rfl
@[simp] theorem State.withQueue_slc_queue (q : List Job) : (s.withQueue q).slc.queue = q := rfl
@[simp] theorem State.withQueue_slc_current (q : List Job) : (s.withQueue q).slc.current = s.slc.current := rfl
@[simp] theorem State.withQueue_slc_stage (q : List Job) : (s.withQueue q).slc.stage = s.slc.stage := rfl
@[simp] theorem State.withQueue_slc_losses (q : List Job) : (s.withQueue q).slc.losses = s.slc.losses := rfl
@[simp] theorem State.withQueue_slc_rxFifo (q : List Job) : (s.withQueue q).slc.rxFifo = s.slc.rxFifo := rfl
@[simp] theorem State.withQueue_slc_lastActivity (q : List Job) : (s.withQueue q).slc.lastActivity = s.slc.lastActivity := rfl
@[simp] theorem State.withQueue_slc_busyStart (q : List Job) : (s.withQueue q).slc.busyStart = s.slc.busyStart := rfl
@[simp] theorem State.withQueue_slc_quietSince (q : List Job) : (s.withQueue q).slc.quietSince = s.slc.quietSince := rfl
@[simp] theorem State.withQueue_slc_carrier (q : List Job) : (s.withQueue q).slc.carrier = s.slc.carrier := rfl

/-! `withHold` -/
@[simp] theorem State.withHold_now (h : AwakeHold) : (s.withHold h).now = s.now := rfl
@[simp] theorem State.withHold_choice (h : AwakeHold) : (s.withHold h).choice = s.choice := rfl
@[simp] theorem State.withHold_pending (h : AwakeHold) : (s.withHold h).pending = s.pending := rfl
@[simp] theorem State.withHold_out (h : AwakeHold) : (s.withHold h).out = s.out := rfl
@[simp] theorem State.withHold_atc (h : AwakeHold) : (s.withHold h).atc = s.atc := rfl
@[simp] theorem State.withHold_sa (h : AwakeHold) : (s.withHold h).sa = s.sa := rfl
@[simp] theorem State.withHold_slc (h : AwakeHold) : (s.withHold h).slc = s.slc := rfl
@[simp] theorem State.withHold_fp (h : AwakeHold) : (s.withHold h).fp = s.fp := rfl
@[simp] theorem State.withHold_tu (h : AwakeHold) : (s.withHold h).tu = s.tu := rfl
@[simp] theorem State.withHold_al (h : AwakeHold) : (s.withHold h).al = s.al := rfl
@[simp] theorem State.withHold_pwc_power (h : AwakeHold) : (s.withHold h).pwc.power = s.pwc.power := rfl
@[simp] theorem State.withHold_pwc_hold (h : AwakeHold) : (s.withHold h).pwc.hold = h := rfl
@[simp] theorem State.withHold_pwc_warmUp (h : AwakeHold) : (s.withHold h).pwc.warmUp = s.pwc.warmUp := rfl
@[simp] theorem State.withHold_pwc_nextWindow (h : AwakeHold) : (s.withHold h).pwc.nextWindow = s.pwc.nextWindow := rfl
@[simp] theorem State.withHold_pwc_window (h : AwakeHold) : (s.withHold h).pwc.window = s.pwc.window := rfl

/-! `withNotices` -/
@[simp] theorem State.withNotices_now (l : List Notice) : (s.withNotices l).now = s.now := rfl
@[simp] theorem State.withNotices_choice (l : List Notice) : (s.withNotices l).choice = s.choice := rfl
@[simp] theorem State.withNotices_pending (l : List Notice) : (s.withNotices l).pending = s.pending := rfl
@[simp] theorem State.withNotices_out (l : List Notice) : (s.withNotices l).out = s.out := rfl
@[simp] theorem State.withNotices_atc (l : List Notice) : (s.withNotices l).atc = s.atc := rfl
@[simp] theorem State.withNotices_sa (l : List Notice) : (s.withNotices l).sa = s.sa := rfl
@[simp] theorem State.withNotices_slc (l : List Notice) : (s.withNotices l).slc = s.slc := rfl
@[simp] theorem State.withNotices_pwc (l : List Notice) : (s.withNotices l).pwc = s.pwc := rfl
@[simp] theorem State.withNotices_fp (l : List Notice) : (s.withNotices l).fp = s.fp := rfl
@[simp] theorem State.withNotices_tu (l : List Notice) : (s.withNotices l).tu = s.tu := rfl
@[simp] theorem State.withNotices_al_config (l : List Notice) : (s.withNotices l).al.config = s.al.config := rfl
@[simp] theorem State.withNotices_al_response (l : List Notice) : (s.withNotices l).al.response = s.al.response := rfl
@[simp] theorem State.withNotices_al_notices (l : List Notice) : (s.withNotices l).al.notices = l := rfl
@[simp] theorem State.withNotices_al_flags (l : List Notice) : (s.withNotices l).al.flags = s.al.flags := rfl
@[simp] theorem State.withNotices_al_participation (l : List Notice) : (s.withNotices l).al.participation = s.al.participation := rfl
@[simp] theorem State.withNotices_al_resetLine (l : List Notice) : (s.withNotices l).al.resetLine = s.al.resetLine := rfl

/-! `withResponse` -/
@[simp] theorem State.withResponse_now (r : Option Response) : (s.withResponse r).now = s.now := rfl
@[simp] theorem State.withResponse_choice (r : Option Response) : (s.withResponse r).choice = s.choice := rfl
@[simp] theorem State.withResponse_pending (r : Option Response) : (s.withResponse r).pending = s.pending := rfl
@[simp] theorem State.withResponse_out (r : Option Response) : (s.withResponse r).out = s.out := rfl
@[simp] theorem State.withResponse_atc (r : Option Response) : (s.withResponse r).atc = s.atc := rfl
@[simp] theorem State.withResponse_sa (r : Option Response) : (s.withResponse r).sa = s.sa := rfl
@[simp] theorem State.withResponse_slc (r : Option Response) : (s.withResponse r).slc = s.slc := rfl
@[simp] theorem State.withResponse_pwc (r : Option Response) : (s.withResponse r).pwc = s.pwc := rfl
@[simp] theorem State.withResponse_fp (r : Option Response) : (s.withResponse r).fp = s.fp := rfl
@[simp] theorem State.withResponse_tu (r : Option Response) : (s.withResponse r).tu = s.tu := rfl
@[simp] theorem State.withResponse_al_config (r : Option Response) : (s.withResponse r).al.config = s.al.config := rfl
@[simp] theorem State.withResponse_al_response (r : Option Response) : (s.withResponse r).al.response = r := rfl
@[simp] theorem State.withResponse_al_notices (r : Option Response) : (s.withResponse r).al.notices = s.al.notices := rfl
@[simp] theorem State.withResponse_al_flags (r : Option Response) : (s.withResponse r).al.flags = s.al.flags := rfl
@[simp] theorem State.withResponse_al_participation (r : Option Response) : (s.withResponse r).al.participation = s.al.participation := rfl
@[simp] theorem State.withResponse_al_resetLine (r : Option Response) : (s.withResponse r).al.resetLine = s.al.resetLine := rfl

/-! `withSlc` -/
@[simp] theorem State.withSlc_now (x : Slc) : (s.withSlc x).now = s.now := rfl
@[simp] theorem State.withSlc_choice (x : Slc) : (s.withSlc x).choice = s.choice := rfl
@[simp] theorem State.withSlc_pending (x : Slc) : (s.withSlc x).pending = s.pending := rfl
@[simp] theorem State.withSlc_out (x : Slc) : (s.withSlc x).out = s.out := rfl
@[simp] theorem State.withSlc_atc (x : Slc) : (s.withSlc x).atc = s.atc := rfl
@[simp] theorem State.withSlc_sa (x : Slc) : (s.withSlc x).sa = s.sa := rfl
@[simp] theorem State.withSlc_pwc (x : Slc) : (s.withSlc x).pwc = s.pwc := rfl
@[simp] theorem State.withSlc_fp (x : Slc) : (s.withSlc x).fp = s.fp := rfl
@[simp] theorem State.withSlc_tu (x : Slc) : (s.withSlc x).tu = s.tu := rfl
@[simp] theorem State.withSlc_al (x : Slc) : (s.withSlc x).al = s.al := rfl
@[simp] theorem State.withSlc_slc (x : Slc) : (s.withSlc x).slc = x := rfl

/-! `withPwc` -/
@[simp] theorem State.withPwc_now (x : Pwc) : (s.withPwc x).now = s.now := rfl
@[simp] theorem State.withPwc_choice (x : Pwc) : (s.withPwc x).choice = s.choice := rfl
@[simp] theorem State.withPwc_pending (x : Pwc) : (s.withPwc x).pending = s.pending := rfl
@[simp] theorem State.withPwc_out (x : Pwc) : (s.withPwc x).out = s.out := rfl
@[simp] theorem State.withPwc_atc (x : Pwc) : (s.withPwc x).atc = s.atc := rfl
@[simp] theorem State.withPwc_sa (x : Pwc) : (s.withPwc x).sa = s.sa := rfl
@[simp] theorem State.withPwc_slc (x : Pwc) : (s.withPwc x).slc = s.slc := rfl
@[simp] theorem State.withPwc_fp (x : Pwc) : (s.withPwc x).fp = s.fp := rfl
@[simp] theorem State.withPwc_tu (x : Pwc) : (s.withPwc x).tu = s.tu := rfl
@[simp] theorem State.withPwc_al (x : Pwc) : (s.withPwc x).al = s.al := rfl
@[simp] theorem State.withPwc_pwc (x : Pwc) : (s.withPwc x).pwc = x := rfl

/-! `withFp` -/
@[simp] theorem State.withFp_now (x : Fp) : (s.withFp x).now = s.now := rfl
@[simp] theorem State.withFp_choice (x : Fp) : (s.withFp x).choice = s.choice := rfl
@[simp] theorem State.withFp_pending (x : Fp) : (s.withFp x).pending = s.pending := rfl
@[simp] theorem State.withFp_out (x : Fp) : (s.withFp x).out = s.out := rfl
@[simp] theorem State.withFp_atc (x : Fp) : (s.withFp x).atc = s.atc := rfl
@[simp] theorem State.withFp_sa (x : Fp) : (s.withFp x).sa = s.sa := rfl
@[simp] theorem State.withFp_slc (x : Fp) : (s.withFp x).slc = s.slc := rfl
@[simp] theorem State.withFp_pwc (x : Fp) : (s.withFp x).pwc = s.pwc := rfl
@[simp] theorem State.withFp_tu (x : Fp) : (s.withFp x).tu = s.tu := rfl
@[simp] theorem State.withFp_al (x : Fp) : (s.withFp x).al = s.al := rfl
@[simp] theorem State.withFp_fp (x : Fp) : (s.withFp x).fp = x := rfl

/-! `withTu` -/
@[simp] theorem State.withTu_now (x : Tu) : (s.withTu x).now = s.now := rfl
@[simp] theorem State.withTu_choice (x : Tu) : (s.withTu x).choice = s.choice := rfl
@[simp] theorem State.withTu_pending (x : Tu) : (s.withTu x).pending = s.pending := rfl
@[simp] theorem State.withTu_out (x : Tu) : (s.withTu x).out = s.out := rfl
@[simp] theorem State.withTu_atc (x : Tu) : (s.withTu x).atc = s.atc := rfl
@[simp] theorem State.withTu_sa (x : Tu) : (s.withTu x).sa = s.sa := rfl
@[simp] theorem State.withTu_slc (x : Tu) : (s.withTu x).slc = s.slc := rfl
@[simp] theorem State.withTu_pwc (x : Tu) : (s.withTu x).pwc = s.pwc := rfl
@[simp] theorem State.withTu_fp (x : Tu) : (s.withTu x).fp = s.fp := rfl
@[simp] theorem State.withTu_al (x : Tu) : (s.withTu x).al = s.al := rfl
@[simp] theorem State.withTu_tu (x : Tu) : (s.withTu x).tu = x := rfl

/-! `answer` -/
@[simp] theorem State.answer_now (a : LinkAnswer) : (s.answer a).now = s.now := rfl
@[simp] theorem State.answer_choice (a : LinkAnswer) : (s.answer a).choice = s.choice := rfl
@[simp] theorem State.answer_pending (a : LinkAnswer) : (s.answer a).pending = s.pending := rfl
@[simp] theorem State.answer_atc (a : LinkAnswer) : (s.answer a).atc = s.atc := rfl
@[simp] theorem State.answer_sa (a : LinkAnswer) : (s.answer a).sa = s.sa := rfl
@[simp] theorem State.answer_slc (a : LinkAnswer) : (s.answer a).slc = s.slc := rfl
@[simp] theorem State.answer_pwc (a : LinkAnswer) : (s.answer a).pwc = s.pwc := rfl
@[simp] theorem State.answer_fp (a : LinkAnswer) : (s.answer a).fp = s.fp := rfl
@[simp] theorem State.answer_tu (a : LinkAnswer) : (s.answer a).tu = s.tu := rfl
@[simp] theorem State.answer_al (a : LinkAnswer) : (s.answer a).al = s.al := rfl
@[simp] theorem State.answer_out_link (a : LinkAnswer) : (s.answer a).out.link = some a := rfl
@[simp] theorem State.answer_out_feed (a : LinkAnswer) : (s.answer a).out.feed = s.out.feed := rfl
@[simp] theorem State.answer_out_air (a : LinkAnswer) : (s.answer a).out.air = s.out.air := rfl

/-! `emit` -/
@[simp] theorem State.emit_now (a : AirSignal) : (s.emit a).now = s.now := rfl
@[simp] theorem State.emit_choice (a : AirSignal) : (s.emit a).choice = s.choice := rfl
@[simp] theorem State.emit_pending (a : AirSignal) : (s.emit a).pending = s.pending := rfl
@[simp] theorem State.emit_atc (a : AirSignal) : (s.emit a).atc = s.atc := rfl
@[simp] theorem State.emit_sa (a : AirSignal) : (s.emit a).sa = s.sa := rfl
@[simp] theorem State.emit_slc (a : AirSignal) : (s.emit a).slc = s.slc := rfl
@[simp] theorem State.emit_pwc (a : AirSignal) : (s.emit a).pwc = s.pwc := rfl
@[simp] theorem State.emit_fp (a : AirSignal) : (s.emit a).fp = s.fp := rfl
@[simp] theorem State.emit_tu (a : AirSignal) : (s.emit a).tu = s.tu := rfl
@[simp] theorem State.emit_al (a : AirSignal) : (s.emit a).al = s.al := rfl
@[simp] theorem State.emit_out_link (a : AirSignal) : (s.emit a).out.link = s.out.link := rfl
@[simp] theorem State.emit_out_feed (a : AirSignal) : (s.emit a).out.feed = s.out.feed := rfl
@[simp] theorem State.emit_out_air (a : AirSignal) : (s.emit a).out.air = s.out.air ++ [a] := rfl

/-! `setRxOverrun` -/
@[simp] theorem State.setRxOverrun_now : (s.setRxOverrun).now = s.now := rfl
@[simp] theorem State.setRxOverrun_choice : (s.setRxOverrun).choice = s.choice := rfl
@[simp] theorem State.setRxOverrun_pending : (s.setRxOverrun).pending = s.pending := rfl
@[simp] theorem State.setRxOverrun_out : (s.setRxOverrun).out = s.out := rfl
@[simp] theorem State.setRxOverrun_atc : (s.setRxOverrun).atc = s.atc := rfl
@[simp] theorem State.setRxOverrun_sa : (s.setRxOverrun).sa = s.sa := rfl
@[simp] theorem State.setRxOverrun_slc : (s.setRxOverrun).slc = s.slc := rfl
@[simp] theorem State.setRxOverrun_pwc : (s.setRxOverrun).pwc = s.pwc := rfl
@[simp] theorem State.setRxOverrun_fp : (s.setRxOverrun).fp = s.fp := rfl
@[simp] theorem State.setRxOverrun_tu : (s.setRxOverrun).tu = s.tu := rfl
@[simp] theorem State.setRxOverrun_al_config : (s.setRxOverrun).al.config = s.al.config := rfl
@[simp] theorem State.setRxOverrun_al_response : (s.setRxOverrun).al.response = s.al.response := rfl
@[simp] theorem State.setRxOverrun_al_notices : (s.setRxOverrun).al.notices = s.al.notices := rfl
@[simp] theorem State.setRxOverrun_al_flags : (s.setRxOverrun).al.flags = { s.al.flags with rxOverrun := true } := rfl
@[simp] theorem State.setRxOverrun_al_participation : (s.setRxOverrun).al.participation = s.al.participation := rfl
@[simp] theorem State.setRxOverrun_al_resetLine : (s.setRxOverrun).al.resetLine = s.al.resetLine := rfl

/-! `setDamaged` -/
@[simp] theorem State.setDamaged_now : (s.setDamaged).now = s.now := rfl
@[simp] theorem State.setDamaged_choice : (s.setDamaged).choice = s.choice := rfl
@[simp] theorem State.setDamaged_pending : (s.setDamaged).pending = s.pending := rfl
@[simp] theorem State.setDamaged_out : (s.setDamaged).out = s.out := rfl
@[simp] theorem State.setDamaged_atc : (s.setDamaged).atc = s.atc := rfl
@[simp] theorem State.setDamaged_sa : (s.setDamaged).sa = s.sa := rfl
@[simp] theorem State.setDamaged_slc : (s.setDamaged).slc = s.slc := rfl
@[simp] theorem State.setDamaged_pwc : (s.setDamaged).pwc = s.pwc := rfl
@[simp] theorem State.setDamaged_fp : (s.setDamaged).fp = s.fp := rfl
@[simp] theorem State.setDamaged_tu : (s.setDamaged).tu = s.tu := rfl
@[simp] theorem State.setDamaged_al_config : (s.setDamaged).al.config = s.al.config := rfl
@[simp] theorem State.setDamaged_al_response : (s.setDamaged).al.response = s.al.response := rfl
@[simp] theorem State.setDamaged_al_notices : (s.setDamaged).al.notices = s.al.notices := rfl
@[simp] theorem State.setDamaged_al_flags : (s.setDamaged).al.flags = { s.al.flags with damaged := true } := rfl
@[simp] theorem State.setDamaged_al_participation : (s.setDamaged).al.participation = s.al.participation := rfl
@[simp] theorem State.setDamaged_al_resetLine : (s.setDamaged).al.resetLine = s.al.resetLine := rfl

/-! `setMalformed` -/
@[simp] theorem State.setMalformed_now : (s.setMalformed).now = s.now := rfl
@[simp] theorem State.setMalformed_choice : (s.setMalformed).choice = s.choice := rfl
@[simp] theorem State.setMalformed_pending : (s.setMalformed).pending = s.pending := rfl
@[simp] theorem State.setMalformed_out : (s.setMalformed).out = s.out := rfl
@[simp] theorem State.setMalformed_atc : (s.setMalformed).atc = s.atc := rfl
@[simp] theorem State.setMalformed_sa : (s.setMalformed).sa = s.sa := rfl
@[simp] theorem State.setMalformed_slc : (s.setMalformed).slc = s.slc := rfl
@[simp] theorem State.setMalformed_pwc : (s.setMalformed).pwc = s.pwc := rfl
@[simp] theorem State.setMalformed_fp : (s.setMalformed).fp = s.fp := rfl
@[simp] theorem State.setMalformed_tu : (s.setMalformed).tu = s.tu := rfl
@[simp] theorem State.setMalformed_al_config : (s.setMalformed).al.config = s.al.config := rfl
@[simp] theorem State.setMalformed_al_response : (s.setMalformed).al.response = s.al.response := rfl
@[simp] theorem State.setMalformed_al_notices : (s.setMalformed).al.notices = s.al.notices := rfl
@[simp] theorem State.setMalformed_al_flags : (s.setMalformed).al.flags = { s.al.flags with malformed := true } := rfl
@[simp] theorem State.setMalformed_al_participation : (s.setMalformed).al.participation = s.al.participation := rfl
@[simp] theorem State.setMalformed_al_resetLine : (s.setMalformed).al.resetLine = s.al.resetLine := rfl

/-! `setNoticeOverflow` -/
@[simp] theorem State.setNoticeOverflow_now : (s.setNoticeOverflow).now = s.now := rfl
@[simp] theorem State.setNoticeOverflow_choice : (s.setNoticeOverflow).choice = s.choice := rfl
@[simp] theorem State.setNoticeOverflow_pending : (s.setNoticeOverflow).pending = s.pending := rfl
@[simp] theorem State.setNoticeOverflow_out : (s.setNoticeOverflow).out = s.out := rfl
@[simp] theorem State.setNoticeOverflow_atc : (s.setNoticeOverflow).atc = s.atc := rfl
@[simp] theorem State.setNoticeOverflow_sa : (s.setNoticeOverflow).sa = s.sa := rfl
@[simp] theorem State.setNoticeOverflow_slc : (s.setNoticeOverflow).slc = s.slc := rfl
@[simp] theorem State.setNoticeOverflow_pwc : (s.setNoticeOverflow).pwc = s.pwc := rfl
@[simp] theorem State.setNoticeOverflow_fp : (s.setNoticeOverflow).fp = s.fp := rfl
@[simp] theorem State.setNoticeOverflow_tu : (s.setNoticeOverflow).tu = s.tu := rfl
@[simp] theorem State.setNoticeOverflow_al_config : (s.setNoticeOverflow).al.config = s.al.config := rfl
@[simp] theorem State.setNoticeOverflow_al_response : (s.setNoticeOverflow).al.response = s.al.response := rfl
@[simp] theorem State.setNoticeOverflow_al_notices : (s.setNoticeOverflow).al.notices = s.al.notices := rfl
@[simp] theorem State.setNoticeOverflow_al_flags : (s.setNoticeOverflow).al.flags = { s.al.flags with noticeOverflow := true } := rfl
@[simp] theorem State.setNoticeOverflow_al_participation : (s.setNoticeOverflow).al.participation = s.al.participation := rfl
@[simp] theorem State.setNoticeOverflow_al_resetLine : (s.setNoticeOverflow).al.resetLine = s.al.resetLine := rfl

/-! `setTableFull` -/
@[simp] theorem State.setTableFull_now : (s.setTableFull).now = s.now := rfl
@[simp] theorem State.setTableFull_choice : (s.setTableFull).choice = s.choice := rfl
@[simp] theorem State.setTableFull_pending : (s.setTableFull).pending = s.pending := rfl
@[simp] theorem State.setTableFull_out : (s.setTableFull).out = s.out := rfl
@[simp] theorem State.setTableFull_atc : (s.setTableFull).atc = s.atc := rfl
@[simp] theorem State.setTableFull_sa : (s.setTableFull).sa = s.sa := rfl
@[simp] theorem State.setTableFull_slc : (s.setTableFull).slc = s.slc := rfl
@[simp] theorem State.setTableFull_pwc : (s.setTableFull).pwc = s.pwc := rfl
@[simp] theorem State.setTableFull_fp : (s.setTableFull).fp = s.fp := rfl
@[simp] theorem State.setTableFull_tu : (s.setTableFull).tu = s.tu := rfl
@[simp] theorem State.setTableFull_al_config : (s.setTableFull).al.config = s.al.config := rfl
@[simp] theorem State.setTableFull_al_response : (s.setTableFull).al.response = s.al.response := rfl
@[simp] theorem State.setTableFull_al_notices : (s.setTableFull).al.notices = s.al.notices := rfl
@[simp] theorem State.setTableFull_al_flags : (s.setTableFull).al.flags = { s.al.flags with tableFull := true } := rfl
@[simp] theorem State.setTableFull_al_participation : (s.setTableFull).al.participation = s.al.participation := rfl
@[simp] theorem State.setTableFull_al_resetLine : (s.setTableFull).al.resetLine = s.al.resetLine := rfl

/-! `setPoolExhausted` -/
@[simp] theorem State.setPoolExhausted_now : (s.setPoolExhausted).now = s.now := rfl
@[simp] theorem State.setPoolExhausted_choice : (s.setPoolExhausted).choice = s.choice := rfl
@[simp] theorem State.setPoolExhausted_pending : (s.setPoolExhausted).pending = s.pending := rfl
@[simp] theorem State.setPoolExhausted_out : (s.setPoolExhausted).out = s.out := rfl
@[simp] theorem State.setPoolExhausted_atc : (s.setPoolExhausted).atc = s.atc := rfl
@[simp] theorem State.setPoolExhausted_sa : (s.setPoolExhausted).sa = s.sa := rfl
@[simp] theorem State.setPoolExhausted_slc : (s.setPoolExhausted).slc = s.slc := rfl
@[simp] theorem State.setPoolExhausted_pwc : (s.setPoolExhausted).pwc = s.pwc := rfl
@[simp] theorem State.setPoolExhausted_fp : (s.setPoolExhausted).fp = s.fp := rfl
@[simp] theorem State.setPoolExhausted_tu : (s.setPoolExhausted).tu = s.tu := rfl
@[simp] theorem State.setPoolExhausted_al_config : (s.setPoolExhausted).al.config = s.al.config := rfl
@[simp] theorem State.setPoolExhausted_al_response : (s.setPoolExhausted).al.response = s.al.response := rfl
@[simp] theorem State.setPoolExhausted_al_notices : (s.setPoolExhausted).al.notices = s.al.notices := rfl
@[simp] theorem State.setPoolExhausted_al_flags : (s.setPoolExhausted).al.flags = { s.al.flags with poolExhausted := true } := rfl
@[simp] theorem State.setPoolExhausted_al_participation : (s.setPoolExhausted).al.participation = s.al.participation := rfl
@[simp] theorem State.setPoolExhausted_al_resetLine : (s.setPoolExhausted).al.resetLine = s.al.resetLine := rfl

/-! `setSendQueueFull` -/
@[simp] theorem State.setSendQueueFull_now : (s.setSendQueueFull).now = s.now := rfl
@[simp] theorem State.setSendQueueFull_choice : (s.setSendQueueFull).choice = s.choice := rfl
@[simp] theorem State.setSendQueueFull_pending : (s.setSendQueueFull).pending = s.pending := rfl
@[simp] theorem State.setSendQueueFull_out : (s.setSendQueueFull).out = s.out := rfl
@[simp] theorem State.setSendQueueFull_atc : (s.setSendQueueFull).atc = s.atc := rfl
@[simp] theorem State.setSendQueueFull_sa : (s.setSendQueueFull).sa = s.sa := rfl
@[simp] theorem State.setSendQueueFull_slc : (s.setSendQueueFull).slc = s.slc := rfl
@[simp] theorem State.setSendQueueFull_pwc : (s.setSendQueueFull).pwc = s.pwc := rfl
@[simp] theorem State.setSendQueueFull_fp : (s.setSendQueueFull).fp = s.fp := rfl
@[simp] theorem State.setSendQueueFull_tu : (s.setSendQueueFull).tu = s.tu := rfl
@[simp] theorem State.setSendQueueFull_al_config : (s.setSendQueueFull).al.config = s.al.config := rfl
@[simp] theorem State.setSendQueueFull_al_response : (s.setSendQueueFull).al.response = s.al.response := rfl
@[simp] theorem State.setSendQueueFull_al_notices : (s.setSendQueueFull).al.notices = s.al.notices := rfl
@[simp] theorem State.setSendQueueFull_al_flags : (s.setSendQueueFull).al.flags = { s.al.flags with sendQueueFull := true } := rfl
@[simp] theorem State.setSendQueueFull_al_participation : (s.setSendQueueFull).al.participation = s.al.participation := rfl
@[simp] theorem State.setSendQueueFull_al_resetLine : (s.setSendQueueFull).al.resetLine = s.al.resetLine := rfl

/-! `clearNoticeOverflow` -/
@[simp] theorem State.clearNoticeOverflow_now : (s.clearNoticeOverflow).now = s.now := rfl
@[simp] theorem State.clearNoticeOverflow_choice : (s.clearNoticeOverflow).choice = s.choice := rfl
@[simp] theorem State.clearNoticeOverflow_pending : (s.clearNoticeOverflow).pending = s.pending := rfl
@[simp] theorem State.clearNoticeOverflow_out : (s.clearNoticeOverflow).out = s.out := rfl
@[simp] theorem State.clearNoticeOverflow_atc : (s.clearNoticeOverflow).atc = s.atc := rfl
@[simp] theorem State.clearNoticeOverflow_sa : (s.clearNoticeOverflow).sa = s.sa := rfl
@[simp] theorem State.clearNoticeOverflow_slc : (s.clearNoticeOverflow).slc = s.slc := rfl
@[simp] theorem State.clearNoticeOverflow_pwc : (s.clearNoticeOverflow).pwc = s.pwc := rfl
@[simp] theorem State.clearNoticeOverflow_fp : (s.clearNoticeOverflow).fp = s.fp := rfl
@[simp] theorem State.clearNoticeOverflow_tu : (s.clearNoticeOverflow).tu = s.tu := rfl
@[simp] theorem State.clearNoticeOverflow_al_config : (s.clearNoticeOverflow).al.config = s.al.config := rfl
@[simp] theorem State.clearNoticeOverflow_al_response : (s.clearNoticeOverflow).al.response = s.al.response := rfl
@[simp] theorem State.clearNoticeOverflow_al_notices : (s.clearNoticeOverflow).al.notices = s.al.notices := rfl
@[simp] theorem State.clearNoticeOverflow_al_flags : (s.clearNoticeOverflow).al.flags = { s.al.flags with noticeOverflow := false } := rfl
@[simp] theorem State.clearNoticeOverflow_al_participation : (s.clearNoticeOverflow).al.participation = s.al.participation := rfl
@[simp] theorem State.clearNoticeOverflow_al_resetLine : (s.clearNoticeOverflow).al.resetLine = s.al.resetLine := rfl

/-! `advance`, `begin` -/
@[simp] theorem State.advance_now (t : Micros) : (s.advance t).now = max s.now t := rfl
@[simp] theorem State.advance_choice (t : Micros) : (s.advance t).choice = s.choice := rfl
@[simp] theorem State.advance_pending (t : Micros) : (s.advance t).pending = s.pending := rfl
@[simp] theorem State.advance_out (t : Micros) : (s.advance t).out = s.out := rfl
@[simp] theorem State.advance_atc (t : Micros) : (s.advance t).atc = s.atc := rfl
@[simp] theorem State.advance_sa (t : Micros) : (s.advance t).sa = s.sa := rfl
@[simp] theorem State.advance_slc (t : Micros) : (s.advance t).slc = s.slc := rfl
@[simp] theorem State.advance_pwc (t : Micros) : (s.advance t).pwc = s.pwc := rfl
@[simp] theorem State.advance_fp (t : Micros) : (s.advance t).fp = s.fp := rfl
@[simp] theorem State.advance_tu (t : Micros) : (s.advance t).tu = s.tu := rfl
@[simp] theorem State.advance_al (t : Micros) : (s.advance t).al = s.al := rfl
@[simp] theorem State.begin_now : (s.begin).now = s.now := rfl
@[simp] theorem State.begin_choice : (s.begin).choice = s.choice := rfl
@[simp] theorem State.begin_pending : (s.begin).pending = s.pending := rfl
@[simp] theorem State.begin_out : (s.begin).out = Outputs.none := rfl
@[simp] theorem State.begin_atc : (s.begin).atc = s.atc := rfl
@[simp] theorem State.begin_sa : (s.begin).sa = s.sa := rfl
@[simp] theorem State.begin_slc : (s.begin).slc = s.slc := rfl
@[simp] theorem State.begin_pwc : (s.begin).pwc = s.pwc := rfl
@[simp] theorem State.begin_fp : (s.begin).fp = s.fp := rfl
@[simp] theorem State.begin_tu : (s.begin).tu = s.tu := rfl
@[simp] theorem State.begin_al : (s.begin).al = s.al := rfl

/-! What depends on one block only. -/

@[simp] theorem State.withTable_settings (t : List TableSlot) : (s.withTable t).settings = s.settings := rfl
@[simp] theorem State.withTable_configured (t : List TableSlot) : (s.withTable t).configured = s.configured := rfl
@[simp] theorem State.withTable_slotAt (t : List TableSlot) (k : Nat) : (s.withTable t).slotAt k = s.slotAt k := rfl
@[simp] theorem State.modifySlot_settings (i : Nat) (f : TableSlot → TableSlot) : (s.modifySlot i f).settings = s.settings := rfl
@[simp] theorem State.modifySlot_configured (i : Nat) (f : TableSlot → TableSlot) : (s.modifySlot i f).configured = s.configured := rfl
@[simp] theorem State.modifySlot_slotAt (i : Nat) (f : TableSlot → TableSlot) (k : Nat) : (s.modifySlot i f).slotAt k = s.slotAt k := rfl
@[simp] theorem State.modifyEntry_settings (i : Nat) (f : Entry → Entry) : (s.modifyEntry i f).settings = s.settings := rfl
@[simp] theorem State.modifyEntry_configured (i : Nat) (f : Entry → Entry) : (s.modifyEntry i f).configured = s.configured := rfl
@[simp] theorem State.modifyEntry_slotAt (i : Nat) (f : Entry → Entry) (k : Nat) : (s.modifyEntry i f).slotAt k = s.slotAt k := rfl
@[simp] theorem State.mapEntries_settings (f : Entry → Entry) : (s.mapEntries f).settings = s.settings := rfl
@[simp] theorem State.mapEntries_configured (f : Entry → Entry) : (s.mapEntries f).configured = s.configured := rfl
@[simp] theorem State.mapEntries_slotAt (f : Entry → Entry) (k : Nat) : (s.mapEntries f).slotAt k = s.slotAt k := rfl
@[simp] theorem State.withSlots_entryAt (l : List (Option Slot)) (k : Nat) : (s.withSlots l).entryAt k = s.entryAt k := rfl
@[simp] theorem State.withSlots_genAt (l : List (Option Slot)) (k : Nat) : (s.withSlots l).genAt k = s.genAt k := rfl
@[simp] theorem State.withSlots_handleAt (l : List (Option Slot)) (k : Nat) : (s.withSlots l).handleAt k = s.handleAt k := rfl
@[simp] theorem State.withSlots_settings (l : List (Option Slot)) : (s.withSlots l).settings = s.settings := rfl
@[simp] theorem State.withSlots_configured (l : List (Option Slot)) : (s.withSlots l).configured = s.configured := rfl
@[simp] theorem State.withMedium_entryAt (m : Medium) (k : Nat) : (s.withMedium m).entryAt k = s.entryAt k := rfl
@[simp] theorem State.withMedium_genAt (m : Medium) (k : Nat) : (s.withMedium m).genAt k = s.genAt k := rfl
@[simp] theorem State.withMedium_handleAt (m : Medium) (k : Nat) : (s.withMedium m).handleAt k = s.handleAt k := rfl
@[simp] theorem State.withMedium_settings (m : Medium) : (s.withMedium m).settings = s.settings := rfl
@[simp] theorem State.withMedium_configured (m : Medium) : (s.withMedium m).configured = s.configured := rfl
@[simp] theorem State.withMedium_slotAt (m : Medium) (k : Nat) : (s.withMedium m).slotAt k = s.slotAt k := rfl
@[simp] theorem State.withCurrent_entryAt (c : Option CurrentJob) (k : Nat) : (s.withCurrent c).entryAt k = s.entryAt k := rfl
@[simp] theorem State.withCurrent_genAt (c : Option CurrentJob) (k : Nat) : (s.withCurrent c).genAt k = s.genAt k := rfl
@[simp] theorem State.withCurrent_handleAt (c : Option CurrentJob) (k : Nat) : (s.withCurrent c).handleAt k = s.handleAt k := rfl
@[simp] theorem State.withCurrent_settings (c : Option CurrentJob) : (s.withCurrent c).settings = s.settings := rfl
@[simp] theorem State.withCurrent_configured (c : Option CurrentJob) : (s.withCurrent c).configured = s.configured := rfl
@[simp] theorem State.withCurrent_slotAt (c : Option CurrentJob) (k : Nat) : (s.withCurrent c).slotAt k = s.slotAt k := rfl
@[simp] theorem State.withQueue_entryAt (q : List Job) (k : Nat) : (s.withQueue q).entryAt k = s.entryAt k := rfl
@[simp] theorem State.withQueue_genAt (q : List Job) (k : Nat) : (s.withQueue q).genAt k = s.genAt k := rfl
@[simp] theorem State.withQueue_handleAt (q : List Job) (k : Nat) : (s.withQueue q).handleAt k = s.handleAt k := rfl
@[simp] theorem State.withQueue_settings (q : List Job) : (s.withQueue q).settings = s.settings := rfl
@[simp] theorem State.withQueue_configured (q : List Job) : (s.withQueue q).configured = s.configured := rfl
@[simp] theorem State.withQueue_slotAt (q : List Job) (k : Nat) : (s.withQueue q).slotAt k = s.slotAt k := rfl
@[simp] theorem State.withHold_entryAt (h : AwakeHold) (k : Nat) : (s.withHold h).entryAt k = s.entryAt k := rfl
@[simp] theorem State.withHold_genAt (h : AwakeHold) (k : Nat) : (s.withHold h).genAt k = s.genAt k := rfl
@[simp] theorem State.withHold_handleAt (h : AwakeHold) (k : Nat) : (s.withHold h).handleAt k = s.handleAt k := rfl
@[simp] theorem State.withHold_settings (h : AwakeHold) : (s.withHold h).settings = s.settings := rfl
@[simp] theorem State.withHold_configured (h : AwakeHold) : (s.withHold h).configured = s.configured := rfl
@[simp] theorem State.withHold_slotAt (h : AwakeHold) (k : Nat) : (s.withHold h).slotAt k = s.slotAt k := rfl
@[simp] theorem State.withNotices_entryAt (l : List Notice) (k : Nat) : (s.withNotices l).entryAt k = s.entryAt k := rfl
@[simp] theorem State.withNotices_genAt (l : List Notice) (k : Nat) : (s.withNotices l).genAt k = s.genAt k := rfl
@[simp] theorem State.withNotices_handleAt (l : List Notice) (k : Nat) : (s.withNotices l).handleAt k = s.handleAt k := rfl
@[simp] theorem State.withNotices_settings (l : List Notice) : (s.withNotices l).settings = s.settings := rfl
@[simp] theorem State.withNotices_configured (l : List Notice) : (s.withNotices l).configured = s.configured := rfl
@[simp] theorem State.withNotices_slotAt (l : List Notice) (k : Nat) : (s.withNotices l).slotAt k = s.slotAt k := rfl
@[simp] theorem State.withResponse_entryAt (r : Option Response) (k : Nat) : (s.withResponse r).entryAt k = s.entryAt k := rfl
@[simp] theorem State.withResponse_genAt (r : Option Response) (k : Nat) : (s.withResponse r).genAt k = s.genAt k := rfl
@[simp] theorem State.withResponse_handleAt (r : Option Response) (k : Nat) : (s.withResponse r).handleAt k = s.handleAt k := rfl
@[simp] theorem State.withResponse_settings (r : Option Response) : (s.withResponse r).settings = s.settings := rfl
@[simp] theorem State.withResponse_configured (r : Option Response) : (s.withResponse r).configured = s.configured := rfl
@[simp] theorem State.withResponse_slotAt (r : Option Response) (k : Nat) : (s.withResponse r).slotAt k = s.slotAt k := rfl
@[simp] theorem State.withSlc_entryAt (x : Slc) (k : Nat) : (s.withSlc x).entryAt k = s.entryAt k := rfl
@[simp] theorem State.withSlc_genAt (x : Slc) (k : Nat) : (s.withSlc x).genAt k = s.genAt k := rfl
@[simp] theorem State.withSlc_handleAt (x : Slc) (k : Nat) : (s.withSlc x).handleAt k = s.handleAt k := rfl
@[simp] theorem State.withSlc_settings (x : Slc) : (s.withSlc x).settings = s.settings := rfl
@[simp] theorem State.withSlc_configured (x : Slc) : (s.withSlc x).configured = s.configured := rfl
@[simp] theorem State.withSlc_slotAt (x : Slc) (k : Nat) : (s.withSlc x).slotAt k = s.slotAt k := rfl
@[simp] theorem State.withPwc_entryAt (x : Pwc) (k : Nat) : (s.withPwc x).entryAt k = s.entryAt k := rfl
@[simp] theorem State.withPwc_genAt (x : Pwc) (k : Nat) : (s.withPwc x).genAt k = s.genAt k := rfl
@[simp] theorem State.withPwc_handleAt (x : Pwc) (k : Nat) : (s.withPwc x).handleAt k = s.handleAt k := rfl
@[simp] theorem State.withPwc_settings (x : Pwc) : (s.withPwc x).settings = s.settings := rfl
@[simp] theorem State.withPwc_configured (x : Pwc) : (s.withPwc x).configured = s.configured := rfl
@[simp] theorem State.withPwc_slotAt (x : Pwc) (k : Nat) : (s.withPwc x).slotAt k = s.slotAt k := rfl
@[simp] theorem State.withFp_entryAt (x : Fp) (k : Nat) : (s.withFp x).entryAt k = s.entryAt k := rfl
@[simp] theorem State.withFp_genAt (x : Fp) (k : Nat) : (s.withFp x).genAt k = s.genAt k := rfl
@[simp] theorem State.withFp_handleAt (x : Fp) (k : Nat) : (s.withFp x).handleAt k = s.handleAt k := rfl
@[simp] theorem State.withFp_settings (x : Fp) : (s.withFp x).settings = s.settings := rfl
@[simp] theorem State.withFp_configured (x : Fp) : (s.withFp x).configured = s.configured := rfl
@[simp] theorem State.withFp_slotAt (x : Fp) (k : Nat) : (s.withFp x).slotAt k = s.slotAt k := rfl
@[simp] theorem State.withTu_entryAt (x : Tu) (k : Nat) : (s.withTu x).entryAt k = s.entryAt k := rfl
@[simp] theorem State.withTu_genAt (x : Tu) (k : Nat) : (s.withTu x).genAt k = s.genAt k := rfl
@[simp] theorem State.withTu_handleAt (x : Tu) (k : Nat) : (s.withTu x).handleAt k = s.handleAt k := rfl
@[simp] theorem State.withTu_settings (x : Tu) : (s.withTu x).settings = s.settings := rfl
@[simp] theorem State.withTu_configured (x : Tu) : (s.withTu x).configured = s.configured := rfl
@[simp] theorem State.withTu_slotAt (x : Tu) (k : Nat) : (s.withTu x).slotAt k = s.slotAt k := rfl
@[simp] theorem State.answer_entryAt (a : LinkAnswer) (k : Nat) : (s.answer a).entryAt k = s.entryAt k := rfl
@[simp] theorem State.answer_genAt (a : LinkAnswer) (k : Nat) : (s.answer a).genAt k = s.genAt k := rfl
@[simp] theorem State.answer_handleAt (a : LinkAnswer) (k : Nat) : (s.answer a).handleAt k = s.handleAt k := rfl
@[simp] theorem State.answer_settings (a : LinkAnswer) : (s.answer a).settings = s.settings := rfl
@[simp] theorem State.answer_configured (a : LinkAnswer) : (s.answer a).configured = s.configured := rfl
@[simp] theorem State.answer_slotAt (a : LinkAnswer) (k : Nat) : (s.answer a).slotAt k = s.slotAt k := rfl
@[simp] theorem State.emit_entryAt (a : AirSignal) (k : Nat) : (s.emit a).entryAt k = s.entryAt k := rfl
@[simp] theorem State.emit_genAt (a : AirSignal) (k : Nat) : (s.emit a).genAt k = s.genAt k := rfl
@[simp] theorem State.emit_handleAt (a : AirSignal) (k : Nat) : (s.emit a).handleAt k = s.handleAt k := rfl
@[simp] theorem State.emit_settings (a : AirSignal) : (s.emit a).settings = s.settings := rfl
@[simp] theorem State.emit_configured (a : AirSignal) : (s.emit a).configured = s.configured := rfl
@[simp] theorem State.emit_slotAt (a : AirSignal) (k : Nat) : (s.emit a).slotAt k = s.slotAt k := rfl
@[simp] theorem State.setRxOverrun_entryAt (k : Nat) : (s.setRxOverrun).entryAt k = s.entryAt k := rfl
@[simp] theorem State.setRxOverrun_genAt (k : Nat) : (s.setRxOverrun).genAt k = s.genAt k := rfl
@[simp] theorem State.setRxOverrun_handleAt (k : Nat) : (s.setRxOverrun).handleAt k = s.handleAt k := rfl
@[simp] theorem State.setRxOverrun_settings : (s.setRxOverrun).settings = s.settings := rfl
@[simp] theorem State.setRxOverrun_configured : (s.setRxOverrun).configured = s.configured := rfl
@[simp] theorem State.setRxOverrun_slotAt (k : Nat) : (s.setRxOverrun).slotAt k = s.slotAt k := rfl
@[simp] theorem State.setDamaged_entryAt (k : Nat) : (s.setDamaged).entryAt k = s.entryAt k := rfl
@[simp] theorem State.setDamaged_genAt (k : Nat) : (s.setDamaged).genAt k = s.genAt k := rfl
@[simp] theorem State.setDamaged_handleAt (k : Nat) : (s.setDamaged).handleAt k = s.handleAt k := rfl
@[simp] theorem State.setDamaged_settings : (s.setDamaged).settings = s.settings := rfl
@[simp] theorem State.setDamaged_configured : (s.setDamaged).configured = s.configured := rfl
@[simp] theorem State.setDamaged_slotAt (k : Nat) : (s.setDamaged).slotAt k = s.slotAt k := rfl
@[simp] theorem State.setMalformed_entryAt (k : Nat) : (s.setMalformed).entryAt k = s.entryAt k := rfl
@[simp] theorem State.setMalformed_genAt (k : Nat) : (s.setMalformed).genAt k = s.genAt k := rfl
@[simp] theorem State.setMalformed_handleAt (k : Nat) : (s.setMalformed).handleAt k = s.handleAt k := rfl
@[simp] theorem State.setMalformed_settings : (s.setMalformed).settings = s.settings := rfl
@[simp] theorem State.setMalformed_configured : (s.setMalformed).configured = s.configured := rfl
@[simp] theorem State.setMalformed_slotAt (k : Nat) : (s.setMalformed).slotAt k = s.slotAt k := rfl
@[simp] theorem State.setNoticeOverflow_entryAt (k : Nat) : (s.setNoticeOverflow).entryAt k = s.entryAt k := rfl
@[simp] theorem State.setNoticeOverflow_genAt (k : Nat) : (s.setNoticeOverflow).genAt k = s.genAt k := rfl
@[simp] theorem State.setNoticeOverflow_handleAt (k : Nat) : (s.setNoticeOverflow).handleAt k = s.handleAt k := rfl
@[simp] theorem State.setNoticeOverflow_settings : (s.setNoticeOverflow).settings = s.settings := rfl
@[simp] theorem State.setNoticeOverflow_configured : (s.setNoticeOverflow).configured = s.configured := rfl
@[simp] theorem State.setNoticeOverflow_slotAt (k : Nat) : (s.setNoticeOverflow).slotAt k = s.slotAt k := rfl
@[simp] theorem State.setTableFull_entryAt (k : Nat) : (s.setTableFull).entryAt k = s.entryAt k := rfl
@[simp] theorem State.setTableFull_genAt (k : Nat) : (s.setTableFull).genAt k = s.genAt k := rfl
@[simp] theorem State.setTableFull_handleAt (k : Nat) : (s.setTableFull).handleAt k = s.handleAt k := rfl
@[simp] theorem State.setTableFull_settings : (s.setTableFull).settings = s.settings := rfl
@[simp] theorem State.setTableFull_configured : (s.setTableFull).configured = s.configured := rfl
@[simp] theorem State.setTableFull_slotAt (k : Nat) : (s.setTableFull).slotAt k = s.slotAt k := rfl
@[simp] theorem State.setPoolExhausted_entryAt (k : Nat) : (s.setPoolExhausted).entryAt k = s.entryAt k := rfl
@[simp] theorem State.setPoolExhausted_genAt (k : Nat) : (s.setPoolExhausted).genAt k = s.genAt k := rfl
@[simp] theorem State.setPoolExhausted_handleAt (k : Nat) : (s.setPoolExhausted).handleAt k = s.handleAt k := rfl
@[simp] theorem State.setPoolExhausted_settings : (s.setPoolExhausted).settings = s.settings := rfl
@[simp] theorem State.setPoolExhausted_configured : (s.setPoolExhausted).configured = s.configured := rfl
@[simp] theorem State.setPoolExhausted_slotAt (k : Nat) : (s.setPoolExhausted).slotAt k = s.slotAt k := rfl
@[simp] theorem State.setSendQueueFull_entryAt (k : Nat) : (s.setSendQueueFull).entryAt k = s.entryAt k := rfl
@[simp] theorem State.setSendQueueFull_genAt (k : Nat) : (s.setSendQueueFull).genAt k = s.genAt k := rfl
@[simp] theorem State.setSendQueueFull_handleAt (k : Nat) : (s.setSendQueueFull).handleAt k = s.handleAt k := rfl
@[simp] theorem State.setSendQueueFull_settings : (s.setSendQueueFull).settings = s.settings := rfl
@[simp] theorem State.setSendQueueFull_configured : (s.setSendQueueFull).configured = s.configured := rfl
@[simp] theorem State.setSendQueueFull_slotAt (k : Nat) : (s.setSendQueueFull).slotAt k = s.slotAt k := rfl
@[simp] theorem State.clearNoticeOverflow_entryAt (k : Nat) : (s.clearNoticeOverflow).entryAt k = s.entryAt k := rfl
@[simp] theorem State.clearNoticeOverflow_genAt (k : Nat) : (s.clearNoticeOverflow).genAt k = s.genAt k := rfl
@[simp] theorem State.clearNoticeOverflow_handleAt (k : Nat) : (s.clearNoticeOverflow).handleAt k = s.handleAt k := rfl
@[simp] theorem State.clearNoticeOverflow_settings : (s.clearNoticeOverflow).settings = s.settings := rfl
@[simp] theorem State.clearNoticeOverflow_configured : (s.clearNoticeOverflow).configured = s.configured := rfl
@[simp] theorem State.clearNoticeOverflow_slotAt (k : Nat) : (s.clearNoticeOverflow).slotAt k = s.slotAt k := rfl
@[simp] theorem State.advance_entryAt (t : Micros) (k : Nat) : (s.advance t).entryAt k = s.entryAt k := rfl
@[simp] theorem State.advance_genAt (t : Micros) (k : Nat) : (s.advance t).genAt k = s.genAt k := rfl
@[simp] theorem State.advance_handleAt (t : Micros) (k : Nat) : (s.advance t).handleAt k = s.handleAt k := rfl
@[simp] theorem State.advance_settings (t : Micros) : (s.advance t).settings = s.settings := rfl
@[simp] theorem State.advance_configured (t : Micros) : (s.advance t).configured = s.configured := rfl
@[simp] theorem State.advance_slotAt (t : Micros) (k : Nat) : (s.advance t).slotAt k = s.slotAt k := rfl
@[simp] theorem State.begin_entryAt (k : Nat) : (s.begin).entryAt k = s.entryAt k := rfl
@[simp] theorem State.begin_genAt (k : Nat) : (s.begin).genAt k = s.genAt k := rfl
@[simp] theorem State.begin_handleAt (k : Nat) : (s.begin).handleAt k = s.handleAt k := rfl
@[simp] theorem State.begin_settings : (s.begin).settings = s.settings := rfl
@[simp] theorem State.begin_configured : (s.begin).configured = s.configured := rfl
@[simp] theorem State.begin_slotAt (k : Nat) : (s.begin).slotAt k = s.slotAt k := rfl

end Sys2Proof.Machine
end

