-- ==== Sys2Proof/Laws/Ops.lean ====
section
/-! SUPPORT. What the shared operations do, said once each: table slots, notices, activity, the end of an
event. -/

namespace Sys2Proof.Machine

/-! ### Table slots -/

theorem State.entryAt_def (s : State) (i : Nat) :
    s.entryAt i = (s.atc.table[i]?).bind TableSlot.entry := rfl

/-- A changed slot reads as changed; every other slot reads as before. -/
theorem State.entryAt_modifySlot (s : State) (i k : Nat) (f : TableSlot → TableSlot) :
    (s.modifySlot i f).entryAt k =
      if i = k then (s.atc.table[k]?).bind fun sl => (f sl).entry else s.entryAt k := by
  simp only [State.entryAt, State.modifySlot_atc_table, List.getElem?_modify]
  split <;> cases s.atc.table[k]? <;> rfl

theorem State.genAt_modifySlot (s : State) (i k : Nat) (f : TableSlot → TableSlot) :
    (s.modifySlot i f).genAt k =
      if i = k then ((s.atc.table[k]?).map fun sl => (f sl).gen).getD 0 else s.genAt k := by
  simp only [State.genAt, State.modifySlot_atc_table, List.getElem?_modify]
  split <;> cases s.atc.table[k]? <;> rfl

/-- A changed entry reads as changed; every other entry reads as before. -/
@[simp] theorem State.entryAt_modifyEntry (s : State) (i k : Nat) (f : Entry → Entry) :
    (s.modifyEntry i f).entryAt k = if i = k then (s.entryAt k).map f else s.entryAt k := by
  simp only [State.entryAt, State.modifyEntry_atc_table, List.getElem?_modify]
  split <;> cases s.atc.table[k]? <;> rfl

@[simp] theorem State.genAt_modifyEntry (s : State) (i k : Nat) (f : Entry → Entry) :
    (s.modifyEntry i f).genAt k = s.genAt k := by
  simp only [State.genAt, State.modifyEntry_atc_table, List.getElem?_modify]
  split <;> cases s.atc.table[k]? <;> rfl

@[simp] theorem State.handleAt_modifyEntry (s : State) (i k : Nat) (f : Entry → Entry) :
    (s.modifyEntry i f).handleAt k = s.handleAt k := by
  simp [State.handleAt]

@[simp] theorem State.length_modifyEntry (s : State) (i : Nat) (f : Entry → Entry) :
    (s.modifyEntry i f).atc.table.length = s.atc.table.length := by simp

@[simp] theorem State.entryAt_mapEntries (s : State) (k : Nat) (f : Entry → Entry) :
    (s.mapEntries f).entryAt k = (s.entryAt k).map f := by
  simp only [State.entryAt, State.mapEntries_atc_table, List.getElem?_map]
  cases s.atc.table[k]? <;> rfl

@[simp] theorem State.genAt_mapEntries (s : State) (k : Nat) (f : Entry → Entry) :
    (s.mapEntries f).genAt k = s.genAt k := by
  simp only [State.genAt, State.mapEntries_atc_table, List.getElem?_map]
  cases s.atc.table[k]? <;> rfl

/-- The slot `slotOf` answers holds an entry of that identity. -/
theorem State.slotOf_spec {s : State} {id : Identity} {i : Nat} (h : s.slotOf id = some i) :
    ∃ e, s.entryAt i = some e ∧ e.id = id := by
  simp only [State.slotOf, List.findIdx?_eq_some_iff_getElem] at h
  obtain ⟨hlt, hany, -⟩ := h
  simp only [Option.any_eq_true, beq_iff_eq] at hany
  obtain ⟨e, he, hid⟩ := hany
  exact ⟨e, by simp [State.entryAt, List.getElem?_eq_getElem hlt, he], hid⟩

/-- Where `slotOf` answers none, no slot holds an entry of that identity. -/
theorem State.slotOf_none {s : State} {id : Identity} (h : s.slotOf id = none) {i : Nat} {e : Entry}
    (he : s.entryAt i = some e) : e.id ≠ id := by
  simp only [State.slotOf, List.findIdx?_eq_none_iff] at h
  simp only [State.entryAt, Option.bind_eq_some_iff] at he
  obtain ⟨sl, hsl, hent⟩ := he
  have := h sl (List.mem_of_getElem? hsl)
  simpa [hent] using this

/-- The listed entries are those the slots hold. -/
theorem State.mem_entries {s : State} {i : Nat} {e : Entry} :
    (i, e) ∈ s.entries ↔ s.entryAt i = some e := by
  simp only [State.entries, List.mem_filterMap, Option.map_eq_some_iff, Prod.mk.injEq, Prod.exists,
    State.entryAt, Option.bind_eq_some_iff]
  constructor
  · rintro ⟨sl, k, hk, e', he', rfl, rfl⟩
    exact ⟨sl, by simpa using List.mem_zipIdx_iff_getElem?.mp hk, he'⟩
  · rintro ⟨sl, hsl, he⟩
    exact ⟨sl, i, List.mem_zipIdx_iff_getElem?.mpr (by simpa using hsl), e, he, rfl, rfl⟩

/-! ### Notices (R190) -/

/-- Queuing a notice touches the notices and NOTICE-OVERFLOW only. -/
theorem State.queueNotice_eq (s : State) (n : Notice) :
    s.queueNotice n = { s with al := s.al.queued n } := by
  unfold State.queueNotice Al.queued joinNotice
  by_cases h : n ∈ s.al.notices
  · simp [h]
  · by_cases h2 : s.al.notices.length < 24
    · simp [h, h2, Nat.not_le.mpr h2, State.withNotices]
    · simp [h, h2, Nat.not_lt.mp h2, State.setNoticeOverflow]

@[simp] theorem State.queueNotice_notices (s : State) (n : Notice) :
    (s.queueNotice n).al.notices = joinNotice s.al.notices n := by rw [State.queueNotice_eq]; rfl

@[simp] theorem State.queueNotice_entryAt (s : State) (n : Notice) (i : Nat) :
    (s.queueNotice n).entryAt i = s.entryAt i := by rw [State.queueNotice_eq]; rfl

@[simp] theorem State.queueNotice_genAt (s : State) (n : Notice) (i : Nat) :
    (s.queueNotice n).genAt i = s.genAt i := by rw [State.queueNotice_eq]; rfl

/-- A notice list never grows past 24 and never holds a notice twice. -/
theorem joinNotice_ok {l : List Notice} (n : Notice) (h : l.length ≤ 24 ∧ l.Nodup) :
    (joinNotice l n).length ≤ 24 ∧ (joinNotice l n).Nodup := by
  unfold joinNotice
  split
  · exact h
  · rename_i hn
    split
    · exact ⟨by simp; omega, by
        rw [List.nodup_append]
        exact ⟨h.2, by simp, fun a ha b hb => by simp at hb; subst hb; exact fun hab => hn (hab ▸ ha)⟩⟩
    · exact h

/-- A notice that was queued and not lost stands on the list. -/
theorem mem_joinNotice {l : List Notice} (n : Notice) (h : l.length < 24) : n ∈ joinNotice l n := by
  unfold joinNotice
  split <;> simp_all

/-! ### Power Control (R112, R117) -/

/-- A wake cause touches Power Control only. -/
theorem State.wakeCause_eq (s : State) : s.wakeCause = s.withPwc s.wakeCause.pwc := by
  unfold State.wakeCause; split <;> rfl

/-- Restarting the awake hold touches Power Control only. -/
theorem State.restartHold_eq (s : State) : s.restartHold = s.withPwc s.restartHold.pwc := by
  unfold State.restartHold; split <;> rfl

/-- Activity touches Power Control only. -/
theorem State.activity_eq (s : State) : s.activity = s.withPwc s.activity.pwc := by
  unfold State.activity; split
  · exact s.restartHold_eq
  · exact s.wakeCause_eq

theorem State.slcActivity_eq (s : State) : s.slcActivity = s.withPwc s.slcActivity.pwc := by
  unfold State.slcActivity; split
  · exact s.restartHold_eq
  · rfl

/-- In AWAKE, activity of a configured part restarts the awake hold. -/
theorem State.activity_awake {s : State} {cfg : Settings} (hp : s.pwc.power = .awake)
    (hc : s.al.config = some cfg) :
    s.activity = s.withHold (.running (s.now + seconds cfg.awakeHold)) := by
  simp [State.activity, hp, State.restartHold, State.configured, State.settings, hc]

/-- In DOZE, activity that finds no warm-up running starts one. -/
theorem State.activity_doze {s : State} (hp : s.pwc.power = .doze) (hw : s.pwc.warmUp = none) :
    s.activity =
      s.withPwc { s.pwc with warmUp := some (s.now + millis 2), nextWindow := none, window := none } := by
  simp only [State.activity, hp, State.wakeCause, hw, and_self, if_true]; rfl

/-- In DOZE with a warm-up running, activity changes nothing. -/
theorem State.activity_warming {s : State} (hp : s.pwc.power = .doze) (hw : s.pwc.warmUp ≠ none) :
    s.activity = s := by
  simp [State.activity, hp, State.wakeCause, hw]

/-- Before CONFIGURE, activity in AWAKE changes nothing. -/
theorem State.activity_unconfigured {s : State} (hp : s.pwc.power = .awake) (hc : s.al.config = none) :
    s.activity = s := by
  simp [State.activity, hp, State.restartHold, State.configured, hc]

@[simp] theorem State.activity_now (s : State) : s.activity.now = s.now := by rw [State.activity_eq]; rfl
@[simp] theorem State.activity_out (s : State) : s.activity.out = s.out := by rw [State.activity_eq]; rfl
@[simp] theorem State.activity_pending (s : State) : s.activity.pending = s.pending := by
  rw [State.activity_eq]; rfl
@[simp] theorem State.activity_choice (s : State) : s.activity.choice = s.choice := by
  rw [State.activity_eq]; rfl
@[simp] theorem State.activity_atc (s : State) : s.activity.atc = s.atc := by rw [State.activity_eq]; rfl
@[simp] theorem State.activity_sa (s : State) : s.activity.sa = s.sa := by rw [State.activity_eq]; rfl
@[simp] theorem State.activity_slc (s : State) : s.activity.slc = s.slc := by rw [State.activity_eq]; rfl
@[simp] theorem State.activity_fp (s : State) : s.activity.fp = s.fp := by rw [State.activity_eq]; rfl
@[simp] theorem State.activity_tu (s : State) : s.activity.tu = s.tu := by rw [State.activity_eq]; rfl
@[simp] theorem State.activity_al (s : State) : s.activity.al = s.al := by rw [State.activity_eq]; rfl
@[simp] theorem State.activity_entryAt (s : State) (i : Nat) : s.activity.entryAt i = s.entryAt i := by
  rw [State.activity_eq]; rfl
@[simp] theorem State.activity_genAt (s : State) (i : Nat) : s.activity.genAt i = s.genAt i := by
  rw [State.activity_eq]; rfl
@[simp] theorem State.activity_configured (s : State) : s.activity.configured = s.configured := by
  rw [State.activity_eq]; rfl
@[simp] theorem State.activity_settings (s : State) : s.activity.settings = s.settings := by
  rw [State.activity_eq]; rfl

/-! ### The end of an event -/

/-- Every event completes. -/
theorem event_eq (f : State → State) (s : State) : event f s = .next (f s.begin).finish := rfl

/-- In AWAKE, or while a warm-up runs, a wake cause changes nothing. -/
theorem State.wakeCause_self {s : State} (h : s.pwc.power = .awake ∨ s.pwc.warmUp.isSome = true) :
    s.wakeCause = s := by
  unfold State.wakeCause
  split
  · rename_i hc
    rcases h with h | h
    · simp [h] at hc
    · simp [hc.2] at h
  · rfl

/-- A state of rest is left as it is by the end of an event. -/
theorem State.finish_of_settled {s : State} (h : s.settled = true) : s.finish = s := by
  simp only [State.settled, Bool.and_eq_true, Bool.or_eq_true, Bool.not_eq_true', beq_iff_eq,
    List.isEmpty_iff] at h
  obtain ⟨⟨⟨hq, hr⟩, hd⟩, hw⟩ := h
  have h1 : s.takeHead = s := by
    unfold State.takeHead
    rcases hq with hq | hq
    · simp [hq]
    · split
      · rw [hq]; simp only [State.takeFrom, State.withQueue, State.withSlc, ← hq]
      · rfl
  have h2 : s.sendReport = s := by simp [State.sendReport, hr]
  have h3 : s.settlePower = s := by
    unfold State.settlePower
    simp only [hd, Bool.false_eq_true, if_false]
    split
    · rfl
    · rename_i hwl
      apply State.wakeCause_self
      rcases hw with (hw | hw) | hw
      · exact .inl hw
      · exact absurd hw hwl
      · exact .inr hw
  simp [State.finish, h1, h2, h3]

/-- An event whose effect leaves a state of rest leaves exactly that state. -/
theorem event_of_settled {f : State → State} {s : State} (h : (f s.begin).settled = true) :
    event f s = .next (f s.begin) := by
  rw [event_eq, State.finish_of_settled h]

/-! ### Staleness of the position (R68) -/

/-- The instant a position goes stale, as the statements write it. -/
theorem State.staleDue_eq (s : State) :
    s.staleDue = s.atc.position.map fun p => p.written + 60000000 * s.settings.zoneHold := by
  have h (n : Nat) : seconds (60 * n) = 60000000 * n := by
    show 60 * n * 1000000 = 60000000 * n
    omega
  simp only [State.staleDue, h]

/-- What a reader of the position does first: nothing while it is not stale, its position change otherwise. -/
theorem State.dropStale_cases (s : State) :
    s.freshAt s.now ∧ s.dropStale = s ∨ ¬ s.freshAt s.now ∧ s.dropStale = s.changePosition none := by
  unfold State.dropStale State.freshAt
  rw [s.staleDue_eq]
  cases s.atc.position with
  | none => exact .inl ⟨nofun, rfl⟩
  | some p =>
    by_cases h : p.written + 60000000 * s.settings.zoneHold ≤ s.now
    · exact .inr ⟨fun hf => absurd h (Nat.not_le.mpr (hf p rfl)), by simp [h]⟩
    · exact .inl ⟨fun q hq => by cases hq; exact Nat.not_le.mp h, by simp [h]⟩

/-- What a timer does first: its instant is reached, after the staleness of the position where that lies before
it. -/
theorem State.advancePast_cases (s : State) (t : Micros) :
    s.freshUntil (max s.now t) ∧ s.advancePast t = s.advance t
      ∨ ¬ s.freshUntil (max s.now t) ∧ s.advancePast t = (s.advance t).changePosition none := by
  have ha : s.advancePast t =
      if s.staleDue.any (· < max s.now t) then (s.advance t).changePosition none else s.advance t := rfl
  rw [ha, s.staleDue_eq]
  unfold State.freshUntil
  cases s.atc.position with
  | none => exact .inl ⟨nofun, rfl⟩
  | some p =>
    by_cases h : p.written + 60000000 * s.settings.zoneHold < max s.now t
    · exact .inr ⟨fun hf => absurd h (Nat.not_lt.mpr (hf p rfl)), if_pos (by simpa using h)⟩
    · exact .inl ⟨fun q hq => by cases hq; exact Nat.not_lt.mp h, if_neg (by simpa using h)⟩

theorem State.dropStale_of_freshAt {s : State} (h : s.freshAt s.now) : s.dropStale = s :=
  s.dropStale_cases.elim And.right fun k => absurd h k.1

theorem State.advancePast_of_freshUntil {s : State} {t : Micros} (h : s.freshUntil (max s.now t)) :
    s.advancePast t = s.advance t :=
  (s.advancePast_cases t).elim And.right fun k => absurd h k.1

end Sys2Proof.Machine
end

