-- ==== Sys2Proof/Laws/Choice.lean ====
section
/-! SUPPORT. What the operations that choose among entries and slots choose: R30's victim, and the slot and the
text that R60 to R63 give up, each as `Sys2Proof/Safety.lean` writes the rule out. -/

namespace Sys2Proof.Machine

/-! ### The least of a numbered list -/

theorem pickLeast_mem {α : Type} (less : α → α → Bool) {l : List α} {a : α} (h : pickLeast less l = some a) :
    a ∈ l := by
  cases l with
  | nil => cases h
  | cons x xs =>
    obtain rfl := Option.some.inj h
    induction xs generalizing x with
    | nil => simp
    | cons y ys ih =>
      have := ih (if less y x then y else x) rfl
      simp only [List.foldl_cons, List.mem_cons] at this ⊢
      by_cases hy : less y x = true <;> simp only [hy, if_true] at this ⊢ <;> tauto

/-- In a list numbered in rising order, the element is picked that no other one undercuts and that undercuts
every earlier one. -/
theorem pickLeast_numbered {α : Type} {less : Nat × α → Nat × α → Bool} {l : List (Nat × α)} {i : Nat} {a : α}
    (hl : l.Pairwise fun p q => p.1 < q.1) (hm : (i, a) ∈ l)
    (before : ∀ k b, (k, b) ∈ l → k < i → less (i, a) (k, b) = true)
    (after : ∀ k b, (k, b) ∈ l → i < k → less (k, b) (i, a) = false) :
    pickLeast less l = some (i, a) := by
  obtain ⟨pre, post, rfl⟩ := List.append_of_mem hm
  rw [List.pairwise_append, List.pairwise_cons] at hl
  have hpost : ∀ (t : List (Nat × α)), (∀ p ∈ t, less p (i, a) = false) →
      t.foldl (fun best y => if less y best then y else best) (i, a) = (i, a) := by
    intro t ht
    induction t with
    | nil => rfl
    | cons p ps ih => simp [ht p (by simp), ih fun q hq => ht q (by simp [hq])]
  have hp := hpost post fun p hp =>
    after p.1 p.2 (by simp [hp]) (hl.2.1.1 p hp)
  cases pre with
  | nil => simpa [pickLeast] using hp
  | cons x xs =>
    obtain ⟨b, hb⟩ : ∃ b, pickLeast less (x :: xs) = some b := ⟨_, rfl⟩
    have hmem := pickLeast_mem less hb
    have hless := before b.1 b.2 (List.mem_append_left _ hmem) (hl.2.2 b hmem _ List.mem_cons_self)
    simp only [pickLeast, Option.some.injEq] at hb
    simp [pickLeast, List.foldl_append, hb, hless, hp]

/-- The numbers of a filtered `zipIdx` rise. -/
theorem pairwise_filterMap_zipIdx {α β : Type} (f : α → Option β) (l : List α) (n : Nat) :
    ((l.zipIdx n).filterMap fun p => (f p.1).map fun b => (p.2, b)).Pairwise fun p q => p.1 < q.1 := by
  refine List.Pairwise.filterMap (R := fun p q => p.2 < q.2) _ ?_ ?_
  · rintro a a' hlt b hb b' hb'
    simp only [Option.map_eq_some_iff] at hb hb'
    obtain ⟨_, -, rfl⟩ := hb
    obtain ⟨_, -, rfl⟩ := hb'
    exact hlt
  · have : ((l.zipIdx n).map Prod.snd).Pairwise (· < ·) := by
      rw [List.zipIdx_map_snd]; exact List.pairwise_lt_range'
    exact List.pairwise_map.mp this

theorem State.entries_rise (s : State) : s.entries.Pairwise fun p q => p.1 < q.1 :=
  pairwise_filterMap_zipIdx _ _ _

theorem State.openSlots_rise (s : State) : s.openSlots.Pairwise fun p q => p.1 < q.1 :=
  pairwise_filterMap_zipIdx id _ _

/-- The open slots are those that the slot numbers hold. -/
theorem State.mem_openSlots {s : State} {n : Nat} {sl : Slot} :
    (n, sl) ∈ s.openSlots ↔ s.slotAt n = some sl := by
  simp only [State.openSlots, List.mem_filterMap, Option.map_eq_some_iff, Prod.mk.injEq, Prod.exists,
    State.slotAt, Option.join_eq_some_iff]
  constructor
  · rintro ⟨o, k, hk, sl', rfl, rfl, rfl⟩
    simpa using List.mem_zipIdx_iff_getElem?.mp hk
  · intro h
    exact ⟨some sl, n, List.mem_zipIdx_iff_getElem?.mpr (by simpa using h), sl, rfl, rfl, rfl⟩

/-! ### R60, R63: the slot given up -/

theorem pairLess_eq_true {a b : Nat × Nat} :
    pairLess a b = true ↔ a.1 < b.1 ∨ a.1 = b.1 ∧ a.2 < b.2 := by
  simp [pairLess]

theorem pairLess_eq_false {a b : Nat × Nat} :
    pairLess a b = false ↔ ¬ (a.1 < b.1 ∨ a.1 = b.1 ∧ a.2 < b.2) := by
  rw [← pairLess_eq_true, Bool.not_eq_true]

theorem State.LowestSlot.lowestSlot {s : State} {n : Nat} {low : Slot} (h : s.LowestSlot n low) :
    s.lowestSlot = some (n, low) := by
  refine pickLeast_numbered s.openSlots_rise (mem_openSlots.mpr h.1) ?_ ?_ <;>
  · intro k sl hk hlt
    have := h.2 k sl (by omega) (mem_openSlots.mp hk)
    simp only [pairLess_eq_true, pairLess_eq_false, before3] at this ⊢
    omega

/-! ### R62: the text released -/

theorem textBlocks_ne_zero {x : TextRecord} :
    textBlocks x ≠ 0 ↔ ∃ chain, x.state = .complete chain ∧ chain ≠ [] := by
  unfold textBlocks
  cases h : x.state <;> simp

/-- The texts reclaim may take are those of the entries it looks at. -/
theorem Entry.releasable_iff {e : Entry} {k : Nat} :
    e.releasable k ↔ e.state = .acknowledged ∧ e.relay.state.over = true
      ∧ ∃ x, e.texts[k]? = some x ∧ textBlocks x ≠ 0 := by
  simp only [Entry.releasable, textBlocks_ne_zero, exists_and_left]
  cases e.relay.state <;> simp [RelayState.over]

/-- The indices of an entry's texts that have blocks. -/
theorem Entry.mem_withBlocks {e : Entry} {k : Nat} :
    k ∈ (e.texts.zipIdx.filter fun p => textBlocks p.1 != 0).map Prod.snd ↔
      ∃ x, e.texts[k]? = some x ∧ textBlocks x ≠ 0 := by
  simp only [List.mem_map, List.mem_filter, Prod.exists, bne_iff_ne]
  constructor
  · rintro ⟨x, k, ⟨hm, hb⟩, rfl⟩
    exact ⟨x, by simpa using List.mem_zipIdx_iff_getElem?.mp hm, hb⟩
  · rintro ⟨x, hx, hb⟩
    exact ⟨x, k, ⟨List.mem_zipIdx_iff_getElem?.mpr (by simpa using hx), hb⟩, rfl⟩

theorem Entry.lastComplete_mem {e : Entry} {k : Nat} (h : e.lastComplete = some k) :
    ∃ x, e.texts[k]? = some x ∧ textBlocks x ≠ 0 :=
  Entry.mem_withBlocks.mp (List.mem_of_getLast? h)

theorem Entry.exists_lastComplete {e : Entry} {k : Nat} (h : e.releasable k) :
    ∃ k', e.lastComplete = some k' :=
  ⟨_, List.getLast?_eq_some_getLast (List.ne_nil_of_mem
    (Entry.mem_withBlocks.mpr (Entry.releasable_iff.mp h).2.2))⟩

/-- The last text with blocks is the last one reclaim may take. -/
theorem Entry.lastComplete_of_releasable {e : Entry} {k : Nat} (h : e.releasable k)
    (last : ∀ k', k < k' → ¬ e.releasable k') : e.lastComplete = some k := by
  obtain ⟨hs, ho, hx⟩ := Entry.releasable_iff.mp h
  obtain ⟨k', hk'⟩ := Entry.exists_lastComplete h
  have hle : ¬ k < k' := fun hlt =>
    last k' hlt (Entry.releasable_iff.mpr ⟨hs, ho, Entry.lastComplete_mem hk'⟩)
  have rise : ((e.texts.zipIdx.filter fun p => textBlocks p.1 != 0).map Prod.snd).Pairwise (· < ·) := by
    refine List.Pairwise.sublist (List.filter_sublist.map _) ?_
    rw [List.zipIdx_map_snd]
    exact List.pairwise_lt_range'
  have hm := Entry.mem_withBlocks.mpr hx
  obtain ⟨pre, hpre⟩ := List.getLast?_eq_some_iff.mp hk'
  rw [hpre] at hm rise
  rcases List.mem_append.mp hm with hm | hm
  · exact absurd ((List.pairwise_append.mp rise).2.2 k hm k' (by simp)) hle
  · rw [hk', List.mem_singleton.mp hm]

theorem State.mem_reclaimable {s : State} {i : Nat} {e : Entry} :
    (i, e) ∈ s.reclaimable ↔ s.entryAt i = some e ∧ ∃ k, e.releasable k := by
  simp only [State.reclaimable, List.mem_filter, mem_entries, Bool.and_eq_true, beq_iff_eq, and_assoc]
  refine and_congr_right fun _ => ⟨?_, ?_⟩
  · rintro ⟨hs, ho, hl⟩
    obtain ⟨k, hk⟩ := Option.isSome_iff_exists.mp hl
    exact ⟨k, Entry.releasable_iff.mpr ⟨hs, ho, Entry.lastComplete_mem hk⟩⟩
  · rintro ⟨k, hk⟩
    obtain ⟨hs, ho, -⟩ := Entry.releasable_iff.mp hk
    exact ⟨hs, ho, Option.isSome_iff_exists.mpr (Entry.exists_lastComplete hk)⟩

theorem State.ReleasesText.reclaimText {s : State} {i k : Nat} {e : Entry} (h : s.ReleasesText i e k) :
    s.reclaimText = some (s.modifyEntry i fun e => e.withText k .released) := by
  obtain ⟨he, hk, hlast, hmin⟩ := h
  have hr : s.reclaimable.Pairwise fun p q => p.1 < q.1 := s.entries_rise.sublist List.filter_sublist
  have := pickLeast_numbered (less := fun a b : Nat × Entry =>
      pairLess (a.2.precedence, a.2.acked.getD 0) (b.2.precedence, b.2.acked.getD 0))
    hr (mem_reclaimable.mpr ⟨he, k, hk⟩)
    (fun j f hj hlt => ?_) (fun j f hj hlt => ?_)
  · simp [State.reclaimText, this, Entry.lastComplete_of_releasable hk hlast]
  all_goals
    obtain ⟨hf, k', hk'⟩ := mem_reclaimable.mp hj
    have := hmin j f k' (by omega) hf hk'
    simp only [pairLess_eq_true, pairLess_eq_false, before3] at this ⊢
    omega

/-- Where no text may be released, reclaim's first step frees nothing. -/
theorem State.reclaimText_none {s : State} (h : ∀ j f k, s.entryAt j = some f → ¬ f.releasable k) :
    s.reclaimText = none := by
  have : s.reclaimable = [] := by
    rw [List.eq_nil_iff_forall_not_mem]
    rintro ⟨j, f⟩ hj
    obtain ⟨hf, k, hk⟩ := mem_reclaimable.mp hj
    exact h j f k hf hk
  simp [State.reclaimText, this, pickLeast]

/-! ### R30: the victim -/

theorem victimKey_group {e : Entry} {p : Nat} : (victimKey e p).map Prod.fst = evictionGroup p e := by
  unfold victimKey evictionGroup
  cases e.state <;> (try rfl) <;> dsimp only <;> split <;> rfl

/-- Within a group the model's key orders as R30 says. -/
theorem victimKey_chosenBefore {e f : Entry} {p g a b c d i k : Nat} (he : victimKey e p = some (g, a, b))
    (hf : victimKey f p = some (g, c, d)) :
    chosenBefore e i f k ↔ a < c ∨ a = c ∧ (b < d ∨ b = d ∧ i < k) := by
  unfold victimKey at he hf
  unfold chosenBefore before3
  cases h : e.state <;> cases h' : f.state <;> simp only [h, h'] at he hf ⊢ <;>
    (try split at he) <;> (try split at hf) <;>
    simp only [Option.some.injEq, Prod.mk.injEq, reduceCtorEq] at he hf <;>
    obtain ⟨rfl, rfl, rfl⟩ := he <;> obtain ⟨hg, rfl, rfl⟩ := hf <;>
    first | exact absurd hg (by decide) | simp

theorem State.IsVictim.findVictim {s : State} {p i : Nat} {e : Entry} (h : s.IsVictim p i e) :
    s.findVictim p = some i := by
  obtain ⟨he, g, hg, hmin⟩ := h
  rw [← victimKey_group, Option.map_eq_some_iff] at hg
  obtain ⟨⟨g', a, b⟩, hkey, rfl⟩ := hg
  have rise : (s.entries.filterMap fun q => (victimKey q.2 p).map fun k => (q.1, k)).Pairwise
      fun q r => q.1 < r.1 := by
    refine List.Pairwise.filterMap _ ?_ s.entries_rise
    rintro q q' hlt r hr r' hr'
    simp only [Option.map_eq_some_iff] at hr hr'
    obtain ⟨_, -, rfl⟩ := hr
    obtain ⟨_, -, rfl⟩ := hr'
    exact hlt
  have mem : ∀ k key, (k, key) ∈ (s.entries.filterMap fun q => (victimKey q.2 p).map fun k => (q.1, k)) ↔
      ∃ f, s.entryAt k = some f ∧ victimKey f p = some key := by
    intro k key
    rw [List.mem_filterMap]
    constructor
    · rintro ⟨⟨k', f⟩, hf, h⟩
      obtain ⟨key', hk, h⟩ := Option.map_eq_some_iff.mp h
      cases h
      exact ⟨f, mem_entries.mp hf, hk⟩
    · rintro ⟨f, hf, hk⟩
      exact ⟨(k, f), mem_entries.mpr hf, Option.map_eq_some_iff.mpr ⟨key, hk, rfl⟩⟩
  have : pickLeast victimLess (s.entries.filterMap fun q => (victimKey q.2 p).map fun k => (q.1, k)) =
      some (i, (g', a, b)) := by
    refine pickLeast_numbered rise ((mem _ _).mpr ⟨e, he, hkey⟩) ?_ ?_ <;>
    · rintro k ⟨gk, c, d⟩ hk hlt
      obtain ⟨f, hf, hfk⟩ := (mem _ _).mp hk
      have hgf : evictionGroup p f = some gk := by rw [← victimKey_group, hfk]; rfl
      rcases hmin k f gk (by omega) hf hgf with h | ⟨rfl, h⟩
      · simp only [victimLess, Bool.or_eq_true, Bool.or_eq_false_iff, Bool.and_eq_true,
          Bool.and_eq_false_iff, decide_eq_true_eq, decide_eq_false_iff_not, beq_iff_eq, beq_eq_false_iff_ne]
        omega
      · rw [victimKey_chosenBefore hkey hfk] at h
        simp only [victimLess, Nat.lt_irrefl, decide_false, beq_self_eq_true, Bool.false_or, Bool.true_and,
          pairLess_eq_true, pairLess_eq_false]
        omega
  simp [State.findVictim, this]

/-- Where no entry is in a group of R30 for a newcomer, there is no victim (R32). -/
theorem State.findVictim_none {s : State} {p : Nat}
    (h : ∀ k f, s.entryAt k = some f → evictionGroup p f = none) : s.findVictim p = none := by
  have : (s.entries.filterMap fun q => (victimKey q.2 p).map fun k => (q.1, k)) = [] := by
    rw [List.filterMap_eq_nil_iff]
    rintro ⟨k, f⟩ hk
    have := h k f (mem_entries.mp hk)
    rw [← victimKey_group, Option.map_eq_none_iff] at this
    simp [this]
  simp [State.findVictim, this, pickLeast]

end Sys2Proof.Machine
end

