-- ==== Sys2Proof/Laws/Sidelink.lean ====
section
/-! SUPPORT. What the shared operations of the Sidelink Controller and the Relay Scheduler do, said once each:
the order of the send queue, placing, ending and cutting a job, emptying the stage, and the reports on jobs. -/

namespace Sys2Proof.Machine

/-! ### The send queue (R87) -/

/-- An inserted job stands after every job of its precedence or more and before the first of less. -/
theorem insertJob_split (job : Job) (l : List Job) :
    ∃ before after, l = before ++ after ∧ insertJob job l = before ++ job :: after
      ∧ (∀ j ∈ before, job.precedence ≤ j.precedence)
      ∧ ∀ j ∈ after.head?, j.precedence < job.precedence := by
  induction l with
  | nil => exact ⟨[], [], rfl, rfl, by simp, by simp⟩
  | cons j js ih =>
    by_cases h : j.precedence < job.precedence
    · exact ⟨[], j :: js, rfl, by simp [insertJob, h], by simp, by simpa using h⟩
    · obtain ⟨before, after, hl, hi, hb, ha⟩ := ih
      refine ⟨j :: before, after, by simp [hl], by simp [insertJob, h, hi], ?_, ha⟩
      intro x hx
      rcases List.mem_cons.mp hx with rfl | hx
      · exact Nat.not_lt.mp h
      · exact hb x hx

theorem insertJob_perm (job : Job) (l : List Job) : (insertJob job l).Perm (job :: l) := by
  obtain ⟨before, after, rfl, hi, -, -⟩ := insertJob_split job l
  rw [hi]; exact List.perm_middle

@[simp] theorem insertJob_length (job : Job) (l : List Job) : (insertJob job l).length = l.length + 1 := by
  simpa using (insertJob_perm job l).length_eq

/-- Insertion keeps the queue in precedence order. -/
theorem insertJob_pairwise (job : Job) {l : List Job}
    (h : l.Pairwise fun a b => b.precedence ≤ a.precedence) :
    (insertJob job l).Pairwise fun a b => b.precedence ≤ a.precedence := by
  induction l with
  | nil => simp [insertJob]
  | cons j js ih =>
    rw [List.pairwise_cons] at h
    unfold insertJob
    split
    · rename_i hlt
      rw [List.pairwise_cons]
      refine ⟨fun x hx => ?_, List.pairwise_cons.mpr h⟩
      rcases List.mem_cons.mp hx with rfl | hx
      · exact Nat.le_of_lt hlt
      · exact Nat.le_trans (h.1 x hx) (Nat.le_of_lt hlt)
    · rename_i hlt
      rw [List.pairwise_cons]
      refine ⟨fun x hx => ?_, ih h.2⟩
      rcases List.mem_cons.mp ((insertJob_perm job js).mem_iff.mp hx) with rfl | hx
      · exact Nat.not_lt.mp hlt
      · exact h.1 x hx

/-! ### Reports on jobs (R132, R140) -/

/-- A report on a RELAY job changes one entry's relay state, or nothing. -/
theorem State.relayReport_cases (s : State) (job : Job) (follows : RelayState → Bool) (next : RelayState) :
    (s.slotOf job.id = none ∧ s.relayReport job follows next = s)
      ∨ ∃ i, s.slotOf job.id = some i ∧ s.relayReport job follows next = s.modifyEntry i fun e =>
        if job.update = some e.relay.update ∧ follows e.relay.state = true then
          { e with relay := { e.relay with state := next } }
        else e := by
  unfold State.relayReport
  cases h : s.slotOf job.id with
  | none => exact .inl ⟨rfl, rfl⟩
  | some i => exact .inr ⟨i, rfl, rfl⟩

/-- A report on a TALLY job changes one entry's tally-send record, or nothing. -/
theorem State.tallyReport_cases (s : State) (job : Job) (follows : TallySendState → Bool)
    (f : TallySend → TallySend) :
    (s.slotOf job.id = none ∧ s.tallyReport job follows f = s)
      ∨ ∃ i, s.slotOf job.id = some i ∧ s.tallyReport job follows f = s.modifyEntry i fun e =>
        if follows e.tallySend.state = true then { e with tallySend := f e.tallySend } else e := by
  unfold State.tallyReport
  cases h : s.slotOf job.id with
  | none => exact .inl ⟨rfl, rfl⟩
  | some i => exact .inr ⟨i, rfl, rfl⟩

/-- Changing an entry touches the table only. -/
theorem State.modifyEntry_eq (s : State) (i : Nat) (f : Entry → Entry) :
    s.modifyEntry i f = s.withTable (s.modifyEntry i f).atc.table := rfl

/-- A report on a RELAY job touches the table only. -/
theorem State.relayReport_eq (s : State) (job : Job) (follows : RelayState → Bool) (next : RelayState) :
    s.relayReport job follows next = s.withTable (s.relayReport job follows next).atc.table := by
  rcases s.relayReport_cases job follows next with ⟨-, h⟩ | ⟨i, -, h⟩ <;> rw [h] <;> rfl

/-- A report on a TALLY job touches the table only. -/
theorem State.tallyReport_eq (s : State) (job : Job) (follows : TallySendState → Bool)
    (f : TallySend → TallySend) :
    s.tallyReport job follows f = s.withTable (s.tallyReport job follows f).atc.table := by
  rcases s.tallyReport_cases job follows f with ⟨-, h⟩ | ⟨i, -, h⟩ <;> rw [h] <;> rfl

/-- The report that a job ended touches the table only. -/
theorem State.reportEnded_eq (s : State) (job : Job) :
    s.reportEnded job = s.withTable (s.reportEnded job).atc.table := by
  unfold State.reportEnded
  cases job.kind with
  | relay =>
    dsimp only
    split
    · rfl
    · exact s.relayReport_eq _ _ _
  | tally => exact s.tallyReport_eq _ _ _

/-- A started tally wait touches the table only. -/
theorem State.startTallyWait_eq (s : State) (i : Nat) :
    s.startTallyWait i = s.withTable (s.startTallyWait i).atc.table := by
  unfold State.startTallyWait; split <;> rfl

/-- Changing an entry without changing its identity leaves every identity's slot as it was. -/
theorem State.slotOf_modifyEntry (s : State) (i : Nat) (f : Entry → Entry) (id : Identity)
    (h : ∀ e, (f e).id = e.id) : (s.modifyEntry i f).slotOf id = s.slotOf id := by
  have key : ∀ (l : List TableSlot) (k : Nat),
      (l.modify k fun sl => { sl with entry := sl.entry.map f }).findIdx?
          (fun sl => sl.entry.any fun e => e.id == id) =
        l.findIdx? fun sl => sl.entry.any fun e => e.id == id := by
    intro l
    induction l with
    | nil => intro k; simp
    | cons a l ih =>
      intro k
      cases k with
      | zero =>
        simp only [List.modify_zero_cons, List.findIdx?_cons]
        have : ((a.entry.map f).any fun e => e.id == id) = a.entry.any fun e => e.id == id := by
          cases a.entry <;> simp [h]
        rw [this]
      | succ k => simp only [List.modify_succ_cons, List.findIdx?_cons, ih k]
  exact key _ _

/-! ### Emptying, ending, cutting (R89, R100, R101) -/

@[simp] theorem State.emptyStage_stage (s : State) : s.emptyStage.slc.stage = [] := by
  unfold State.emptyStage; split <;> rfl

@[simp] theorem State.emptyStage_current (s : State) : s.emptyStage.slc.current = none := by
  unfold State.emptyStage; split <;> rfl

@[simp] theorem State.emptyStage_queue (s : State) : s.emptyStage.slc.queue = s.slc.queue := by
  unfold State.emptyStage; split <;> rfl

@[simp] theorem State.emptyStage_rxFifo (s : State) : s.emptyStage.slc.rxFifo = s.slc.rxFifo := by
  unfold State.emptyStage; split <;> rfl

/-- What emptying the stage leaves in the Sidelink Controller. -/
theorem State.emptyStage_slc (s : State) : s.emptyStage.slc = s.slc.emptied s.now := by
  unfold State.emptyStage Slc.emptied
  cases h : s.slc.medium <;> simp [State.withSlc, Medium.name, h]

/-- Emptying the stage touches the Sidelink Controller only. -/
theorem State.emptyStage_eq (s : State) : s.emptyStage = s.withSlc s.emptyStage.slc := by
  unfold State.emptyStage; split <;> rfl

/-- DEFER and CONTEND become IDLE; every other medium state stays. -/
theorem State.emptyStage_medium (s : State) :
    s.emptyStage.slc.medium =
      if s.slc.medium = .defer ∨ s.slc.medium.name = .contend then .idle else s.slc.medium := by
  unfold State.emptyStage
  cases h : s.slc.medium <;> simp [Medium.name, State.withSlc, h]

/-- What an ending leaves in the Sidelink Controller (R100). -/
theorem State.endJob_slc (s : State) (id : Identity) (kind : JobKind) :
    (s.endJob id kind).slc = s.slc.ending s.now id kind := by
  unfold State.endJob Slc.ending
  dsimp only [State.removeQueued, State.withQueue, State.withSlc, Job.named]
  cases hc : s.slc.current with
  | none => simp [Bool.beq_eq_decide_eq]
  | some c =>
    by_cases hn : c.job.id = id ∧ c.job.kind = kind
    · obtain ⟨rfl, rfl⟩ := hn
      by_cases ho : s.slc.medium.onAir = true
      · simp [State.endCurrent, ho, State.withCurrent, State.withSlc, Bool.beq_eq_decide_eq]
      · simp only [State.endCurrent, ho]
        rw [State.reportEnded_eq]
        simp [State.emptyStage_slc, State.withTable, Bool.beq_eq_decide_eq]
    · simp [hn, Bool.beq_eq_decide_eq]

/-- What a cut leaves in the Sidelink Controller (R101). -/
theorem State.cutJob_slc (s : State) (id : Identity) (kind : JobKind) :
    (s.cutJob id kind).slc = s.slc.cut s.now id kind := by
  unfold State.cutJob Slc.cut
  dsimp only [State.removeQueued, State.withQueue, State.withSlc, Job.named]
  cases hc : s.slc.current with
  | none => simp [Bool.beq_eq_decide_eq]
  | some c =>
    by_cases hn : c.job.id = id ∧ c.job.kind = kind ∧ c.won = false
    · simp [hn, State.emptyStage_slc, Bool.beq_eq_decide_eq]
    · simp [hn, Bool.beq_eq_decide_eq, and_assoc]

/-- Where neither the queue nor the current job is named, an ending changes nothing. -/
theorem State.endJob_none {s : State} {id : Identity} {kind : JobKind}
    (hq : ∀ j ∈ s.slc.queue, j.named id kind = false)
    (hc : ∀ c, s.slc.current = some c → c.job.named id kind = false) : s.endJob id kind = s := by
  have h : s.removeQueued id kind = s := by
    unfold State.removeQueued State.withQueue State.withSlc
    rw [List.filter_eq_self.mpr fun j hj => by simp [hq j hj]]
  unfold State.endJob
  rw [h]
  dsimp only
  split
  · rename_i c hcur; simp [hc c hcur]
  · rfl

/-- Where neither the queue nor the current job is named, a cut changes nothing. -/
theorem State.cutJob_none {s : State} {id : Identity} {kind : JobKind}
    (hq : ∀ j ∈ s.slc.queue, j.named id kind = false)
    (hc : ∀ c, s.slc.current = some c → c.job.named id kind = false) : s.cutJob id kind = s := by
  have h : s.removeQueued id kind = s := by
    unfold State.removeQueued State.withQueue State.withSlc
    rw [List.filter_eq_self.mpr fun j hj => by simp [hq j hj]]
  unfold State.cutJob
  rw [h]
  dsimp only
  split
  · rename_i c hcur; simp [hc c hcur]
  · rfl

/-- What placing a job can do (R87, R88): nothing, the job inserted, the lowest job displaced, or the job
dropped. -/
theorem State.placeJob_cases (s : State) (job : Job) :
    s.placeJob job = s
      ∨ (s.slc.queue.length < 12 ∧ s.placeJob job = s.withQueue (insertJob job s.slc.queue))
      ∨ (∃ lowest, s.slc.queue.getLast? = some lowest ∧ lowest.precedence < job.precedence
        ∧ s.placeJob job =
          ((s.withQueue (insertJob job s.slc.queue.dropLast)).setSendQueueFull).reportDropped lowest)
      ∨ s.placeJob job = s.setSendQueueFull.reportDropped job := by
  unfold State.placeJob
  split
  · exact .inl rfl
  · split
    · rename_i h; exact .inr (.inl ⟨h, rfl⟩)
    · cases hl : s.slc.queue.getLast? with
      | none => exact .inl rfl
      | some lowest =>
        dsimp only
        split
        · rename_i h; exact .inr (.inr (.inl ⟨lowest, rfl, h, rfl⟩))
        · exact .inr (.inr (.inr rfl))

/-! ### DEFER and JAMMED (R92, R106) -/

/-- What entering DEFER can come to: contention begins, the medium jams, or the SLC waits. -/
theorem State.enterDefer_cases (s : State) :
    (s.gapComplete = true ∧ s.enterDefer = (s.withMedium .defer).beginContention)
      ∨ (s.gapComplete = false ∧ (s.withMedium .defer).jamReached = true
        ∧ s.enterDefer = (s.withMedium .defer).enterJammed)
      ∨ (s.gapComplete = false ∧ (s.withMedium .defer).jamReached = false
        ∧ s.enterDefer = s.withMedium .defer) := by
  have hg : (s.withMedium .defer).gapComplete = s.gapComplete := rfl
  unfold State.enterDefer
  simp only [hg]
  cases h : s.gapComplete
  · cases hj : (s.withMedium .defer).jamReached
    · exact .inr (.inr ⟨rfl, rfl, by simp⟩)
    · exact .inr (.inl ⟨rfl, rfl, by simp⟩)
  · exact .inl ⟨rfl, by simp⟩

end Sys2Proof.Machine
end

