-- ==== Sys2Proof/Laws/Internal.lean ====
section
/-! SUPPORT. What every operation inside the part leaves alone: one relation, and one lemma for each shared
operation of the blocks. -/

namespace Sys2Proof.Machine

/-- What the operations inside the part leave as it was: the clock, the waiting commands, the position record,
the opt-in set, the category map, the number of table slots and assembly slots, the Feed Port, the receive
FIFO, the carrier input, Power Control, and the Application Link but for notices and flags. -/
structure Internal (s t : State) : Prop where
  now : t.now = s.now
  choice : t.choice = s.choice
  pending : t.pending = s.pending
  position : t.atc.position = s.atc.position
  optIn : t.atc.optIn = s.atc.optIn
  map : t.atc.map = s.atc.map
  table : t.atc.table.length = s.atc.table.length
  slots : t.sa.slots.length = s.sa.slots.length
  fp : t.fp = s.fp
  rxFifo : t.slc.rxFifo = s.slc.rxFifo
  carrier : t.slc.carrier = s.slc.carrier
  pwc : t.pwc = s.pwc
  config : t.al.config = s.al.config
  response : t.al.response = s.al.response
  participation : t.al.participation = s.al.participation
  resetLine : t.al.resetLine = s.al.resetLine

namespace Internal

theorem refl (s : State) : Internal s s := by constructor <;> rfl

theorem trans {s t u : State} (h : Internal s t) (k : Internal t u) : Internal s u := by
  constructor
  · exact k.now.trans h.now
  · exact k.choice.trans h.choice
  · exact k.pending.trans h.pending
  · exact k.position.trans h.position
  · exact k.optIn.trans h.optIn
  · exact k.map.trans h.map
  · exact k.table.trans h.table
  · exact k.slots.trans h.slots
  · exact k.fp.trans h.fp
  · exact k.rxFifo.trans h.rxFifo
  · exact k.carrier.trans h.carrier
  · exact k.pwc.trans h.pwc
  · exact k.config.trans h.config
  · exact k.response.trans h.response
  · exact k.participation.trans h.participation
  · exact k.resetLine.trans h.resetLine

theorem ite {s t u : State} {p : Prop} [Decidable p] (h : Internal s t) (k : Internal s u) :
    Internal s (if p then t else u) := by split <;> assumption

/-- A fold of internal operations is internal. -/
theorem foldl {α : Type} {f : State → α → State} (h : ∀ s a, Internal s (f s a)) (l : List α) (s : State) :
    Internal s (l.foldl f s) := by
  induction l generalizing s with
  | nil => exact refl s
  | cons a l ih => exact (h s a).trans (ih _)

end Internal

variable (s : State)

/-! ### Table, notices, flags -/

theorem internal_modifySlot (i : Nat) (f : TableSlot → TableSlot) : Internal s (s.modifySlot i f) := by
  constructor <;> simp

theorem internal_modifyEntry (i : Nat) (f : Entry → Entry) : Internal s (s.modifyEntry i f) :=
  internal_modifySlot s i _

theorem internal_mapEntries (f : Entry → Entry) : Internal s (s.mapEntries f) := by
  constructor <;> simp

theorem internal_setMalformed : Internal s s.setMalformed := by constructor <;> rfl
theorem internal_setTableFull : Internal s s.setTableFull := by constructor <;> rfl
theorem internal_setPoolExhausted : Internal s s.setPoolExhausted := by constructor <;> rfl
theorem internal_setSendQueueFull : Internal s s.setSendQueueFull := by constructor <;> rfl

theorem internal_queueNotice (n : Notice) : Internal s (s.queueNotice n) := by
  rw [State.queueNotice_eq]; constructor <;> rfl

theorem internal_withTu (x : Tu) : Internal s (s.withTu x) := by constructor <;> rfl

theorem internal_withSlc {x : Slc} (hr : x.rxFifo = s.slc.rxFifo) (hc : x.carrier = s.slc.carrier) :
    Internal s (s.withSlc x) := by
  constructor <;> first | rfl | assumption

theorem internal_withMedium (m : Medium) : Internal s (s.withMedium m) := by constructor <;> rfl
theorem internal_withCurrent (c : Option CurrentJob) : Internal s (s.withCurrent c) := by constructor <;> rfl
theorem internal_withQueue (q : List Job) : Internal s (s.withQueue q) := by constructor <;> rfl

theorem internal_withSlots {l : List (Option Slot)} (h : l.length = s.sa.slots.length) :
    Internal s (s.withSlots l) := by
  constructor <;> first | rfl | assumption

/-! ### Sidelink (chapter 5) -/

theorem internal_relayReport (job : Job) (follows : RelayState → Bool) (next : RelayState) :
    Internal s (s.relayReport job follows next) := by
  rcases s.relayReport_cases job follows next with ⟨-, h⟩ | ⟨i, -, h⟩ <;> rw [h]
  · exact .refl s
  · exact internal_modifyEntry s i _

theorem internal_tallyReport (job : Job) (follows : TallySendState → Bool) (f : TallySend → TallySend) :
    Internal s (s.tallyReport job follows f) := by
  rcases s.tallyReport_cases job follows f with ⟨-, h⟩ | ⟨i, -, h⟩ <;> rw [h]
  · exact .refl s
  · exact internal_modifyEntry s i _

theorem internal_startTallyWait (i : Nat) : Internal s (s.startTallyWait i) :=
  Internal.ite (internal_modifyEntry s i _) (.refl s)

theorem internal_tallySent (i : Nat) : Internal s (s.tallySent i) := by
  unfold State.tallySent
  split
  · exact .refl s
  · split
    · dsimp only
      split
      · exact (internal_modifyEntry s i _).trans (internal_startTallyWait _ i)
      · exact internal_modifyEntry s i _
    · exact .refl s

theorem internal_reportStaged (job : Job) : Internal s (s.reportStaged job) := by
  unfold State.reportStaged; split
  · exact internal_relayReport s _ _ _
  · exact internal_tallyReport s _ _ _

theorem internal_reportWon (job : Job) : Internal s (s.reportWon job) := by
  unfold State.reportWon; split
  · exact internal_relayReport s _ _ _
  · exact internal_tallyReport s _ _ _

theorem internal_reportCompleted (job : Job) : Internal s (s.reportCompleted job) := by
  unfold State.reportCompleted; split
  · exact internal_relayReport s _ _ _
  · split
    · exact .refl s
    · exact internal_tallySent s _

theorem internal_reportDropped (job : Job) : Internal s (s.reportDropped job) := by
  unfold State.reportDropped; split
  · exact internal_relayReport s _ _ _
  · exact internal_tallyReport s _ _ _

theorem internal_reportEnded (job : Job) : Internal s (s.reportEnded job) := by
  unfold State.reportEnded; split
  · split
    · exact .refl s
    · exact internal_relayReport s _ _ _
  · exact internal_tallyReport s _ _ _

theorem internal_giveUpAtStaging (job : Job) : Internal s (s.giveUpAtStaging job) := by
  unfold State.giveUpAtStaging; split
  · exact internal_relayReport s _ _ _
  · exact internal_tallyReport s _ _ _

theorem internal_stageBurst (c : CurrentJob) : Internal s (s.stageBurst c) := by constructor <;> rfl

theorem internal_beginSlot (key : BitVec 16) (slot : Nat) : Internal s (s.beginSlot key slot) := by
  unfold State.beginSlot; dsimp only; split <;> constructor <;> rfl

theorem internal_beginContention : Internal s s.beginContention := by
  unfold State.beginContention
  refine Internal.trans ?_ (internal_beginSlot _ _ _)
  constructor <;> rfl

theorem internal_enterJammed : Internal s s.enterJammed :=
  (internal_withMedium s _).trans (internal_queueNotice _ _)

theorem internal_enterDefer : Internal s s.enterDefer := by
  rcases s.enterDefer_cases with ⟨-, h⟩ | ⟨-, -, h⟩ | ⟨-, -, h⟩ <;> rw [h]
  · exact (internal_withMedium s _).trans (internal_beginContention _)
  · exact (internal_withMedium s _).trans (internal_enterJammed _)
  · exact internal_withMedium s _

theorem internal_stageFirst (job : Job) : Internal s (s.stageFirst job) := by
  unfold State.stageFirst; dsimp only
  have h := (internal_stageBurst s ⟨job, job.frames, false, false⟩).trans (internal_reportStaged _ job)
  split
  · exact h.trans (internal_enterDefer _)
  · exact h

theorem internal_takeFrom (l : List Job) : Internal s (s.takeFrom l) := by
  induction l generalizing s with
  | nil => exact internal_withQueue s []
  | cons job rest ih =>
    unfold State.takeFrom; split
    · exact (internal_giveUpAtStaging s job).trans (ih _)
    · exact (internal_withQueue s rest).trans (internal_stageFirst _ job)

theorem internal_takeHead : Internal s s.takeHead := Internal.ite (internal_takeFrom s _) (.refl s)

theorem internal_placeJob (job : Job) : Internal s (s.placeJob job) := by
  rcases s.placeJob_cases job with h | ⟨-, h⟩ | ⟨lowest, -, -, h⟩ | h <;> rw [h]
  · exact .refl s
  · exact internal_withQueue s _
  · exact ((internal_withQueue s _).trans (internal_setSendQueueFull _)).trans (internal_reportDropped _ _)
  · exact (internal_setSendQueueFull s).trans (internal_reportDropped _ _)

theorem internal_emptyStage : Internal s s.emptyStage := by
  unfold State.emptyStage; split <;> constructor <;> rfl

theorem internal_endCurrent (c : CurrentJob) : Internal s (s.endCurrent c) := by
  unfold State.endCurrent; split
  · exact internal_withCurrent s _
  · exact (internal_emptyStage s).trans (internal_reportEnded _ _)

theorem internal_endJob (id : Identity) (kind : JobKind) : Internal s (s.endJob id kind) := by
  unfold State.endJob; dsimp only
  have h : Internal s (s.removeQueued id kind) := internal_withQueue s _
  split
  · split
    · exact h.trans (internal_endCurrent _ _)
    · exact h
  · exact h

theorem internal_cutJob (id : Identity) (kind : JobKind) : Internal s (s.cutJob id kind) := by
  unfold State.cutJob; dsimp only
  have h : Internal s (s.removeQueued id kind) := internal_withQueue s _
  split
  · split
    · exact h.trans (internal_emptyStage _)
    · exact h
  · exact h

/-! ### Relaying (chapter 7) -/

theorem internal_countDuplicate (i hop : Nat) : Internal s (s.countDuplicate i hop) := by
  unfold State.countDuplicate; split
  · exact .refl s
  · dsimp only
    split
    · exact ((internal_modifyEntry s i _).trans (internal_modifyEntry _ i _)).trans (internal_cutJob _ _ _)
    · exact internal_modifyEntry s i _

theorem internal_dirtyReport (i : Nat) : Internal s (s.dirtyReport i) := by
  unfold State.dirtyReport; split
  · exact .refl s
  · split
    · exact internal_startTallyWait s i
    · exact .refl s
    · exact .refl s
    · exact internal_modifyEntry s i _
    · exact internal_modifyEntry s i _

theorem internal_coveredReport (i : Nat) : Internal s (s.coveredReport i) := by
  unfold State.coveredReport; split
  · exact .refl s
  · split
    · exact internal_modifyEntry s i _
    · exact (internal_modifyEntry s i _).trans (internal_cutJob _ _ _)
    · exact (internal_modifyEntry s i _).trans (internal_cutJob _ _ _)
    · exact internal_modifyEntry s i _
    · exact internal_modifyEntry s i _

theorem internal_restartTallyWait (i : Nat) : Internal s (s.restartTallyWait i) := by
  unfold State.restartTallyWait; split
  · exact .refl s
  · exact Internal.ite (internal_startTallyWait s i) (.refl s)

theorem internal_stopSends (i : Nat) (id : Identity) : Internal s (s.stopSends i id) :=
  ((internal_modifyEntry s i _).trans (internal_endJob _ _ _)).trans (internal_endJob _ _ _)

/-! ### Tallies and reports (chapters 8 and 9) -/

theorem internal_testReportDue (i : Nat) : Internal s (s.testReportDue i) := by
  unfold State.testReportDue; split
  · exact .refl s
  · exact Internal.ite (internal_withTu s _) (.refl s)

theorem internal_reportDone (o : Outstanding) : Internal s (s.reportDone o) := by
  unfold State.reportDone; dsimp only; split
  · exact ((internal_withTu s _).trans (internal_modifyEntry _ _ _)).trans (internal_testReportDue _ _)
  · exact internal_withTu s _

theorem internal_addOwnTag (i : Nat) : Internal s (s.addOwnTag i) := by
  unfold State.addOwnTag; split
  · exact .refl s
  · dsimp only
    split
    · exact .refl s
    · exact ((internal_modifyEntry s i _).trans (internal_dirtyReport _ i)).trans (internal_testReportDue _ i)

theorem internal_mergeInto (i : Nat) (received : Tally) : Internal s (s.mergeInto i received) := by
  unfold State.mergeInto; split
  · exact .refl s
  · dsimp only
    refine Internal.trans ?_ (internal_testReportDue _ i)
    split
    · exact (internal_modifyEntry s i _).trans (internal_coveredReport _ i)
    · exact (internal_modifyEntry s i _).trans (internal_dirtyReport _ i)

theorem internal_takeTally (t : TallySegment) : Internal s (s.takeTally t) := by
  unfold State.takeTally; split
  · exact .refl s
  · exact internal_mergeInto s _ _

/-! ### Presentation (chapter 4) -/

theorem internal_computeArea (i : Nat) : Internal s (s.computeArea i) := internal_modifyEntry s i _

theorem internal_enterPresenting (i : Nat) : Internal s (s.enterPresenting i) :=
  (internal_modifyEntry s i _).trans (internal_queueNotice _ _)

theorem internal_enterAcknowledged (i : Nat) : Internal s (s.enterAcknowledged i) := by
  unfold State.enterAcknowledged
  refine Internal.trans (Internal.trans ?_ (internal_modifyEntry _ i _)) (internal_addOwnTag _ i)
  constructor <;> rfl

theorem internal_startRelay (i : Nat) : Internal s (s.startRelay i) := internal_modifyEntry s i _

theorem internal_leaveCollecting (i : Nat) : Internal s (s.leaveCollecting i) := by
  unfold State.leaveCollecting; dsimp only
  have h := internal_computeArea s i
  split
  · exact h
  · refine (h.trans ?_).trans (internal_startRelay _ i)
    split
    · exact internal_enterPresenting _ i
    · exact internal_modifyEntry _ i _
    · exact internal_enterAcknowledged _ i

theorem internal_reevaluateSlot (i : Nat) : Internal s (s.reevaluateSlot i) := by
  unfold State.reevaluateSlot; split
  · exact .refl s
  · exact Internal.ite (internal_enterPresenting s i) (.refl s)

theorem internal_reevaluate : Internal s s.reevaluate := Internal.foldl internal_reevaluateSlot _ s

/-! ### Assembly (chapter 3) -/

theorem internal_discardSlots (p : Slot → Bool) : Internal s (s.discardSlots p) :=
  internal_withSlots s (by simp)

theorem internal_textLost (key : SlotKey) : Internal s (s.textLost key) := by
  unfold State.textLost; split
  · exact .refl s
  · exact internal_modifyEntry s _ _

theorem internal_discardSlot (n : Nat) : Internal s (s.discardSlot n) := by
  unfold State.discardSlot; split
  · exact .refl s
  · dsimp only
    have h : Internal s (s.withSlots (s.sa.slots.set n none)) := internal_withSlots s (by simp)
    split
    · exact h.trans (internal_textLost _ _)
    · exact h

theorem internal_leaveIfComplete (i : Nat) : Internal s (s.leaveIfComplete i) := by
  unfold State.leaveIfComplete; split
  · exact .refl s
  · exact Internal.ite (internal_leaveCollecting s i) (.refl s)

theorem internal_completeSlot (n : Nat) (sl : Slot) (i : Nat) : Internal s (s.completeSlot n sl i) :=
  (internal_withSlots s (by simp)).trans (internal_modifyEntry _ i _)

theorem internal_afterStore (n : Nat) : Internal s (s.afterStore n) := by
  unfold State.afterStore; split
  · exact .refl s
  · split
    · split
      · exact .refl s
      · exact (internal_completeSlot s n _ _).trans (internal_leaveIfComplete _ _)
    · exact .refl s

theorem internal_reclaimText {t : State} (h : s.reclaimText = some t) : Internal s t := by
  unfold State.reclaimText at h
  split at h
  · cases h
  · simp only [Option.map_eq_some_iff] at h
    obtain ⟨x, -, rfl⟩ := h
    exact internal_modifyEntry s _ _

theorem internal_takeLowestSlot {precedence : Nat} {t : State} (h : s.takeLowestSlot precedence = some t) :
    Internal s t := by
  unfold State.takeLowestSlot at h
  split at h
  · split at h
    · cases h; exact internal_discardSlot s _
    · cases h
  · cases h

theorem internal_obtainBlock {precedence : Nat} {t : State} (h : s.obtainBlock precedence = some t) :
    Internal s t ∧ 0 < t.freeBlocks := by
  unfold State.obtainBlock at h
  split at h
  · rename_i hf; cases h; exact ⟨.refl s, hf⟩
  · simp only [Option.filter_eq_some_iff, decide_eq_true_eq] at h
    refine ⟨?_, h.2⟩
    have h1 := h.1
    unfold State.reclaim at h1
    split at h1
    · rename_i hr; cases h1; exact internal_reclaimText s hr
    · exact internal_takeLowestSlot s h1

theorem internal_storeIn (n : Nat) (seg : TextSegment) : Internal s (s.storeIn n seg) :=
  internal_withSlots s (by simp)

theorem internal_joinSlot (n : Nat) (seg : TextSegment) : Internal s (s.joinSlot n seg) := by
  unfold State.joinSlot; split
  · exact .refl s
  · split
    · exact internal_setMalformed s
    · split
      · exact .refl s
      · split
        · exact internal_setPoolExhausted s
        · rename_i hb
          exact ((internal_obtainBlock s hb).1.trans (internal_storeIn _ n seg)).trans
            (internal_afterStore _ n)

theorem internal_textStarted (key : SlotKey) : Internal s (s.textStarted key) := by
  unfold State.textStarted; split
  · exact .refl s
  · exact internal_modifyEntry s _ _

theorem internal_openSlot (seg : TextSegment) (bound : Bool) (precedence : Nat) :
    Internal s (s.openSlot seg bound precedence) := by
  unfold State.openSlot; split
  · exact .refl s
  · rename_i s1 hr
    have h1 : Internal s s1 := by
      unfold State.reserveSlot at hr
      split at hr
      · cases hr; exact .refl s
      · exact internal_takeLowestSlot s hr
    split
    · exact .refl s
    · split
      · exact h1.trans (internal_setPoolExhausted s1)
      · rename_i s2 hb
        have h2 (n : Nat) (x : Option Slot) : Internal s (s2.withSlots (s2.sa.slots.set n x)) :=
          (h1.trans (internal_obtainBlock s1 hb).1).trans (internal_withSlots s2 (by simp))
        dsimp only
        split
        · exact ((h2 _ _).trans (internal_textStarted _ _)).trans (internal_afterStore _ _)
        · exact (h2 _ _).trans (internal_afterStore _ _)

theorem internal_toUnbound (seg : TextSegment) : Internal s (s.toUnbound seg) := by
  unfold State.toUnbound; split
  · exact internal_joinSlot s _ seg
  · exact internal_openSlot s seg _ _

theorem internal_toCollecting (e : Entry) (seg : TextSegment) : Internal s (s.toCollecting e seg) := by
  unfold State.toCollecting; split
  · exact internal_setMalformed s
  · split
    · exact .refl s
    · exact .refl s
    · split
      · exact internal_joinSlot s _ seg
      · exact .refl s
    · exact Internal.ite (internal_openSlot s seg _ _) (internal_setMalformed s)

theorem internal_takeText (seg : TextSegment) : Internal s (s.takeText seg) := by
  unfold State.takeText; split
  · exact internal_toUnbound s seg
  · exact Internal.ite (.refl s) (Internal.ite (internal_toUnbound s seg)
      (Internal.ite (internal_toCollecting s _ seg) (.refl s)))

theorem internal_bindSlot (i n : Nat) : Internal s (State.bindSlot i s n) := by
  unfold State.bindSlot; split
  · split
    · split
      · exact (internal_withSlots s (by simp)).trans (internal_modifyEntry _ i _)
      · exact (internal_withSlots s (by simp)).trans (internal_setMalformed _)
    · exact .refl s
  · exact .refl s

theorem internal_completeBound (i text : Nat) : Internal s (State.completeBound i s text) := by
  unfold State.completeBound; split
  · exact .refl s
  · split
    · exact .refl s
    · split
      · exact .refl s
      · exact Internal.ite (internal_completeSlot s _ _ i) (.refl s)

theorem internal_bindSlots (i : Nat) : Internal s (s.bindSlots i) :=
  ((Internal.foldl (fun s n => internal_bindSlot s i n) _ s).trans
    (Internal.foldl (fun s n => internal_completeBound s i n) _ _)).trans (internal_leaveIfComplete _ i)

/-! ### The alert table (chapter 2) -/

theorem internal_removeEntry (i : Nat) : Internal s (s.removeEntry i) :=
  (internal_withTu s _).trans (internal_modifySlot _ i _)

theorem internal_evict (i : Nat) (e : Entry) : Internal s (s.evict i e) :=
  (((internal_endJob s _ _).trans (internal_endJob _ _ _)).trans (internal_discardSlots _ _)).trans
    ((internal_withTu _ _).trans (internal_modifySlot _ i _))

theorem internal_fillEntry (i : Nat) (h : HeaderSegment) (origin : Origin) (st : EntryState) :
    Internal s (s.fillEntry i h origin st) := by
  unfold State.fillEntry
  refine Internal.trans ?_ (internal_modifyEntry _ i _)
  constructor <;> rfl

theorem internal_createEntry (i : Nat) (h : HeaderSegment) (origin : Origin) (rssi : Option Int)
    (st : EntryState) : Internal s (s.createEntry i h origin rssi st) :=
  (internal_modifySlot s i _).trans (internal_fillEntry _ i h origin st)

theorem internal_makeRoom {newcomer : Nat} {t : State} {i : Nat} (h : s.makeRoom newcomer = some (t, i)) :
    Internal s t := by
  unfold State.makeRoom at h
  split at h
  · cases h; exact .refl s
  · split at h
    · cases h
    · simp only [Option.map_eq_some_iff, Prod.mk.injEq] at h
      obtain ⟨e, -, rfl, rfl⟩ := h
      exact internal_evict s _ e

theorem internal_dropNewcomer (id : Identity) : Internal s (s.dropNewcomer id) :=
  ((internal_discardSlots s _).trans (internal_setTableFull _)).trans (internal_queueNotice _ _)

theorem internal_newAlert (h : HeaderSegment) (origin : Origin) (rssi : Option Int) :
    Internal s (s.newAlert h origin rssi) := by
  unfold State.newAlert; split
  · exact internal_dropNewcomer s _
  · rename_i hr
    exact (((internal_makeRoom s hr).trans (internal_createEntry _ _ h origin rssi _)).trans
      (internal_discardSlots _ _)).trans (internal_bindSlots _ _)

theorem internal_newCancel (h : HeaderSegment) (origin : Origin) (rssi : Option Int) :
    Internal s (s.newCancel h origin rssi) := by
  unfold State.newCancel; split
  · exact internal_dropNewcomer s _
  · rename_i hr
    exact ((((internal_makeRoom s hr).trans (internal_createEntry _ _ h origin rssi _)).trans
      (internal_discardSlots _ _)).trans (internal_startRelay _ _)).trans (internal_testReportDue _ _)

theorem internal_supersede (i : Nat) (e : Entry) (h : HeaderSegment) (origin : Origin) (rssi : Option Int) :
    Internal s (s.supersede i e h origin rssi) := by
  unfold State.supersede
  refine Internal.trans ?_ (internal_bindSlots _ i)
  split <;> first | refine Internal.trans ?_ (internal_queueNotice _ _) | skip
  all_goals
    refine Internal.trans ?_ (internal_fillEntry _ i h origin _)
    refine Internal.trans ?_ (internal_restartTallyWait _ i)
    refine Internal.trans ?_ (internal_modifyEntry _ i _)
    exact (internal_discardSlots s _).trans (internal_endJob _ _ _)

theorem internal_cancelEntry (i : Nat) (e : Entry) (h : HeaderSegment) (origin : Origin) (rssi : Option Int) :
    Internal s (s.cancelEntry i e h origin rssi) := by
  unfold State.cancelEntry
  refine Internal.trans ?_ ((internal_startRelay _ i).trans (internal_testReportDue _ i))
  split <;> first | refine Internal.trans ?_ (internal_queueNotice _ _) | skip
  all_goals
    refine Internal.trans ?_ (internal_fillEntry _ i h origin _)
    refine Internal.trans ?_ (internal_modifyEntry _ i _)
    exact (internal_discardSlots s _).trans (internal_endJob _ _ _)

theorem internal_takeHeader (h : HeaderSegment) (origin : Origin) (rssi : Option Int) :
    Internal s (s.takeHeader h origin rssi) := by
  unfold State.takeHeader; split
  · split
    · exact internal_newAlert s h origin rssi
    · exact internal_newCancel s h origin rssi
  · split
    · exact .refl s
    · split
      · exact .refl s
      · split
        · exact .refl s
        · exact internal_countDuplicate s _ _
      · exact internal_supersede s _ _ h origin rssi
      · exact internal_cancelEntry s _ _ h origin rssi

theorem internal_abandonTexts (i : Nat) (id : Identity) : Internal s (s.abandonTexts i id) :=
  (internal_discardSlots s _).trans (internal_modifyEntry _ i _)

theorem internal_reachCollectLimit (i : Nat) (e : Entry) : Internal s (s.reachCollectLimit i e) :=
  ((internal_abandonTexts s i _).trans (internal_modifyEntry _ i _)).trans (internal_leaveCollecting _ i)

theorem internal_expireEntry (i : Nat) (e : Entry) : Internal s (s.expireEntry i e) := by
  unfold State.expireEntry
  refine Internal.trans ?_ (internal_testReportDue _ i)
  split <;> first | refine Internal.trans ?_ (internal_queueNotice _ _) | skip
  all_goals
    refine Internal.trans ?_ (internal_modifyEntry _ i _)
    refine Internal.trans ?_ (internal_stopSends _ i _)
    split
    · exact internal_abandonTexts s i e.id
    · exact .refl s

end Sys2Proof.Machine
end

