-- ==== Sys2Proof/Laws/Tallies.lean ====
section
/-! SUPPORT. What the shared operations on tallies do: bucket and rank in range, one fold, one insertion. -/

namespace Sys2Proof.Machine

theorem tagBucket_lt (t : Tag) : tagBucket t < 32 := Nat.mod_lt _ (by decide)

theorem tagRank_le (t : Tag) : tagRank t ≤ 16 := by
  unfold tagRank
  dsimp only
  split
  · exact Nat.le_refl _
  · exact Nat.min_le_left _ _

theorem tagRank_pos (t : Tag) : 1 ≤ tagRank t := by
  unfold tagRank
  dsimp only
  split <;> omega

@[simp] theorem foldTag_length (ranks : List Nat) (t : Tag) : (foldTag ranks t).length = ranks.length := by
  simp [foldTag]

/-- A fold raises its own bucket to the tag's rank, and no other bucket. -/
theorem foldTag_getD (ranks : List Nat) (t : Tag) (b : Nat) :
    (foldTag ranks t).getD b 0 =
      if b = tagBucket t ∧ b < ranks.length then max (ranks.getD b 0) (tagRank t) else ranks.getD b 0 := by
  simp only [foldTag, List.getD_eq_getElem?_getD, List.getElem?_set]
  by_cases hb : tagBucket t = b
  · subst hb
    by_cases hl : tagBucket t < ranks.length
    · simp [hl]
    · simp [hl]
  · have : ¬ b = tagBucket t := fun h => hb h.symm
    simp [hb, this]

/-- A fold never lowers a rank. -/
theorem foldTag_mono (ranks : List Nat) (t : Tag) (b : Nat) : ranks.getD b 0 ≤ (foldTag ranks t).getD b 0 := by
  rw [foldTag_getD]; split
  · exact Nat.le_max_left _ _
  · exact Nat.le_refl _

/-- An inserted tag and the tags that were there, and no others. -/
@[simp] theorem mem_insertTag {x t : Tag} {l : List Tag} : x ∈ insertTag t l ↔ x = t ∨ x ∈ l := by
  induction l with
  | nil => simp [insertTag]
  | cons y ys ih =>
    unfold insertTag
    split
    · simp
    · simp [ih]; tauto

@[simp] theorem insertTag_length (t : Tag) (l : List Tag) : (insertTag t l).length = l.length + 1 := by
  induction l with
  | nil => rfl
  | cons y ys ih => unfold insertTag; split <;> simp [ih]

end Sys2Proof.Machine
end

