-- ==== Sys2Proof/Tests/Slice0.lean ====
section
/-! SUPPORT. The model's own tests: a refused term for each check of WellFormed; one or two steps' outcomes
for each command, with the values of the manual's worked examples; and, for each statement with hypotheses, a
concrete state and operands that meet them. -/

-- One theorem after another: the threads of many at once do not fit in the memory a check may take.
set_option Elab.async false

namespace Sys2Proof.Tests

open Sys2Proof Sys2Proof.Machine

/-! ### Well-formedness: an ill-formed term for each check -/

theorem test_wellFormed_refuses :
    (Instr.configure ⟨some 1, [], none, none, none, none, none, none, none, some true⟩).wellFormed = false
      ∧ (Instr.frameReceived ⟨1, 1, List.replicate 256 0, 0⟩ 0).wellFormed = false
      ∧ (Instr.collectLimit 32).wellFormed = false ∧ (Instr.lifetimeExpiry 32).wellFormed = false
      ∧ (Instr.lingerExpiry 32).wellFormed = false ∧ (Instr.assemblyLimit 8).wellFormed = false
      ∧ (Instr.relayWaitExpiry 32).wellFormed = false ∧ (Instr.tallyWaitExpiry 32).wellFormed = false
      ∧ (Instr.feedMessageOtherKind 1 0 []).wellFormed = false
      ∧ (Instr.feedMessageOtherKind 5 0 []).wellFormed = false := by decide +kernel

theorem test_wellFormed_accepts :
    (Instr.frameReceived ⟨1, 1, List.replicate 255 0, 0⟩ 0).wellFormed = true
      ∧ (Instr.collectLimit 31).wellFormed = true ∧ (Instr.assemblyLimit 7).wellFormed = true
      ∧ (Instr.feedMessageOtherKind 0 0 []).wellFormed = true
      ∧ (Instr.feedMessageOtherKind 6 0 []).wellFormed = true := by decide +kernel

/-! ### Layouts and arithmetic: the manual's worked values -/

/-- The header taken apart in section 1.3. -/
def exampleHeader : HeaderSegment :=
  ⟨⟨0x0123, 0x2A17⟩, 2, .alert, 1, 3, 90, [0x30A205, 0x30A400], [⟨0x11A6, 3⟩, ⟨0x49E0, 2⟩]⟩

/-- Its 21 bytes. -/
def exampleBytes : List Byte :=
  [0x01, 0x23, 0x2A, 0x17, 0x02, 0x13, 0x00, 0x5A, 0x22, 0x30, 0xA2, 0x05, 0x30, 0xA4, 0x00,
    0x11, 0xA6, 0x03, 0x49, 0xE0, 0x02]

theorem test_header_example : readHeader exampleBytes = some exampleHeader := by decide +kernel

theorem test_header_malformed :
    readHeader (exampleBytes.set 8 0x20) = none ∧ readHeader (exampleBytes ++ [0]) = none := by
  decide +kernel

/-- The check value of R10, for the nine ASCII bytes 1 to 9. -/
theorem test_crc : crc [0x31, 0x32, 0x33, 0x34, 0x35, 0x36, 0x37, 0x38, 0x39] = 0x29B1 := by
  decide +kernel

/-- The area test's example (section 1.8). -/
theorem test_areaTest :
    let p := some (0x30A205 : ZoneCode)
    zoneTest p 0 = .inside ∧ zoneTest p 0x300000 = .inside ∧ zoneTest p 0x340000 = .outside
      ∧ zoneTest p 0x30A000 = .inside ∧ zoneTest p 0x30A400 = .outside ∧ zoneTest p 0x30A205 = .inside
      ∧ zoneTest p 0x30A206 = .outside ∧ zoneTest (some 0x30A000) 0x30A205 = .unknown
      ∧ zoneTest (some 0x30A000) 0x30A403 = .outside := by decide +kernel

/-- The counts of the worked cases of section 8.5. -/
theorem test_tallyCount :
    let a := List.replicate 20 0 ++ List.replicate 8 1 ++ List.replicate 3 2 ++ [3]
    let b := List.replicate 4 3 ++ List.replicate 10 4 ++ List.replicate 10 5 ++ List.replicate 8 6
    let c := (List.replicate 32 1).set 9 0
    tallyCount (.sketch a 0) = 15 ∧ tallyCount (.sketch b 25) = 456 ∧ tallyCount (.sketch c 25) = 111
      ∧ tallyCount (.sketch (c.set 9 1) 25) = 44 := by decide +kernel

/-- The waits of section 7.4 and of the worked sequences. -/
theorem test_waits :
    let r (o : Origin) (l : Option Int) : RelayRecord := ⟨.none, 1, o, 3, l, 0⟩
    relayWaitMillis .normal 0x12345680 0x2A17 (r .peer (some (-72))) = 522
      ∧ relayWaitMillis .normal 0x12345680 0x2A17 (r .cell none) = 498
      ∧ relayWaitMillis .normal 0x12345680 0x2A17 (r .peer (some (-30))) = 778
      ∧ relayWaitMillis .normal 0x12345680 0x2A17 (r .peer (some (-118))) = 218
      ∧ relayWaitMillis .fast 0x12345680 0x2A17 (r .peer (some (-72))) = 342
      ∧ tallyWaitMillis 0x12345680 0x2A17 = 1419 := by decide +kernel

/-! ### States -/

/-- A configuration with the manual's station tag and the defaults, doze enabled. -/
def cfg : Settings := ⟨0x12345680, 4, 2, 500, 10, 800, 30, 10, true⟩

/-- A configured part at rest, 10 s after its clock began. -/
def live : State :=
  { State.reset with
    now := 10000000
    slc := { State.reset.slc with medium := .idle, quietSince := some 0 }
    pwc := { State.reset.pwc with hold := .running 20000000 }
    fp := { State.reset.fp with modemReady := true }
    al := { State.reset.al with config := some cfg } }

/-- An entry that is PRESENTING, with one COMPLETE text of two segments and one tag. -/
def alert : Entry where
  id := ⟨0x0123, 0x2A17⟩
  update := 2
  action := .alert
  category := 2
  precedence := 10
  origin := .peer
  zones := [0x30A400]
  area := .outside
  texts := [⟨0x11A6, 2, .complete [⟨List.replicate 96 0x41⟩, ⟨[0x42]⟩]⟩]
  lifetimeEnd := 1810000000
  state := .presenting
  presented := true
  ownAck := false
  partialMark := false
  accepted := 1
  acked := none
  relay := ⟨.none, 2, .peer, 4, some (-72), 1⟩
  tallySend := freshTallySend
  tally := .list [0x0000F3A0]
  lastReported := 0

/-- The entry with another relay state. -/
def relaying (r : RelayState) : Entry := { alert with relay := { alert.relay with state := r } }

/-- A part whose table slot 0, of generation 5, holds an entry. -/
def holding (e : Entry) (s : State := live) : State :=
  { s with atc := { s.atc with table := ⟨5, some e⟩ :: List.replicate 31 ⟨0, none⟩ } }

/-- A part in another medium state. -/
def heard (m : Medium) (s : State := live) : State := { s with slc := { s.slc with medium := m } }

/-- A part with another zone hold time, in minutes. -/
def zoneHeld (minutes : Nat) : State :=
  { live with al := { live.al with config := some { cfg with zoneHold := minutes } } }

/-- A part with a position. -/
def placed (z : ZoneCode) (src : PositionSource) (s : State := live) : State :=
  { s with atc := { s.atc with position := some ⟨z, src, 9000000⟩ } }

/-- The relay job of the entry, current, its header staged. -/
def relayingPart (m : Medium) (won endMark : Bool) (left : List FrameRef) (r : RelayState) : State :=
  let s := holding (relaying r)
  { s with slc := { s.slc with
    medium := m
    quietSince := if m.sending then none else some 9998000
    stage := [makeFrame 1 0x12345680 exampleBytes]
    current := some
      ⟨⟨alert.id, .relay, 10, some 2, relayFrames alert, 9000000⟩, left, endMark, won⟩ } }

/-- A part with a frame in its receive FIFO. -/
def received (kind : Byte) (body : List Byte) (s : State := live) : State :=
  { s with slc := { s.slc with rxFifo := [⟨makeFrame kind 0x00B12A04 body, -60⟩] } }

/-- A part with a segment in its page FIFO. -/
def paged (kind : PageKind) (segment : List Byte) (s : State := live) : State :=
  { s with fp := { s.fp with pageFifo := [⟨kind, segment⟩] } }

/-- A part with a full table, an identity of its own in each slot and the given states, and a header waiting. -/
def full (st : Nat → EntryState) : State :=
  let s := paged .header exampleBytes
  { s with atc := { s.atc with table := (List.range 32).map fun k =>
    ⟨0, some { alert with id := ⟨0x0200, BitVec.ofNat 16 k⟩, precedence := 12, state := st k }⟩ } }

/-- A part with an outstanding report of count 12 for slot 0, and slot 0's element not queued. -/
def reported (s : State) : State :=
  { s with
    fp := { s.fp with coverage := true }
    tu := ⟨[], some ⟨alert.id, ⟨0, 5⟩, 12, 15000000⟩⟩ }

/-- A part in DOZE, with its next sample window at 10.5 s. -/
def dozing (warmUp : Option Micros) (window : Option Window) : State :=
  { live with
    slc := { live.slc with medium := .dozeSampling, quietSince := none }
    pwc := ⟨.doze, .runOut, warmUp, if warmUp = none then some 10500000 else none, window⟩ }

/-- The state a command answers. -/
def after (c : Instr) (s : State) : State :=
  match exec c s with
  | .next t => t
  | _ => State.reset

/-- A segment of text 0, with a payload of one byte where it is the last. -/
def segment (update index count : Nat) : TextSegment :=
  ⟨alert.id, update, 0, index, count, if index + 1 = count then [0x43] else List.replicate 96 0x43⟩

/-! ### Commands of the application link -/

theorem test_powerOnReset :
    (after (.powerOnReset true) (holding alert)).entryAt 0 = none
      ∧ (after (.powerOnReset true) (holding alert)).genAt 0 = 0
      ∧ (after (.powerOnReset true) live).fp.modemReady = true
      ∧ (after (.powerOnReset true) live).al.config = none := by decide +kernel

/-- Section 10.10: a default hold limit with a listen interval of 2000 ms is taken as 2100 ms. -/
theorem test_configure :
    let r : ConfigRecord :=
      ⟨some 0x12345680, List.replicate 16 none, none, none, some 2000, none, none, none, none, some true⟩
    let t := after (.configure r) State.reset
    t.settings.holdLimit = 2100 ∧ t.slc.medium = .idle ∧ t.pwc.hold = .running 10000000
      ∧ t.readyLine = true := by decide +kernel

/-- Section 4.7: an IN-AREA entry that was OUTSIDE is presented when the position moves into its zone. -/
theorem test_setPosition :
    let t := after (.setPosition 0x30A458)
      (holding { alert with state := .held, presented := false } (placed 0x30A205 .application))
    (t.entryAt 0).map Entry.area = some .inside ∧ (t.entryAt 0).map Entry.state = some .presenting
      ∧ t.al.notices = [.present ⟨0, 5⟩] := by decide +kernel

theorem test_clearPosition :
    let t := after .clearPosition (holding alert (placed 0x30A205 .application))
    t.atc.position = none ∧ (t.entryAt 0).map Entry.area = some .unknown := by decide +kernel

theorem test_setOptIn :
    let e : Entry := { alert with state := .held, category := 5, area := .inside, presented := false }
    ((after (.setOptIn 0xFFDF) (holding e)).entryAt 0).map Entry.state = some .held
      ∧ ((after (.setOptIn 0x0020) (holding e)).entryAt 0).map Entry.state = some .presenting := by
  decide +kernel

theorem test_setParticipation :
    let t := after (.setParticipation .listenOnly)
      (relayingPart .defer false false [] .staged)
    t.slc.stage = [] ∧ t.slc.medium = .idle ∧ t.slc.current = none
      ∧ (t.entryAt 0).map (fun e => e.relay.state) = some .withheld := by decide +kernel

/-- Section 8.5: the own tag as the 25th converts the tally, with floor 25. -/
theorem test_acknowledge :
    let tags := (List.range 24).map fun n => BitVec.ofNat 32 (n + 1)
    let t := after (.acknowledge ⟨0, 5⟩) (holding { alert with tally := .list tags })
    (t.entryAt 0).map Entry.state = some .acknowledged
      ∧ (t.entryAt 0).map (fun e => tallyMode e.tally) = some .sketch
      ∧ ((t.entryAt 0).map fun e => decide (25 ≤ tallyCount e.tally)) = some true := by decide +kernel

theorem test_readAlert :
    (match (after (.readAlert ⟨0, 5⟩) (holding alert)).al.response with
      | some (.summary r) => some (r.lifetime, r.count, r.texts)
      | _ => none) = some (1800, 1, [(0x11A6, .complete 97)]) := by decide +kernel

theorem test_readText :
    (after (.readText ⟨0, 5⟩ 0 95 10) (holding alert)).al.response = some (.text [0x41, 0x42])
      ∧ (after (.readText ⟨0, 4⟩ 0 0 1) (holding alert)).al.response = some (.refused .staleHandle) := by
  decide +kernel

theorem test_listAlerts :
    (after .listAlerts (holding alert)).al.response = some (.alerts [(⟨0, 5⟩, .presenting)]) := by
  decide +kernel

theorem test_fetchNotice :
    let s := live.withNotices [.coverageChanged, .tableFull]
    (after .fetchNotice s).al.response = some (.notice (some .coverageChanged))
      ∧ (after .fetchNotice s).al.notices = [.tableFull] := by decide +kernel

theorem test_readStatus :
    (match (after .readStatus (holding alert)).al.response with
      | some (.status r) => some (r.freeBlocks, r.entries, r.medium)
      | _ => none) = some (126, 1, .idle) := by decide +kernel

theorem test_clearFlags :
    (after (.clearFlags ⟨true, false, false, false, false, false, false⟩)
        live.setRxOverrun.setDamaged).al.flags = ⟨false, true, false, false, false, false, false⟩ := by
  decide +kernel

theorem test_restartLink :
    (after .restartLink ((holding alert).withNotices [.tableFull])).al.notices = [.present ⟨0, 5⟩] := by
  decide +kernel

theorem test_responseRead :
    let s := live.withResponse (some .done)
    (after .responseRead s).out.link = some (.response .done) ∧ (after .responseRead s).al.response = none
      ∧ (after .responseRead live).out.link = some .empty := by decide +kernel

theorem test_linkResetLine :
    let t := after .linkResetLineAsserted (live.withResponse (some .done))
    t.al.response = none ∧ (after .readStatus t).al.response = none
      ∧ (after .linkResetLineReleased t).al.resetLine = false := by decide +kernel

/-- Section 10.10: before CONFIGURE a SET POSITION is refused, and the next command is answered BUSY. -/
theorem test_unconfigured :
    let t := after (.setPosition 0x30A205) State.reset
    t.al.response = some (.refused .notConfigured) ∧ (after (.setOptIn 0) t).out.link = some .busy := by
  decide +kernel

theorem test_unknownCommand :
    (after .unknownCommand State.reset).al.response = some (.refused .badArgument) := by decide +kernel

/-! ### The feed port -/

theorem test_page :
    let s : State := { live with fp := { live.fp with pageFifo := List.replicate 7 ⟨.header, []⟩ } }
    let t := after (.page .text 1 [7]) s
    t.fp.pageFifo.length = 8 ∧ t.readyLine = false ∧ (after (.page .text 1 [7]) t).al.flags.rxOverrun = true
      ∧ (after (.page .text 1 [7]) t).fp.pageFifo.length = 8 := by decide +kernel

/-- Section 4.7: a serving zone coarser than an APPLICATION position is ignored; section 9.7: the block is
cleared. -/
theorem test_coverage :
    let s := placed 0x30A205 .application
    let t := after (.coverage 4 [1, 0x30, 0xA4, 0x00])
      { s with fp := { s.fp with blocked := true } }
    t.atc.position = s.atc.position ∧ t.fp.coverage = true ∧ t.fp.blocked = false
      ∧ t.al.notices = [.coverageChanged] := by decide +kernel

/-- Section 9.7: REPORT DONE credits the count the report carried, not the count now. -/
theorem test_reportDone :
    let tags := (List.range 14).map fun n => BitVec.ofNat 32 (n + 1)
    let t := after (.reportDone 4 [0x01, 0x23, 0x2A, 0x17])
      (reported (holding { alert with tally := .list tags }))
    (t.entryAt 0).map Entry.lastReported = some 12 ∧ t.tu.outstanding = none ∧ t.tu.reportQueue = [] := by
  decide +kernel

theorem test_reportRefused :
    let t := after (.reportRefused 4 [0x01, 0x23, 0x2A, 0x17]) (reported (holding alert))
    t.tu = ⟨[0], none⟩ ∧ t.fp.blocked = true := by decide +kernel

theorem test_answerTimerExpiry :
    let t := after .answerTimerExpiry (reported (holding alert))
    t.tu = ⟨[0], none⟩ ∧ t.fp.blocked = true ∧ t.now = 15000000 := by decide +kernel

theorem test_modemReady :
    let t := after .modemReadyDrop (reported (holding alert (paged .header [])))
    t.tu = ⟨[0], none⟩ ∧ t.fp = ⟨[], false, false, true⟩ ∧ t.al.notices = [.coverageChanged]
      ∧ (after .modemReadyRise t).fp.modemReady = true := by decide +kernel

/-- The header of section 1.3 with the hop limit 4: hop budget 3, lifetime 90 min, category 1. -/
theorem test_pageFifoProcess :
    let t := after .pageFifoProcess (paged .header exampleBytes)
    (t.entryAt 0).map (fun e => (e.relay.hop, e.lifetimeEnd, e.precedence)) = some (3, 5410000000, 12)
      ∧ (t.entryAt 0).map Entry.state = some (.collecting 310000000) ∧ t.genAt 0 = 1 := by decide +kernel

/-- R20, R30: of two HELD entries of one precedence accepted at one instant the lower slot is the victim; its
generation rises by one. -/
theorem test_eviction_tie :
    let st (k : Nat) : EntryState := if k = 3 ∨ k = 6 then .held else .presenting
    let t := after .pageFifoProcess (full st)
    t.genAt 3 = 1 ∧ t.genAt 6 = 0 ∧ (t.entryAt 3).map Entry.id = some exampleHeader.id := by decide +kernel

theorem test_feedMessageOtherKind :
    (after (.feedMessageOtherKind 9 0 []) live).al.flags.malformed = true := by decide +kernel

/-! ### The sidelink -/

theorem test_frameReceived :
    let f := makeFrame 1 0x00B12A04 exampleBytes
    (after (.frameReceived f (-10)) (heard .receive)).slc.rxFifo = [⟨f, -20⟩]
      ∧ (after (.frameReceived { f with check := 0 } (-10)) (heard .receive)).al.flags.damaged = true := by
  decide +kernel

/-- Section 8.4: the second and third rows of the three stations' example. -/
theorem test_rxFifoProcess :
    let e : Entry := { alert with tally := .list [0x0000F3A0, 0x12345680],
                                  tallySend := ⟨.waiting 11000000, none, false⟩ }
    let frame (tags : List Tag) := tallyBytes ⟨alert.id, .list tags⟩
    let b := after .rxFifoProcess (received 3 (frame [0x0000F3A0, 0x2222AB01]) (holding e))
    let c := after .rxFifoProcess (received 3 (frame [0x0000F3A0, 0x12345680, 0x2222AB01]) (holding e))
    (b.entryAt 0).map (fun e => (tallyCount e.tally, e.tallySend.state)) = some (3, .waiting 11000000)
      ∧ (c.entryAt 0).map (fun e => (tallyCount e.tally, e.tallySend.state)) = some (3, .idle) := by
  decide +kernel

theorem test_carrier :
    let t := after .carrierBegin (relayingPart (.contend 0xAE80 2 10000100) false false [] .staged)
    t.slc.medium = .defer ∧ t.slc.losses = 1 ∧ t.slc.busyStart = some 10000000
      ∧ (after (.carrierEnd 0) t).slc.quietSince = some 10000000 := by decide +kernel

theorem test_syncDetected :
    (after .syncDetected live).slc.medium = .receive
      ∧ (after (.carrierEnd 3) (after .syncDetected live)).al.flags.damaged = true := by decide +kernel

/-- Section 5.5: station A's key, and a mark tone in its first slot. -/
theorem test_quietGapComplete :
    let t := after .quietGapComplete (relayingPart .defer false false [] .staged)
    t.slc.medium = .contend 0xAE80 1 10000100 ∧ t.out.air = [.markTone 1] := by decide +kernel

theorem test_holdLimitReached :
    let s := heard .receive
    let t := after .holdLimitReached
      { s with slc := { s.slc with busyStart := some 9500000, quietSince := none } }
    t.slc.medium = .jammed ∧ t.now = 10300000 ∧ t.al.notices = [.mediumJammed] := by decide +kernel

/-- A win after more than 5 s of quiet: a LONG preamble of 520 ms, 519 pairs and the 1 ms sync, and the relay
SENDING. -/
theorem test_contentionSlotEnd :
    let t := after .contentionSlotEnd (relayingPart (.contend 0xAE80 16 10000100) false false [] .staged)
    t.slc.medium = .preamble .long 10520100 ∧ (t.entryAt 0).map (fun e => e.relay.state) = some .sending
      ∧ t.out.air = [.preamble .long [.pairs 519 500 500, .sync 1000]] := by decide +kernel

/-- Section 5.5: a header with a 21-byte body is 928 µs on the air. -/
theorem test_preambleEnd :
    (after .preambleEnd (relayingPart (.preamble .long 10520100) true false [] .sending)).slc.medium
      = .send 10521028 := by decide +kernel

theorem test_burstCompletion :
    let t := after .burstCompletion (relayingPart (.send 10521028) true false [] .sending)
    t.slc.medium = .idle ∧ t.slc.current = none ∧ t.slc.lastActivity = some 10521028
      ∧ (t.entryAt 0).map (fun e => e.relay.state) = some .done := by decide +kernel

/-! ### Timers -/

theorem test_collectLimit :
    let t := after (.collectLimit 0)
      (holding { alert with state := .collecting 12000000, texts := [⟨0x11A6, 2, .collecting⟩],
                            presented := false })
    (t.entryAt 0).map (fun e => (e.state, e.partialMark, e.texts)) =
      some (.presenting, true, [⟨0x11A6, 2, .absent⟩]) := by decide +kernel

/-- R44, R46: a linger of 120 s, and then the slot is empty. -/
theorem test_lifetimeAndLinger :
    let t := after (.lifetimeExpiry 0) (holding alert)
    (t.entryAt 0).map Entry.state = some (.expired 1930000000) ∧ t.al.notices = [.expired ⟨0, 5⟩]
      ∧ (after (.lingerExpiry 0) t).entryAt 0 = none ∧ (after (.lingerExpiry 0) t).genAt 0 = 5 := by
  decide +kernel

theorem test_positionStale :
    let t := after .positionStale (placed 0x30A205 .feed)
    t.atc.position = none ∧ t.now = 1809000000 := by decide +kernel

/-- No stale position is read (R68): with a zone hold of 1 min the position is NONE at the decision 300 s after
creation, and a status read at the instant of staleness reports none. -/
theorem test_stalePositionUnread :
    let s := placed 0x340000 .feed
      (holding { alert with state := .collecting 310000000, presented := false } (zoneHeld 1))
    let t := after (.collectLimit 0) s
    (s.entryAt 0).map Entry.area = some .outside ∧ t.atc.position = none ∧ t.now = 310000000
      ∧ (t.entryAt 0).map (fun e => (e.area, e.state)) = some (.unknown, .presenting)
      ∧ (match (after .readStatus { s with now := 69000000 }).al.response with
        | some (.status r) => some r.position
        | _ => none) = some none
      ∧ (match (after .readStatus { s with now := 68999999 }).al.response with
        | some (.status r) => some (r.position.map PositionReport.age)
        | _ => none) = some (some 59) := by decide +kernel

theorem test_assemblyLimit :
    let s := after .pageFifoProcess (paged .text (textBytes (segment 2 0 2)))
    s.slotAt 0 ≠ none ∧ (after (.assemblyLimit 0) s).slotAt 0 = none
      ∧ (after (.assemblyLimit 0) s).now = 70000000 := by decide +kernel

/-- Section 7.9: the header goes with hop 3; the queued job is taken and its first burst staged. -/
theorem test_relayWaitExpiry :
    let t := after (.relayWaitExpiry 0) (holding (relaying (.waiting 10522000)))
    (t.entryAt 0).map (fun e => e.relay.state) = some .staged ∧ t.slc.stage.length = 3
      ∧ (t.slc.stage.head?.bind fun f => (readHeader f.body).map fun h => (h.hop, h.lifetime)) = some (3, 29) := by
  decide +kernel

theorem test_tallyWaitExpiry :
    let t := after (.tallyWaitExpiry 0)
      (holding { alert with tallySend := ⟨.waiting 11419000, none, false⟩ })
    (t.entryAt 0).map (fun e => e.tallySend.state) = some .staged
      ∧ t.slc.stage = [makeFrame 3 0x12345680 (tallyBytes ⟨alert.id, alert.tally⟩)] := by decide +kernel

/-! ### Power Control: the example of section 6.7 -/

theorem test_awakeHoldRunOut :
    let t := after .awakeHoldRunOut live
    t.pwc = ⟨.doze, .runOut, none, some 20500000, none⟩ ∧ t.slc.medium = .dozeSampling := by decide +kernel

theorem test_sampleWindow :
    let t := after .sampleWindowOpen (dozing none none)
    t.pwc.nextWindow = some 11000000 ∧ t.pwc.window = some ⟨10500000, 0, .waiting⟩
      ∧ (after .sampleWindowClose t).pwc.window = none ∧ (after .sampleWindowClose t).now = 10508000 := by
  decide +kernel

theorem test_wakePattern :
    (after .wakePattern (dozing none (some ⟨9994000, 5, .space 9999500⟩))).pwc.warmUp = some 10002000 := by
  decide +kernel

/-- R116: no pattern without six pairs, nor where the sixth lies past the window; a window opened at 9.992 s ends
at 10 s. -/
theorem test_wakePattern_none :
    (∀ w ∈ [(⟨9994000, 0, .waiting⟩ : Window), ⟨9994000, 4, .space 9999500⟩, ⟨9992000, 5, .space 9999601⟩],
        after .wakePattern (dozing none (some w)) = dozing none (some w))
      ∧ (after .wakePattern (dozing none (some ⟨9992000, 5, .space 9999600⟩))).pwc.warmUp = some 10002000 := by
  decide +kernel

theorem test_warmUpEnd :
    let t := after .warmUpEnd (dozing (some 10002000) none)
    t.pwc.power = .awake ∧ t.pwc.hold = .running 20002000 ∧ t.slc.medium = .idle := by decide +kernel

/-! ### Witnesses: for each statement with hypotheses, a state and operands that meet them -/

theorem no_slots {s : State} (h : s.sa = State.reset.sa) (n : Nat) : s.slotAt n = none := by
  simp only [State.slotAt, h, State.reset, List.getElem?_replicate]
  split <;> rfl

theorem only_slot_zero {e x : Entry} {s : State} {k : Nat} (h : (holding e s).entryAt k = some x) :
    k = 0 ∧ x = e := by
  cases k with
  | zero => exact ⟨rfl, by simpa [State.entryAt, holding] using h.symm⟩
  | succ k =>
    simp only [State.entryAt, holding, List.getElem?_cons_succ, List.getElem?_replicate] at h
    split at h <;> simp at h

theorem witness_StepTakesFrontCommand :
    ({ live with pending := [.readStatus] } : State).pending = .readStatus :: [] := rfl

theorem witness_IdleStepTakesDueEventOrTicks :
    live.pending = [] ∧ live.dueTimers = [] ∧ live.dueFifos = [] := by decide +kernel

theorem witness_HeaderSegmentRoundTrip :
    let big : HeaderSegment := ⟨⟨0x0FFF, 0xFFFF⟩, 15, .cancel, 15, 7, 65535,
      List.replicate 8 0xFFFFFF, List.replicate 4 ⟨0x7FFF, 8⟩⟩
    ∀ h ∈ [exampleHeader, big], headerOk h = true ∧ h.update < 16 ∧ h.category < 16 ∧ h.hop < 8
      ∧ h.lifetime < 65536 := by decide +kernel

theorem witness_TextAndTallySegmentRoundTrip :
    (∀ t ∈ [segment 15 0 8, segment 0 7 8, ⟨alert.id, 1, 3, 0, 1, List.replicate 96 0xFF⟩],
        textOk t = true ∧ t.update < 16 ∧ t.text < 4)
      ∧ ∀ t ∈ [Tally.list [], .list ((List.range 24).map fun n => BitVec.ofNat 32 (n + 1)),
          .sketch (List.replicate 32 16) 25], originatorOk alert.id = true ∧ tallyOk t = true := by
  decide +kernel

theorem witness_FrameCheckDetectsOneWrongByte : (0x00 : Byte) ≠ 0xFF := by decide

/-- What the statement about relayed headers asks of an entry at 10 s, as a check. -/
def relayable (e : Entry) : Bool :=
  originatorOk e.id && e.update < 16 && e.category < 16 && 1 ≤ e.relay.hop && e.relay.hop ≤ 7
    && 1 ≤ e.zones.length && e.zones.length ≤ 8 && e.zones.all zoneOk && e.texts.length ≤ 4
    && (e.action != .alert || !e.texts.isEmpty) && e.texts.all (fun t => 1 ≤ t.count && t.count ≤ 8)
    && 60 ≤ e.remaining 10000000 && e.lifetimeEnd ≤ 10000000 + seconds 86400

theorem witness_RelayedHeaderIsWellFormed :
    relayable { alert with lifetimeEnd := 70000000 } = true
      ∧ relayable { alert with lifetimeEnd := 86410000000, action := .cancel, texts := [] } = true := by
  decide +kernel

theorem witness_AreaTestAndAreaResult :
    zoneOk 0x30A205 = true ∧ zoneOk 0 = true ∧ zoneOk 0x30A000 = true
      ∧ (∀ p : ZoneCode, some (0x30A205 : ZoneCode) = some p → zoneOk p = true)
      ∧ ∀ z : ZoneCode, z ∈ [0x30A205, 0x30A000] ↔ z ∈ [0x30A000, 0x30A205, 0x30A000] := by
  refine ⟨by decide, by decide, by decide, ?_, ?_⟩
  · rintro p ⟨⟩; decide
  · intro z; simp; tauto

theorem witness_BucketAndRankOfTag :
    (0x00000011 : Tag).toNat / 32 = 0 ∧ (0x00000020 : Tag).toNat / 32 ≠ 0 := by decide

theorem witness_MergeOfListIntoSketch :
    zeroRanks.length = 32 ∧ tagBucket 0x2222AB01 = 1 := by decide

theorem witness_MergeOfSketch : zeroRanks.length = 32 := by decide

theorem witness_MergeHoldsBothAndCoveredTest :
    ∀ t ∈ [Tally.list [0x0000F3A0], .list ((List.range 24).map fun n => BitVec.ofNat 32 (n + 30)),
      .sketch zeroRanks 25], tallyOk t = true := by decide +kernel

theorem witness_EstimateAndCountOfTally :
    zeroRanks.length = 32 ∧ (∀ r ∈ zeroRanks, r ≤ 16) ∧ (List.replicate 32 16).length = 32
      ∧ (∀ r ∈ List.replicate 32 16, r ≤ 16)
      ∧ (∀ b < 32, zeroRanks.getD b 0 ≤ (List.replicate 32 16).getD b 0)
      ∧ (5 : Tag) ∉ [(4 : Tag)] ∧ tallyOk (.list [4]) = true ∧ tallyOk (.sketch zeroRanks 25) = true
      ∧ 45 ≤ rankSum zeroRanks
      ∧ (∀ v ∈ [0, 1, 31, 32], let ranks := List.replicate v 0 ++ List.replicate (32 - v) 1
        ranks.length = 32 ∧ (∀ r ∈ ranks, r ≤ 16) ∧ rawEstimate ranks ≤ 80 ∧ ranks.count 0 = v)
      ∧ 80 < rawEstimate (List.replicate 32 16) := by decide +kernel

theorem witness_ContentionKeyFields : (15 : Nat) ≤ 15 ∧ (1 : Nat) ≤ 1 ∧ (3 : Nat) ≤ 3 := by decide

theorem witness_WaitTimes :
    let r : RelayRecord := ⟨.none, 1, .peer, 3, some (-110), 0⟩
    let r' : RelayRecord := { r with rssi := some (-40) }
    r.origin = .peer ∧ r'.origin = .peer ∧ r.rssi = some (-110) ∧ r'.rssi = some (-40)
      ∧ (-110 : Int) ≤ -40 ∧ (⟨.none, 1, .cell, 3, none, 0⟩ : RelayRecord).origin = .cell := by decide

theorem witness_ConfigurationAsTaken :
    let low : ConfigRecord := ⟨some 1, [], some 0, some 1, some 100, some 2, some 200, some 1, some 1, some true⟩
    let high : ConfigRecord :=
      ⟨some 1, [], some 7, some 7, some 2000, some 60, some 3000, some 120, some 1000, some true⟩
    (∀ r ∈ [low, high],
        (∃ n ∈ r.hopLimit, n ≤ 7) ∧ (∃ n ∈ r.threshold, 1 ≤ n ∧ n ≤ 7)
          ∧ (∃ n ∈ r.listenInterval, 100 ≤ n ∧ n ≤ 2000) ∧ (∃ n ∈ r.awakeHold, 2 ≤ n ∧ n ≤ 60)
          ∧ (∃ n ∈ r.holdLimit, (takenSettings r 1 true).listenInterval + 100 ≤ n ∧ n ≤ 3000)
          ∧ (∃ n ∈ r.zoneHold, 1 ≤ n ∧ n ≤ 120) ∧ (∃ n ∈ r.reportStep, 1 ≤ n ∧ n ≤ 1000))
      ∧ (⟨some 1, [], none, none, none, none, none, none, none, some true⟩ : ConfigRecord).holdLimit = none
      ∧ (let below : ConfigRecord :=
          ⟨some 1, [], some 8, some 0, some 99, some 1, some 199, some 0, some 0, some true⟩
        (∃ n ∈ below.hopLimit, 7 < n) ∧ (∃ n ∈ below.threshold, n < 1) ∧ (∃ n ∈ below.listenInterval, n < 100)
          ∧ (∃ n ∈ below.awakeHold, n < 2)
          ∧ (∃ n ∈ below.holdLimit, n < (takenSettings below 1 true).listenInterval + 100)
          ∧ (∃ n ∈ below.zoneHold, n < 1) ∧ ∃ n ∈ below.reportStep, n < 1)
      ∧ (let above : ConfigRecord :=
          ⟨some 1, [], none, some 8, some 2001, some 61, some 3001, some 121, some 1001, some true⟩
        (∃ n ∈ above.threshold, 7 < n) ∧ (∃ n ∈ above.listenInterval, 2000 < n)
          ∧ (∃ n ∈ above.awakeHold, 60 < n) ∧ (∃ n ∈ above.holdLimit, 3000 < n)
          ∧ (∃ n ∈ above.zoneHold, 120 < n) ∧ ∃ n ∈ above.reportStep, 1000 < n) := by
  simp only [List.forall_mem_cons]; simp; decide +kernel

/-- The state `live` with one command waiting completes a step and meets every invariant that is kept. -/
theorem witness_invariants :
    let s : State := { holding alert (placed 0x30A205 .feed) with pending := [.readStatus] }
    (∃ t, step s = .next t) ∧ s.unconfiguredOk ∧ s.positionOk ∧ s.noticesOk ∧ s.fifosOk ∧ s.queueOk ∧ s.tableOk
      ∧ s.talliesOk ∧ s.tagOk
      ∧ s.poolOk ∧ s.reportsOk ∧ s.modesOk ∧ s.sidelinkOk := by
  refine ⟨⟨_, rfl⟩, nofun, ?_, ?_, ?_, ?_, ?_, ?_, ?_, ?_, ?_, ?_, ?_⟩
  · rintro p ⟨⟩; decide
  · unfold State.noticesOk; decide +kernel
  · unfold State.fifosOk; decide +kernel
  · unfold State.queueOk; decide +kernel
  · unfold State.tableOk; decide +kernel
  · unfold State.talliesOk; decide +kernel
  · rintro c ⟨⟩; decide
  · unfold State.poolOk; decide +kernel
  · unfold State.reportsOk; decide +kernel
  · unfold State.modesOk; decide +kernel
  · unfold State.sidelinkOk; decide +kernel

theorem witness_UnconfiguredPartHoldsPowerOnState :
    State.reset.unconfiguredOk ∧ State.reset.al.config = none ∧ ∃ t, step State.reset = .next t := by
  exact ⟨by unfold State.unconfiguredOk; decide +kernel, rfl, ⟨State.reset.tick, by rfl⟩⟩

theorem witness_ConfigurationFixedOnceTaken :
    (∀ m, Instr.readStatus ≠ .powerOnReset m) ∧ live.al.config = some cfg
      ∧ ∃ t, exec .readStatus live = .next t := ⟨by simp, rfl, ⟨_, rfl⟩⟩

/-- A header of update 3 for the entry, from a peer. -/
def newer (action : Action) : HeaderSegment :=
  ⟨alert.id, 3, action, 2, 4, 20, [0x30A400], if action = .alert then [⟨0x11A6, 2⟩] else []⟩

theorem witness_UpdateNumberNeverDecreases :
    let s := received 1 (headerBytes (newer .alert)) (holding alert)
    (∃ t, exec .rxFifoProcess s = .next t) ∧ s.entryAt 0 = some alert
      ∧ ((after .rxFifoProcess s).entryAt 0).map Entry.update = some 3
      ∧ s.genAt 0 = (after .rxFifoProcess s).genAt 0 := by
  refine ⟨⟨_, rfl⟩, ?_⟩; decide +kernel

theorem witness_PresentingEntryStaysInTheTable :
    (∃ t, exec (.lifetimeExpiry 0) (holding alert) = .next t) ∧ (holding alert).entryAt 0 = some alert
      ∧ alert.state = .presenting := ⟨⟨_, rfl⟩, rfl, rfl⟩

/-- A part under LISTEN-ONLY. -/
def listening (s : State := live) : State := { s with al := { s.al with participation := .listenOnly } }

theorem witness_ListenOnlyPartStaysSilent :
    listening.sidelinkOk ∧ listening.al.participation = .listenOnly ∧ listening.slc.current = none
      ∧ (∃ t, exec .readStatus listening = .next t)
      ∧ (after .readStatus listening).al.participation = .listenOnly := by
  refine ⟨by unfold State.sidelinkOk; decide +kernel, rfl, rfl, ⟨_, rfl⟩, by decide +kernel⟩

theorem witness_RefusedCommandChangesNothing :
    let c := Instr.readAlert ⟨0, 4⟩
    isCommand c = true ∧ (holding alert).settled = true ∧ (holding alert).linkFree = true
      ∧ (after c (holding alert)).al.response = some (.refused .staleHandle) := by decide +kernel

/-- A part with its link reset line asserted. -/
def lineOn : State := { live with al := { live.al with resetLine := true } }

theorem witness_CommandTransferNotTaken :
    isCommand .clearPosition = true ∧ lineOn.settled = true ∧ lineOn.al.resetLine = true
      ∧ (live.withResponse (some .done)).settled = true ∧ live.al.resetLine = false
      ∧ State.reset.settled = true ∧ State.reset.linkFree = true ∧ State.reset.al.config = none
      ∧ live.pwc.power = .awake ∧ live.al.config = some cfg
      ∧ (dozing none none).settled = true ∧ (dozing none none).pwc.power = .doze
      ∧ (dozing none none).pwc.warmUp = none := by decide +kernel

/-- A configuration record with one category given, at the highest precedence. -/
def record : ConfigRecord :=
  ⟨some 1, some ⟨15, some .silent, some .none⟩ :: List.replicate 15 none, none, none, none, none, none, none,
    none, some true⟩

theorem witness_ConfigureCompletes :
    State.reset.unconfiguredOk ∧ State.reset.al.config = none ∧ State.reset.linkFree = true
      ∧ record.stationTag = some 1 ∧ (1 : Tag) ≠ 0 ∧ record.dozeEnabled = some true
      ∧ record.categories.length = 16
      ∧ (∀ a : CategoryArg, some a ∈ record.categories →
        a.precedence ≤ 15 ∧ a.presentation.isSome = true ∧ a.relay.isSome = true)
      ∧ State.reset.settled = true
      ∧ (some ⟨16, some .silent, some .none⟩ : Option CategoryArg)
          ∈ [(some ⟨16, some .silent, some .none⟩ : Option CategoryArg)]
      ∧ live.settled = true ∧ live.al.config = some cfg ∧ live.linkFree = true := by
  refine ⟨by unfold State.unconfiguredOk; decide +kernel, rfl, rfl, rfl, by decide, rfl, rfl, ?_, ?_⟩
  · intro a ha
    simp only [record, List.mem_cons, Option.some.injEq, List.mem_replicate] at ha
    rcases ha with rfl | ⟨-, h⟩
    · decide
    · cases h
  · decide +kernel

theorem witness_commands_at_rest :
    (∀ s ∈ [live, holding alert, placed 0x30A205 .feed, listening],
        s.settled = true ∧ s.linkFree = true ∧ s.al.config = some cfg)
      ∧ zoneOk 0x30A205 = true ∧ zoneOk 0x000001 = false ∧ live.atc.position = none
      ∧ (placed 0x30A205 .feed).atc.position = some ⟨0x30A205, .feed, 9000000⟩ := by decide +kernel

theorem witness_SetParticipationCompletes :
    (∀ s ∈ [live, listening, relayingPart .defer false false [] .staged,
          relayingPart (.send 10521028) true false [] .sending],
        s.settled = true ∧ s.linkFree = true ∧ s.al.config = some cfg)
      ∧ live.al.participation = .full ∧ live.slc.queue = [] ∧ listening.al.participation = .listenOnly
      ∧ (relayingPart .defer false false [] .staged).slc.medium.onAir = false
      ∧ (relayingPart (.send 10521028) true false [] .sending).slc.medium.onAir = true := by decide +kernel

theorem witness_handles :
    (31 : Nat) < 32 ∧ live.entryAt 31 = none ∧ (holding alert).genAt 0 ≠ 4 ∧ (holding alert).genAt 0 = 5
      ∧ (∀ st ∈ [EntryState.presenting, .held, .acknowledged, .cancelled, .collecting 20000000,
            .expired 20000000],
          (holding { alert with state := st }).settled = true
            ∧ (holding { alert with state := st }).entryAt 0 = some { alert with state := st })
      ∧ addTag alert.tally cfg.tag ≠ alert.tally ∧ alert.tallySend.state = .idle := by decide +kernel

theorem witness_ReadAlertAndReadTextComplete :
    let chain : List Block := [⟨List.replicate 96 0x41⟩, ⟨[0x42]⟩]
    (alert.texts[0]?).map TextRecord.state = some (.complete chain) ∧ alert.texts[1]? = none ∧ chain ≠ []
      ∧ (∀ b ∈ chain.dropLast, b.payload.length = 96)
      ∧ (∀ b ∈ chain.getLast?, 1 ≤ b.payload.length ∧ b.payload.length ≤ 96) ∧ (3 : Nat) < 4 := by
  decide +kernel

theorem witness_ListAlertsCompletes : (holding alert).tableOk := by unfold State.tableOk; decide +kernel

theorem witness_FeedMessageArrivalCompletes :
    (5 < (0x06 : Byte).toNat) ∧ State.reset.settled = true ∧ State.reset.al.config = none
      ∧ live.settled = true ∧ live.al.config = some cfg ∧ (1 : Byte).toNat ≠ ([] : List Byte).length
      ∧ (1 : Byte).toNat = [(7 : Byte)].length ∧ [(2 : Byte)] ≠ [0]
      ∧ zoneOk ((0x00 : Byte) ++ (0x00 : Byte) ++ (0x01 : Byte)) = false
      ∧ [(1 : Byte), 2, 3].length ≠ 4 := by decide +kernel

/-- A part with coverage. -/
def covered (s : State := live) : State := { s with fp := { s.fp with coverage := true } }

/-- A part whose report queue holds slot 0's element, its uplink blocked. -/
def queued : State :=
  let s := covered (holding alert)
  { s with fp := { s.fp with blocked := true }, tu := ⟨[0], none⟩ }

theorem witness_CoverageMessageCompletes :
    live.settled = true ∧ live.fp.coverage = false ∧ covered.settled = true ∧ covered.fp.coverage = true
      ∧ live.tu.reportQueue = [] ∧ zoneOk ((0x30 : Byte) ++ (0xA4 : Byte) ++ (0x00 : Byte)) = true
      ∧ queued.settled = true ∧ queued.tu.reportQueue = 0 :: [] ∧ queued.entryAt 0 = some alert
      ∧ queued.fp.modemReady = true ∧ queued.tu.outstanding = none := by decide +kernel

/-- The outstanding report of the parts below. -/
def report : Outstanding := ⟨alert.id, ⟨0, 5⟩, 12, 15000000⟩

theorem witness_ReportAnswersComplete :
    live.settled = true ∧ live.al.config = some cfg ∧ live.tu.outstanding = none
      ∧ (reported (holding alert)).settled = true
      ∧ (reported (holding alert)).tu.outstanding = some report
      ∧ report.id = ⟨(0x01 : Byte) ++ (0x23 : Byte), (0x2A : Byte) ++ (0x17 : Byte)⟩
      ∧ (reported live).handleOk report.handle = false ∧ (reported live).tu.reportQueue = []
      ∧ (reported (holding alert)).entryAt 0 = some alert ∧ (reported (holding alert)).genAt 0 = 5
      ∧ ¬ cfg.reportStep + report.count ≤ tallyCount alert.tally
      ∧ (reported (holding alert)).pwc.hold ≠ .runOut := by decide +kernel

/-- The outstanding report of a part with an entry of 24 tags that is due again, coverage as given. -/
def dueAgain (coverage : Bool) (queue : List Nat) : State :=
  let s := reported (holding { alert with tally := .list ((List.range 24).map fun n => BitVec.ofNat 32 (n + 1)) })
  { s with fp := { s.fp with coverage := coverage }, tu := { s.tu with reportQueue := queue } }

theorem witness_ReportAnswers_dueAgain :
    (∀ coverage ∈ [true, false], ∀ queue ∈ [[], [0]],
        (dueAgain coverage queue).settled = true ∧ (dueAgain coverage queue).al.config = some cfg
          ∧ (dueAgain coverage queue).tu.outstanding = some report
          ∧ (dueAgain coverage queue).tu.reportQueue = queue
          ∧ ((dueAgain coverage queue).entryAt report.handle.slot).map
              (fun e => decide (cfg.reportStep + report.count ≤ tallyCount e.tally)) = some true
          ∧ (dueAgain coverage queue).fp.blocked = false ∧ (dueAgain coverage queue).fp.modemReady = true
          ∧ (dueAgain coverage queue).fp.coverage = coverage) := by decide +kernel

theorem witness_ModemReadyLineCompletes :
    State.reset.settled = true ∧ State.reset.al.config = none ∧ State.reset.tu.reportQueue = []
      ∧ queued.settled = true ∧ queued.al.config = some cfg ∧ queued.fp.blocked = true := by decide +kernel

theorem witness_PageFifoProcessCompletes :
    live.settled = true ∧ live.fp.pageFifo = []
      ∧ (paged .header exampleBytes).settled = true ∧ (paged .header exampleBytes).keepsPower
      ∧ readHeader exampleBytes = some exampleHeader ∧ readHeader [] = none ∧ readText [] = none
      ∧ (paged .header exampleBytes).tableOk ∧ live.slotOf exampleHeader.id = none
      ∧ (∀ n sl, live.slotAt n = some sl → sl.key.id ≠ exampleHeader.id)
      ∧ live.entryAt 0 = none ∧ (∀ k < 0, live.entryAt k ≠ none)
      ∧ (holding alert).slotOf exampleHeader.id = some 0 ∧ exampleHeader.update = alert.update
      ∧ exampleHeader.action = alert.action
      ∧ readHeader (headerBytes (newer .cancel)) = some (newer .cancel) ∧ (newer .cancel).action = .cancel
      ∧ live.slotOf (newer .cancel).id = none ∧ 1 ≤ cfg.reportStep
      ∧ readText (textBytes (segment 2 0 2)) = some (segment 2 0 2) ∧ live.slotsOk ∧ live.usedBlocks < 128
      ∧ live.slotAt 0 = none := by
  refine ⟨by decide +kernel, rfl, by decide +kernel, by unfold State.keepsPower; decide +kernel,
    by decide +kernel, rfl, rfl, by unfold State.tableOk; decide +kernel, by decide +kernel, ?_, rfl,
    fun k h => absurd h (Nat.not_lt_zero k), by decide +kernel, rfl, rfl, by decide +kernel, rfl,
    by decide +kernel, by decide, by decide +kernel, by unfold State.slotsOk; decide +kernel,
    by decide +kernel, by decide +kernel⟩
  intro n sl h
  rw [no_slots (s := live) rfl] at h
  cases h

theorem full_entry {st : Nat → EntryState} {k : Nat} {f : Entry} (h : (full st).entryAt k = some f) :
    f.precedence = 12 ∧ f.state = st k := by
  simp only [State.entryAt, full, paged, List.getElem?_map, Option.bind_eq_some_iff, Option.map_eq_some_iff] at h
  obtain ⟨-, ⟨k', hk, rfl⟩, h⟩ := h
  have : k' = k := by
    by_cases hlt : k < 32
    · rw [List.getElem?_range hlt] at hk; exact (Option.some.inj hk).symm
    · rw [List.getElem?_eq_none (by simpa using hlt)] at hk; cases hk
  subst this
  cases h
  exact ⟨rfl, rfl⟩

/-- The newcomer of category 1 has precedence 12: a HELD entry of that precedence is a victim before an
ACKNOWLEDGED one; a table of PRESENTING entries has none. -/
theorem witness_PageFifoProcess_fullTable :
    let st (k : Nat) : EntryState := if k = 3 then .held else if k = 5 then .acknowledged else .presenting
    ((full st).settled = true ∧ (full st).tableOk ∧ (∀ k < 32, (full st).entryAt k ≠ none)
        ∧ (full st).slotOf exampleHeader.id = none
        ∧ ((full st).category exampleHeader.category).precedence = 12 ∧ (full st).keepsPower
        ∧ ∃ v, (full st).IsVictim 12 3 v)
      ∧ (full fun _ => .presenting).settled = true ∧ (∀ k < 32, (full fun _ => .presenting).entryAt k ≠ none)
      ∧ ∀ k f, (full fun _ => .presenting).entryAt k = some f → evictionGroup 12 f = none := by
  intro st
  refine ⟨⟨by decide +kernel, by unfold State.tableOk; decide +kernel, by decide +kernel, by decide +kernel,
    by decide +kernel, by unfold State.keepsPower; decide +kernel,
    _, rfl, 3, by decide +kernel, ?_⟩, by decide +kernel, by decide +kernel, ?_⟩
  · intro k f g' hk hf hg
    obtain ⟨hp, hs⟩ := full_entry hf
    by_cases h5 : k = 5 <;> simp [evictionGroup, hs, st, hk, h5, hp] at hg
    exact .inl (by omega)
  · intro k f hf
    simp [evictionGroup, (full_entry hf).2]

theorem witness_RxFifoProcessCompletes :
    (∀ s ∈ [received 1 [], received 3 (tallyBytes ⟨alert.id, alert.tally⟩) (holding alert),
          received 1 (headerBytes { exampleHeader with category := 2 }) (holding alert)],
        s.settled = true ∧ s.pwc.power = .awake ∧ s.pwc.hold ≠ .runOut ∧ s.slc.medium ≠ .off
          ∧ s.slc.medium ≠ .dozeSampling ∧ s.slc.queue = [] ∧ s.slc.current = none
          ∧ s.slc.rxFifo.length = 1)
      ∧ readFrame (makeFrame 1 0x00B12A04 []) = none
      ∧ readFrame (makeFrame 3 0x00B12A04 (tallyBytes ⟨alert.id, alert.tally⟩)) =
          some (.tally ⟨alert.id, alert.tally⟩)
      ∧ readFrame (makeFrame 1 0x00B12A04 (headerBytes exampleHeader)) = some (.header exampleHeader)
      ∧ (0x00B12A04 : Tag) ≠ cfg.tag ∧ live.slotOf alert.id = none ∧ (holding alert).slotOf alert.id = some 0
      ∧ alert.state.name ≠ .expired ∧ live.slc.rxFifo = []
      ∧ coveredBy (mergeTally alert.tally alert.tally) alert.tally = true
      ∧ coveredBy (mergeTally alert.tally (.list [])) (.list []) = false := by decide +kernel

theorem witness_FrameAndSyncComplete :
    (∀ m ∈ [Medium.idle, .defer, .receive, .jammed], (heard m).settled = true ∧ (heard m).pwc.power = .awake)
      ∧ (heard .jammed).slc.medium ≠ .receive ∧ (heard .jammed).slc.medium ≠ .idle
      ∧ (heard .jammed).slc.medium ≠ .defer := by decide +kernel

theorem witness_CarrierEventsComplete :
    (∀ m ∈ [Medium.off, .idle, .receive, .jammed, .preamble .short 10001000], (heard m).settled = true)
      ∧ (heard (.preamble .short 10001000)).slc.medium.sending = true ∧ (dozing none none).settled = true
      ∧ (dozing none none).slc.medium = .dozeSampling ∧ live.al.config = some cfg ∧ live.pwc.power = .awake
      ∧ (relayingPart (.contend 0xAE80 2 10000100) false false [] .staged).settled = true
      ∧ (0xAE80 : BitVec 16).getLsbD (16 - 2) = false
      ∧ (relayingPart (.contend 0xAE80 2 10000100) false false [] .staged).busySince = none
      ∧ 0 < cfg.holdLimit
      ∧ (relayingPart .receive false false [] .staged).settled = true
      ∧ (relayingPart .receive false false [] .staged).slc.stage ≠ []
      ∧ (relayingPart .receive false false [] .staged).slc.busyStart = none := by decide +kernel

theorem witness_QuietGapAndHoldLimitComplete :
    (heard .off).settled = true ∧ (dozing none none).slc.quietSince = none ∧ live.slc.quietSince = some 0
      ∧ (∀ m ∈ [Medium.idle, .receive, .jammed], (heard m).settled = true ∧ (heard m).slc.stage = [])
      ∧ (∀ m ∈ [Medium.defer, .jammed],
        (relayingPart m false false [] .staged).settled = true
          ∧ (relayingPart m false false [] .staged).slc.quietSince = some 9998000
          ∧ (relayingPart m false false [] .staged).slc.stage = [makeFrame 1 0x12345680 exampleBytes]
          ∧ (relayingPart m false false [] .staged).slc.current.isSome = true)
      ∧ live.busySince = none ∧ live.slc.medium.name ≠ .contend
      ∧ (after .carrierBegin (heard .receive)).settled = true
      ∧ (after .carrierBegin (heard .receive)).slc.medium = .receive
      ∧ (after .carrierBegin (heard .receive)).busySince = some 10000000 := by decide +kernel

theorem witness_ContentionAndPreambleComplete :
    live.settled = true ∧ live.al.config = some cfg ∧ live.slc.medium.name ≠ .contend
      ∧ live.slc.medium.name ≠ .preamble
      ∧ (∀ k ∈ [1, 15, 16],
        (relayingPart (.contend 0xAE80 k 10000100) false false [] .staged).settled = true
          ∧ (relayingPart (.contend 0xAE80 k 10000100) false false [] .staged).slc.carrier = none
          ∧ (relayingPart (.contend 0xAE80 k 10000100) false false [] .staged).slc.current.isSome = true)
      ∧ (relayingPart (.preamble .long 10520100) true false [] .sending).settled = true := by decide +kernel

theorem witness_BurstCompletionCompletes :
    let s (endMark : Bool) (left : List FrameRef) := relayingPart (.send 10521028) true endMark left .sending
    (∀ endMark ∈ [true, false], ∀ left ∈ [[], [FrameRef.text 0 1]],
        (s endMark left).settled = true ∧ (s endMark left).pwc.power = .awake
          ∧ (s endMark left).slc.queue = [] ∧ (s endMark left).slc.current.isSome = true
          ∧ (s endMark left).slotOf alert.id = some 0
          ∧ (s endMark left).entryAt 0 = some (relaying .sending) ∧ (s endMark left).slc.busyStart = none)
      ∧ ((s false []).advance 10521028).buildBurst alert.id ([FrameRef.text 0 1].take 6) ≠ []
      ∧ live.settled = true ∧ live.slc.medium.name ≠ .send ∧ live.al.participation = .full
      ∧ (listening (s true [])).settled = true ∧ alert.relay.update = 2 := by decide +kernel

theorem witness_CollectLimitCompletes :
    let e : Entry := { alert with state := .collecting 12000000 }
    (holding alert).settled = true ∧ alert.state.name ≠ .collecting ∧ (holding e).settled = true
      ∧ (holding e).entryAt 0 = some e ∧ live.atc.map[e.category]? = some ⟨10, .inArea, .normal⟩ := by
  decide +kernel

theorem witness_LifetimeAndLingerComplete :
    let e : Entry := { alert with state := .expired 12000000 }
    (holding alert).settled = true ∧ (holding alert).slc.queue = [] ∧ (holding alert).entryAt 0 = some alert
      ∧ alert.state.name ≠ .expired ∧ (holding e).settled = true ∧ (holding e).entryAt 0 = some e
      ∧ e.state.name = .expired ∧ live.entryAt 0 = none ∧ (holding alert).slotOf alert.id = some 0 := by
  decide +kernel

/-- A part with an assembly slot open for text 0 of the entry, whose text is COLLECTING. -/
def assembling : State :=
  let s := holding { alert with state := .collecting 310000000, texts := [⟨0x11A6, 2, .collecting⟩] }
  { s with sa := ⟨some ⟨⟨alert.id, 2, 0⟩, 2, [some ⟨List.replicate 96 0x41⟩, none], 9000000, true, 10⟩
      :: List.replicate 7 none⟩ }

theorem witness_AssemblyLimitCompletes :
    live.settled = true ∧ live.slotAt 0 = none ∧ live.slotAt 8 = none ∧ assembling.settled = true
      ∧ (assembling.slotAt 0).map Slot.bound = some true ∧ assembling.slotOf alert.id = some 0
      ∧ (assembling.entryAt 0).map (fun e => (e.state.name, e.texts)) =
          some (.collecting, [⟨0x11A6, 2, .collecting⟩]) := by decide +kernel

/-- The only open slot of a part is its slot 0. -/
theorem only_slot {s : State} {a sl : Slot} {n : Nat} (hs : s.sa.slots = some a :: List.replicate 7 none)
    (h : s.slotAt n = some sl) : n = 0 ∧ sl = a := by
  cases n with
  | zero => exact ⟨rfl, by simpa [State.slotAt, hs] using h.symm⟩
  | succ k =>
    simp only [State.slotAt, hs, List.getElem?_cons_succ, List.getElem?_replicate] at h
    split at h <;> simp at h

theorem only_entry {e x : Entry} {s : State} {k : Nat}
    (hs : s.atc.table = ⟨5, some e⟩ :: List.replicate 31 ⟨0, none⟩) (h : s.entryAt k = some x) :
    k = 0 ∧ x = e := by
  cases k with
  | zero => exact ⟨rfl, by simpa [State.entryAt, hs] using h.symm⟩
  | succ k =>
    simp only [State.entryAt, hs, List.getElem?_cons_succ, List.getElem?_replicate] at h
    split at h <;> simp at h

/-- A part with a bound slot meets the invariant of the assembly slots. -/
theorem witness_assemblyOk : assembling.tableOk ∧ assembling.assemblyOk := by
  refine ⟨by unfold State.tableOk; decide +kernel, by unfold State.slotsOk; decide +kernel, ?_⟩
  intro n sl h
  obtain ⟨rfl, rfl⟩ := only_slot rfl h
  refine ⟨fun _ => ⟨0, _, rfl, rfl, rfl, rfl⟩, fun i e he _ _ _ => ?_⟩
  obtain ⟨rfl, rfl⟩ := only_entry rfl he
  exact ⟨rfl, _, rfl, rfl⟩

/-- A part whose eight slots are open, of the given precedence and bound mark, with a segment of text 0 waiting
for the COLLECTING entry of slot 0. -/
def shortOfSlots (bound : Bool) (precedence : Nat) (e : Entry) : State :=
  let s := paged .text (textBytes (segment 2 0 2)) (holding e)
  { s with sa := ⟨(List.range 8).map fun n =>
    some ⟨⟨⟨0x0300, BitVec.ofNat 16 n⟩, 1, 0⟩, 2, [some ⟨[0x41]⟩, none], 9000000 + n, bound, precedence⟩⟩ }

theorem shortOfSlots_slot {b : Bool} {p n : Nat} {e : Entry} {sl : Slot}
    (h : (shortOfSlots b p e).slotAt n = some sl) : sl.precedence = p ∧ sl.firstSegment = 9000000 + n := by
  simp only [State.slotAt, shortOfSlots, List.getElem?_map, Option.join_eq_some_iff, Option.map_eq_some_iff] at h
  obtain ⟨k, hk, h⟩ := h
  have : k = n := by
    by_cases hlt : n < 8
    · rw [List.getElem?_range hlt] at hk; exact (Option.some.inj hk).symm
    · rw [List.getElem?_eq_none (by simpa using hlt)] at hk; cases hk
  subst this
  cases h
  exact ⟨rfl, rfl⟩

theorem witness_AssemblyLimit_slotShortage :
    let e : Entry := { alert with state := .collecting 310000000, texts := [⟨0x11A6, 2, .absent⟩] }
    (∀ b ∈ [(true, 10), (false, 0)],
        (shortOfSlots b.1 b.2 e).settled = true ∧ (∀ n < 8, (shortOfSlots b.1 b.2 e).slotAt n ≠ none)
          ∧ (shortOfSlots b.1 b.2 e).findSlot ⟨alert.id, 2, 0⟩ = none
          ∧ (shortOfSlots b.1 b.2 e).slotOf alert.id = some 0
          ∧ (shortOfSlots b.1 b.2 e).entryAt 0 = some e ∧ e.texts[0]? = some ⟨0x11A6, 2, .absent⟩
          ∧ (shortOfSlots b.1 b.2 e).usedBlocks ≤ 128)
      ∧ (∀ n sl, (shortOfSlots true 10 e).slotAt n = some sl → e.precedence ≤ sl.precedence)
      ∧ (∃ low, (shortOfSlots false 0 e).LowestSlot 0 low ∧ low.precedence < e.precedence
        ∧ ∃ b, some b ∈ low.received)
      ∧ (shortOfSlots false 0 e).slotsOk ∧ (shortOfSlots true 10 e).slotsOk
      ∧ (segment 2 0 2).count = 2 ∧ (holding { e with update := 1 }).slotOf alert.id = some 0 := by
  intro e
  refine ⟨by decide +kernel, fun n sl h => (shortOfSlots_slot h).1.ge, ⟨_, ⟨rfl, ?_⟩, by decide, _, by
    exact List.mem_cons_self⟩, by unfold State.slotsOk; decide +kernel, by unfold State.slotsOk; decide +kernel,
    by decide, by decide +kernel⟩
  intro k sl hk h
  obtain ⟨hp, hf⟩ := shortOfSlots_slot h
  exact .inr ⟨hp.symm, .inl (by rw [hf]; show 9000000 + 0 < 9000000 + k; omega)⟩

/-- A part with no free block, 127 of them in a text of slot 1's entry, the other in the bound slot of text 0. -/
def shortOfBlocks (st : EntryState) (precedence : Nat) : State :=
  let e : Entry := { alert with state := .collecting 310000000, texts := [⟨0x11A6, 4, .collecting⟩] }
  let f : Entry := { alert with
    id := ⟨0x0200, 1⟩, state := st, relay := { alert.relay with state := .done }
    texts := [⟨0x11A6, 8, .complete (List.replicate 126 ⟨[0x41]⟩)⟩] }
  let s := paged .text (textBytes (segment 2 0 4))
  { s with
    atc := { s.atc with table := ⟨5, some e⟩ :: ⟨1, some f⟩ :: List.replicate 30 ⟨0, none⟩ }
    sa := ⟨some ⟨⟨alert.id, 2, 0⟩, 4, [none, some ⟨[0x42]⟩, none, none], 9000000, true, 10⟩
      :: some ⟨⟨⟨0x0300, 1⟩, 1, 0⟩, 2, [some ⟨[0x41]⟩, none], 9500000, false, precedence⟩
      :: List.replicate 6 none⟩ }

theorem shortOfBlocks_entry {st : EntryState} {p j : Nat} {f : Entry}
    (h : (shortOfBlocks st p).entryAt j = some f) : j = 0 ∧ f.state.name = .collecting ∨ j = 1 ∧ f.state = st := by
  match j with
  | 0 => cases h; exact .inl ⟨rfl, rfl⟩
  | 1 => cases h; exact .inr ⟨rfl, rfl⟩
  | j + 2 =>
    simp only [State.entryAt, shortOfBlocks, List.getElem?_cons_succ, List.getElem?_replicate] at h
    split at h <;> simp at h

theorem shortOfBlocks_slot {st : EntryState} {p n : Nat} {sl : Slot}
    (h : (shortOfBlocks st p).slotAt n = some sl) :
    n = 0 ∧ sl.precedence = 10 ∨ n = 1 ∧ sl.precedence = p := by
  match n with
  | 0 => cases h; exact .inl ⟨rfl, rfl⟩
  | 1 => cases h; exact .inr ⟨rfl, rfl⟩
  | n + 2 =>
    simp only [State.slotAt, shortOfBlocks, List.getElem?_cons_succ, List.getElem?_replicate] at h
    split at h <;> simp at h

theorem witness_AssemblyLimit_blockShortage :
    (∀ b ∈ [(EntryState.presenting, 10), (.presenting, 0), (.acknowledged, 0)],
        (shortOfBlocks b.1 b.2).settled = true ∧ (shortOfBlocks b.1 b.2).usedBlocks = 128
          ∧ (shortOfBlocks b.1 b.2).slotOf alert.id = some 0
          ∧ (shortOfBlocks b.1 b.2).findSlot ⟨alert.id, 2, 0⟩ = some 0
          ∧ readText (textBytes (segment 2 0 4)) = some (segment 2 0 4))
      ∧ (∀ p j f k, (shortOfBlocks .presenting p).entryAt j = some f → ¬ f.releasable k)
      ∧ (∀ m low, (shortOfBlocks .presenting 10).slotAt m = some low → 10 ≤ low.precedence)
      ∧ (∃ f, (shortOfBlocks .acknowledged 0).ReleasesText 1 f 0)
      ∧ ∃ low, (shortOfBlocks .presenting 0).LowestSlot 1 low ∧ low.precedence < 10
        ∧ ∃ b, some b ∈ low.received := by
  refine ⟨by decide +kernel, ?_, ?_, ⟨_, rfl, ⟨rfl, .inl rfl, _, _, rfl, rfl, by decide⟩, ?_, ?_⟩, _,
    ⟨rfl, ?_⟩, by decide, _, List.mem_cons_self⟩
  · rintro p j f k h ⟨hs, -⟩
    rcases shortOfBlocks_entry h with ⟨-, hn⟩ | ⟨-, hn⟩ <;> rw [hs] at hn <;> cases hn
  · intro m low h
    rcases shortOfBlocks_slot h with ⟨-, hp⟩ | ⟨-, hp⟩ <;> exact hp.ge
  · rintro k' hk' ⟨-, -, x, chain, hx, -⟩
    obtain ⟨k', rfl⟩ : ∃ m, k' = m + 1 := ⟨k' - 1, by omega⟩
    cases hx
  · rintro j f k' hj hf ⟨hs, -⟩
    rcases shortOfBlocks_entry hf with ⟨-, hn⟩ | ⟨rfl, -⟩
    · rw [hs] at hn; cases hn
    · exact absurd rfl hj
  · intro k sl hk h
    rcases shortOfBlocks_slot h with ⟨rfl, hp⟩ | ⟨rfl, -⟩
    · exact .inl (by rw [hp]; show 0 < 10; omega)
    · exact absurd rfl hk

/-- A part with no free block and no open slot, and a segment waiting for an ABSENT text. -/
def noBlocks : State :=
  let e : Entry := { alert with state := .collecting 310000000, texts := [⟨0x11A6, 2, .absent⟩] }
  let f : Entry := { alert with
    id := ⟨0x0200, 1⟩, texts := [⟨0x11A6, 8, .complete (List.replicate 128 ⟨[0x41]⟩)⟩] }
  let s := paged .text (textBytes (segment 2 0 2))
  { s with atc := { s.atc with table := ⟨5, some e⟩ :: ⟨1, some f⟩ :: List.replicate 30 ⟨0, none⟩ } }

theorem witness_AssemblyLimit_noBlockForANewSlot :
    noBlocks.settled = true ∧ noBlocks.slotsOk ∧ noBlocks.slotOf alert.id = some 0 ∧ noBlocks.slotAt 0 = none
      ∧ noBlocks.usedBlocks = 128
      ∧ (noBlocks.entryAt 0).map (fun e => (e.state.name, e.texts)) = some (.collecting, [⟨0x11A6, 2, .absent⟩])
      ∧ (∀ j f k, noBlocks.entryAt j = some f → ¬ f.releasable k)
      ∧ ∀ m low, noBlocks.slotAt m = some low → 10 ≤ low.precedence := by
  refine ⟨by decide +kernel, by unfold State.slotsOk; decide +kernel, by decide +kernel, by decide +kernel,
    by decide +kernel, by decide +kernel, ?_, fun m low h => ?_⟩
  · rintro j f k h ⟨hs, -⟩
    match j with
    | 0 | 1 => cases h; cases hs
    | j + 2 =>
      simp only [State.entryAt, noBlocks, List.getElem?_cons_succ, List.getElem?_replicate] at h
      split at h <;> simp at h
  · rw [no_slots (s := noBlocks) rfl] at h
    cases h

/-- A part with a current job of another entry, `n` jobs of one precedence queued, and the entry waiting. -/
def crowded (n : Nat) (e : Entry) (precedence : Nat := 12) : State :=
  let s := holding e
  { s with slc := { s.slc with
    stage := [makeFrame 1 0x12345680 exampleBytes]
    current := some ⟨⟨⟨0x0200, 1⟩, .relay, 15, some 1, [.header], 0⟩, [], false, false⟩
    queue := (List.range n).map fun k => ⟨⟨0x0300, BitVec.ofNat 16 k⟩, .relay, precedence, some 1, [.header], 0⟩ } }

/-- The entry with its tally wait running. -/
def telling : Entry := { alert with tallySend := ⟨.waiting 11419000, none, false⟩ }

theorem witness_WaitExpiriesComplete :
    let r := relaying (.waiting 10522000)
    let h := heard .receive (holding r)
    (holding alert).settled = true ∧ alert.relay.state.name ≠ .waiting
      ∧ alert.tallySend.state.isWaiting = false
      ∧ (∀ n ∈ [0, 11, 12],
        (crowded n r).settled = true ∧ (crowded n r).entryAt 0 = some r
          ∧ (crowded n r).slotOf r.id = some 0 ∧ (crowded n r).pwc.power = .awake
          ∧ (crowded n r).slc.current.isSome = true ∧ (crowded n r).slc.queue.length = n
          ∧ (∀ j ∈ (crowded n r).slc.queue, j.id = r.id → j.kind ≠ .relay)
          ∧ ∀ j ∈ (crowded n r).slc.queue, r.precedence ≤ j.precedence)
      ∧ h.settled = true ∧ h.slc.current = none ∧ h.slc.stage = [] ∧ h.slc.queue = []
      ∧ h.al.participation = .full ∧ h.slc.medium = .receive ∧ 60 ≤ r.remaining 10522000
      ∧ (crowded 11 telling).settled = true ∧ (crowded 11 telling).entryAt 0 = some telling
      ∧ (crowded 11 telling).slotOf telling.id = some 0
      ∧ ∀ j ∈ (crowded 11 telling).slc.queue, j.id = telling.id → j.kind ≠ .tally := by decide +kernel

/-- At a full queue whose lowest job is below the new one; and with nothing current, in IDLE after a complete
quiet gap, in IDLE with carrier since shortly and since longer than the hold limit, and with too little
lifetime left. -/
theorem witness_WaitExpiries_fullAndIdle :
    let r := relaying (.waiting 10522000)
    let late := { r with lifetimeEnd := 70000000 }
    let idle (e : Entry) (busy : Option Micros) : State :=
      let s := holding e
      { s with slc := { s.slc with
        busyStart := busy, quietSince := if busy.isSome then none else some 0 } }
    (∀ e ∈ [r, telling], (crowded 12 e 9).settled = true ∧ (crowded 12 e 9).slotOf e.id = some 0
        ∧ (crowded 12 e 9).slc.queue.dropLast.length = 11
        ∧ ((crowded 12 e 9).slc.queue.getLast?.map Job.precedence) = some 9 ∧ 9 < e.precedence)
      ∧ (∀ e ∈ [r, telling, late], ∀ busy ∈ [none, some 9900000, some 9000000],
        (idle e busy).settled = true ∧ (idle e busy).entryAt 0 = some e ∧ (idle e busy).slc.current = none
          ∧ (idle e busy).slc.stage = [] ∧ (idle e busy).slc.queue = [] ∧ (idle e busy).slc.medium = .idle
          ∧ (idle e busy).al.participation = .full ∧ (idle e busy).pwc.hold ≠ .runOut)
      ∧ (idle r none).slc.quietSince = some 0 ∧ (idle r (some 9000000)).slc.quietSince = none
      ∧ 10522000 < 9900000 + 1000 * live.settings.holdLimit
      ∧ 9000000 + 1000 * live.settings.holdLimit ≤ 10522000
      ∧ late.remaining 10522000 < 60 ∧ 60 ≤ r.remaining 10522000 := by decide +kernel

theorem witness_AwakeHoldRunOutCompletes :
    live.settled = true ∧ live.pwc.power = .awake ∧ live.pwc.hold = .running 20000000
      ∧ assembling.settled = true ∧ assembling.workless = false ∧ live.al.config = some cfg
      ∧ cfg.doze = true ∧ live.slc.queue = [] ∧ live.slc.current = none ∧ live.slc.stage = []
      ∧ (∀ n, live.slotAt n = none)
      ∧ (∀ k e, (holding alert).entryAt k = some e →
        e.relay.state.name ≠ .waiting ∧ e.tallySend.state.isWaiting = false)
      ∧ live.tu.outstanding = none ∧ live.fp.pageFifo = [] ∧ live.slc.rxFifo = [] := by
  refine ⟨by decide +kernel, rfl, rfl, by decide +kernel, by decide +kernel, rfl, rfl, rfl, rfl, rfl,
    no_slots rfl, ?_, rfl, rfl, rfl⟩
  intro k e h
  obtain ⟨-, rfl⟩ := only_slot_zero h
  decide

theorem witness_SampleWindowsAndWarmUpComplete :
    let w : Window := ⟨9994000, 5, .space 9999500⟩
    live.settled = true ∧ live.pwc.power = .awake ∧ live.pwc.window = none ∧ live.pwc.warmUp = none
      ∧ (dozing none none).settled = true ∧ (dozing none none).pwc.nextWindow = some 10500000
      ∧ (dozing none (some w)).settled = true ∧ (dozing none (some w)).pwc.window = some w
      ∧ (dozing none (some w)).pwc.power = .doze ∧ (dozing none (some w)).pwc.warmUp = none
      ∧ (dozing (some 10002000) none).settled = true ∧ (dozing (some 10002000) none).pwc.power = .doze
      ∧ (dozing (some 10002000) none).al.config = some cfg ∧ (dozing (some 10002000) none).slc.queue = [] := by
  decide +kernel

/-- A part with a slot open for text 0 of the entry, one of its two segments stored, whose text 1 is ABSENT. -/
def collecting (stored : List (Option Block)) : State :=
  let e : Entry := { alert with state := .collecting 310000000 }
  let s := paged .text (textBytes (segment 2 1 2))
    (holding { e with texts := [⟨0x11A6, 2, .collecting⟩, ⟨0x49E0, 1, .absent⟩] })
  { s with sa := ⟨some ⟨⟨alert.id, 2, 0⟩, stored.length, stored, 9000000, true, 10⟩
      :: List.replicate 7 none⟩ }

theorem witness_TextSegmentJoinsItsSlot :
    let b : Option Block := some ⟨List.replicate 96 0x41⟩
    (∀ stored ∈ [[b, none, none], [b, b], [none, none], [b, none]],
        (collecting stored).settled = true ∧ (collecting stored).pwc.power = .awake
          ∧ (collecting stored).pwc.hold ≠ .runOut ∧ (collecting stored).slotOf alert.id = some 0
          ∧ ((collecting stored).entryAt 0).map (fun e => (e.state.name, e.update)) = some (.collecting, 2)
          ∧ (collecting stored).findSlot ⟨alert.id, 2, 0⟩ = some 0
          ∧ ((collecting stored).slotAt 0).map Slot.bound = some true ∧ (collecting stored).usedBlocks < 128)
      ∧ readText (textBytes (segment 2 1 2)) = some (segment 2 1 2) ∧ [b, none, none].length ≠ 2
      ∧ [b, b][1]? = some b ∧ [none, none][0]? = some (none : Option Block)
      ∧ [b, none][1]? = some none ∧ [b, none][0]? ≠ some none := by decide +kernel

theorem witness_TextSegment_otherCases :
    let e (texts : List TextRecord) : Entry := { alert with state := .collecting 310000000, texts := texts }
    let part (texts : List TextRecord) := paged .text (textBytes (segment 2 0 2)) (holding (e texts))
    ((segment 1 0 2).update < alert.update ∧ (segment 2 0 2).update = alert.update
        ∧ alert.state.name ≠ .collecting)
      ∧ (e []).texts[0]? = none ∧ (segment 2 0 2).count ≠ (⟨0x11A6, 3, .absent⟩ : TextRecord).count
      ∧ (∀ texts ∈ [[], [⟨0x11A6, 3, .absent⟩], [⟨0x11A6, 2, .absent⟩], [⟨0x11A6, 2, .complete []⟩]],
        (part texts).settled = true ∧ (part texts).slotOf alert.id = some 0
          ∧ (part texts).entryAt 0 = some (e texts) ∧ (part texts).slotAt 0 = none
          ∧ (part texts).usedBlocks < 128)
      ∧ (part [⟨0x11A6, 2, .absent⟩]).slotsOk
      ∧ (let last := [⟨0x11A6, 2, .collecting⟩, ⟨0x49E0, 1, .complete [⟨[0x44]⟩]⟩]
        (e last).texts[1]?.map TextRecord.state = some (.complete [⟨[0x44]⟩])) := by
  intro e part
  refine ⟨by decide, by decide, by decide, by decide +kernel, by unfold State.slotsOk; decide +kernel, rfl⟩

/-- A part with unbound slots of the example's identity: one for its text 0, full, one of a lower update, and
one for a text the header does not list. Its text 1 has none. -/
def unbound : State :=
  let s := paged .header exampleBytes
  let slot (update text count : Nat) (received : List (Option Block)) : Option Slot :=
    some ⟨⟨exampleHeader.id, update, text⟩, count, received, 9000000, false, 0⟩
  { s with sa := ⟨[slot 2 0 3 (List.replicate 3 (some ⟨[0x41]⟩)), slot 1 0 2 [some ⟨[0x42]⟩, none],
    slot 2 3 2 [some ⟨[0x43]⟩, none]] ++ List.replicate 5 none⟩ }

theorem unbound_slot {n : Nat} {sl : Slot} (h : unbound.slotAt n = some sl) :
    sl.bound = false ∧ sl.key ≠ ⟨exampleHeader.id, exampleHeader.update, 1⟩ := by
  match n with
  | 0 | 1 | 2 => cases h; exact ⟨rfl, by decide⟩
  | n + 3 =>
    simp only [State.slotAt, unbound, List.cons_append, List.getElem?_cons_succ, List.nil_append,
      List.getElem?_replicate] at h
    split at h <;> simp at h

theorem witness_TextSegment_binding :
    unbound.settled = true ∧ unbound.keepsPower ∧ unbound.al.config = some cfg
      ∧ readHeader exampleBytes = some exampleHeader ∧ unbound.tableOk ∧ unbound.slotsOk
      ∧ unbound.slotOf exampleHeader.id = none ∧ unbound.entryAt 0 = none
      ∧ (∀ n sl, unbound.slotAt n = some sl → sl.key.id = exampleHeader.id → sl.bound = false)
      ∧ (1 < exampleHeader.texts.length ∧ ∀ n sl, unbound.slotAt n = some sl →
        sl.key = ⟨exampleHeader.id, exampleHeader.update, 1⟩ → ∃ m : Nat, sl.received[m]? = some none) :=
  ⟨by decide +kernel, by unfold State.keepsPower; decide +kernel, rfl, by decide +kernel,
    by unfold State.tableOk; decide +kernel, by unfold State.slotsOk; decide +kernel, by decide +kernel,
    by decide +kernel, fun _ _ h _ => (unbound_slot h).1, by decide,
    fun _ _ h hk => absurd hk (unbound_slot h).2⟩

/-! ### Witnesses: the position fresh and stale, jobs that end or are cut, heads that follow, reports due -/

/-- The part at rest and those of its witnesses hold no position, so none of them is stale. -/
theorem fresh_without_position {s : State} (h : s.atc.position = none) (t : Micros) :
    s.freshUntil t ∧ s.freshAt t :=
  ⟨fun _ hp => absurd (h.symm.trans hp) nofun, fun _ hp => absurd (h.symm.trans hp) nofun⟩

/-- A position written at 9 s with the default hold of 30 min is fresh until 1809 s, and no longer at it. -/
theorem witness_fresh :
    let s := placed 0x30A205 .feed
    live.freshAt live.now ∧ live.freshUntil live.now ∧ s.freshAt 1808999999 ∧ s.freshUntil 1809000000
      ∧ ¬ s.freshAt 1809000000 := by
  refine ⟨(fresh_without_position rfl _).2, (fresh_without_position rfl _).1, ?_, ?_, fun h => ?_⟩
  · rintro p ⟨⟩; decide
  · rintro p ⟨⟩; decide
  · exact absurd (h _ rfl) (by decide)

/-- A part at the instant its position goes stale, which is also a collect limit, with a lifetime and a quiet gap
that end later, and a page and a frame waiting. -/
def stale : State :=
  let s := received 1 [] (paged .header []
    (holding { alert with state := .collecting 1809000000 } (placed 0x30A205 .feed)))
  { s with now := 1809000000, slc := { s.slc with quietSince := some 1808999000 } }

theorem witness_PositionEvents_stale :
    stale.settled = true ∧ stale.atc.position = some ⟨0x30A205, .feed, 9000000⟩
      ∧ 9000000 + 60000000 * stale.settings.zoneHold = stale.now
      ∧ (Instr.lifetimeExpiry 0, some 1810000000) ∈ stale.timers ∧ stale.now < 1810000000
      ∧ stale.gapInstant = some 1809001000 ∧ stale.now < 1809001000
      ∧ stale.collectDue 0 = some stale.now ∧ stale.fp.pageFifo ≠ [] ∧ stale.slc.rxFifo ≠ []
      ∧ stale.slc.medium = .idle ∧ stale.linkFree = true ∧ stale.al.config = some cfg
      ∧ (stale.entryAt 0).isSome = true ∧ stale.genAt 0 = 5 := by decide +kernel

/-- The tally job of the entry, current and staged, the entry's tally-send record in the given state. -/
def tallyingPart (m : Medium) (won endMark : Bool) (st : TallySendState) : State :=
  let s := holding { alert with tallySend := ⟨st, none, false⟩ }
  { s with slc := { s.slc with
    medium := m
    quietSince := if m.sending then none else some 9998000
    stage := [makeFrame 3 0x12345680 (tallyBytes ⟨alert.id, alert.tally⟩)]
    current := some ⟨⟨alert.id, .tally, 10, none, [.tally], 9000000⟩, [], endMark, won⟩ } }

/-- A part with jobs waiting in its send queue. -/
def waiting (q : List Job) (s : State) : State := { s with slc := { s.slc with queue := q } }

/-- A tally job of the entry of slot 0. -/
def tallyOf : Job := ⟨alert.id, .tally, 10, none, [.tally], 9000000⟩

/-- Between two bursts of a job that has won, off the air, and with final relay states. -/
theorem witness_SetParticipation_states :
    (∀ s ∈ [relayingPart .defer true false [] .sending, tallyingPart .defer true false .sending,
          tallyingPart (.send 10521028) true false .sending, holding (relaying (.waiting 10522000)),
          holding (relaying .done), holding (relaying .suppressed), holding (relaying .dropped),
          waiting [tallyOf] (relayingPart .defer false false [] .staged)],
        s.settled = true ∧ s.linkFree = true ∧ s.al.config = some cfg ∧ s.al.participation = .full)
      ∧ (relayingPart .defer true false [] .sending).slotOf alert.id = some 0
      ∧ (relayingPart .defer true false [] .sending).slc.medium.onAir = false := by decide +kernel

/-- The entry with nine tags, so that the own one makes it due. -/
def nearlyDue (st : TallySendState) : Entry :=
  { alert with
    tally := .list ((List.range 9).map fun n => BitVec.ofNat 32 (n + 1)), tallySend := ⟨st, none, false⟩ }

/-- A changed tally in each tally-send state, under FULL and LISTEN-ONLY; and a report due with the uplink open and
closed. -/
theorem witness_Acknowledge_dirtyAndDue :
    (∀ st ∈ [TallySendState.idle, .waiting 11000000, .queued, .staged, .sending],
        ∀ s ∈ [holding (nearlyDue st), listening (holding (nearlyDue st)), covered (holding (nearlyDue st))],
          s.settled = true ∧ s.linkFree = true ∧ s.al.config = some cfg
            ∧ s.reportJoins 0 { nearlyDue st with tally := addTag (nearlyDue st).tally cfg.tag } = [0]
            ∧ s.tu.outstanding = none)
      ∧ (∀ st, addTag (nearlyDue st).tally cfg.tag ≠ (nearlyDue st).tally)
      ∧ live.fp.coverage = false ∧ covered.fp.coverage = true ∧ covered.fp.blocked = false
      ∧ covered.fp.modemReady = true := by
  refine ⟨by decide +kernel, fun st => ?_, by decide⟩
  show addTag (.list _) _ ≠ .list _
  decide +kernel

/-- The full table of the newcomer's victim in slot 3, whose tally job is current, and a queue. -/
def evicting (m : Medium) (q : List Job) : State :=
  let s := full fun k => if k = 3 then .held else if k = 5 then .acknowledged else .presenting
  { s with slc := { s.slc with
    medium := m
    stage := [makeFrame 3 0x12345680 []]
    current := some ⟨⟨⟨0x0200, 3⟩, .tally, 12, none, [.tally], 0⟩, [], false, m.onAir⟩
    queue := q } }

/-- A victim whose job is current: off the air with no other job, or with its own relay job alone, queued; on the
air with another's queued. -/
theorem witness_PageFifoProcess_victimWithJob :
    (∀ s ∈ [evicting .defer [], evicting .defer [⟨⟨0x0200, 3⟩, .relay, 12, some 2, [.header], 0⟩],
          evicting (.send 10521028) [⟨⟨0x0200, 9⟩, .relay, 12, some 2, [.header], 0⟩]],
        s.settled = true ∧ s.al.config = some cfg ∧ (∀ k < 32, s.entryAt k ≠ none)
          ∧ s.slotOf exampleHeader.id = none
          ∧ (s.slc.queue.filter (·.id ≠ ⟨0x0200, 3⟩) = [] ∨ s.slc.medium.onAir = true))
      ∧ (∀ m q, (evicting m q).tableOk) ∧ (∀ m q, (evicting m q).keepsPower)
      ∧ ∀ m q, ∃ v, (evicting m q).IsVictim 12 3 v := by
  obtain ⟨⟨-, ht, -, -, -, hw, v, hv⟩, -⟩ := witness_PageFifoProcess_fullTable
  exact ⟨by decide +kernel, fun _ _ => ht, fun _ _ => hw, fun _ _ => ⟨v, hv⟩⟩

/-- A segment that is all of its text, for an entry with the given texts. -/
def wholeText (texts : List TextRecord) : State :=
  paged .text (textBytes (segment 2 0 1)) (holding { alert with state := .collecting 310000000, texts := texts })

theorem witness_TextSegment_oneSegment :
    (∀ texts ∈ [[⟨0x11A6, 1, .absent⟩], [⟨0x11A6, 1, .absent⟩, ⟨0x49E0, 1, .complete [⟨[0x44]⟩]⟩],
          [⟨0x11A6, 1, .absent⟩, ⟨0x49E0, 2, .absent⟩]],
        (wholeText texts).settled = true ∧ (wholeText texts).al.config = some cfg
          ∧ (wholeText texts).slotOf alert.id = some 0 ∧ (wholeText texts).usedBlocks < 128
          ∧ (wholeText texts).slotAt 0 = none
          ∧ ((wholeText texts).entryAt 0).map (fun e => (e.state.name, e.update, e.texts)) =
              some (.collecting, 2, texts))
      ∧ readText (textBytes (segment 2 0 1)) = some (segment 2 0 1) ∧ (segment 2 0 1).count = 1
      ∧ (∀ texts, (wholeText texts).slotsOk) ∧ (∀ texts, (wholeText texts).keepsPower)
      ∧ ∀ texts n sl, (wholeText texts).slotAt n ≠ some sl := by
  refine ⟨by decide +kernel, by decide +kernel, rfl, fun _ => ?_, fun _ => ?_, fun texts n sl h => ?_⟩
  · show live.slotsOk
    unfold State.slotsOk; decide +kernel
  · show live.keepsPower
    unfold State.keepsPower; decide +kernel
  · rw [no_slots (s := wholeText texts) rfl] at h
    cases h

/-- A part with an unbound slot of update 2, and a segment of its key waiting, for no entry or an older one. -/
def joining (stored : List (Option Block)) (s : State) : State :=
  let s := paged .text (textBytes (segment 2 1 2)) s
  { s with sa := ⟨some ⟨⟨alert.id, 2, 0⟩, stored.length, stored, 9000000, false, 0⟩ :: List.replicate 7 none⟩ }

theorem witness_TextSegment_unbound :
    let b : Option Block := some ⟨List.replicate 96 0x41⟩
    (∀ stored ∈ [[b, none, none], [b, b], [b, none]], ∀ s ∈ [live, holding { alert with update := 1 }],
        (joining stored s).settled = true ∧ (joining stored s).al.config = some cfg
          ∧ (joining stored s).findSlot ⟨alert.id, 2, 0⟩ = some 0
          ∧ ((joining stored s).slotAt 0).map Slot.bound = some false ∧ (joining stored s).usedBlocks < 128)
      ∧ (joining [b, none] live).slotOf alert.id = none
      ∧ (joining [b, none] (holding { alert with update := 1 })).slotOf alert.id = some 0 := by decide +kernel

/-- A text frame, and a header of a new identity, from a peer; a copy that reaches the threshold, and a covered
tally, for a job that is staged, with another one or none behind it, and for one that is queued. -/
theorem witness_RxFifoProcess_cuts :
    let copy : HeaderSegment := { newer .alert with update := 2 }
    let dup (r : RelayState) (q : List Job) : State :=
      received 1 (headerBytes copy) (waiting q (relayingPart .defer false false [] r))
    let rep (st : TallySendState) (q : List Job) : State :=
      received 3 (tallyBytes ⟨alert.id, alert.tally⟩) (waiting q (tallyingPart .defer false false st))
    (∀ s ∈ [received 2 (textBytes (segment 2 0 2)), received 1 exampleBytes, dup .staged [], dup .staged [tallyOf],
          rep .staged [], rep .staged [⟨alert.id, .relay, 10, some 2, [.header], 0⟩],
          received 3 (tallyBytes ⟨alert.id, alert.tally⟩)
            (waiting [tallyOf] (holding { alert with tallySend := ⟨.queued, none, false⟩ } (crowded 0 alert)))],
        s.settled = true ∧ s.al.config = some cfg ∧ s.pwc.power = .awake ∧ s.pwc.hold ≠ .runOut
          ∧ s.slc.medium ≠ .off ∧ s.slc.medium ≠ .dozeSampling ∧ s.slc.rxFifo.length = 1)
      ∧ readFrame (makeFrame 2 0x00B12A04 (textBytes (segment 2 0 2))) = some (.text (segment 2 0 2))
      ∧ readText (textBytes (segment 2 0 2)) = some (segment 2 0 2)
      ∧ readFrame (makeFrame 1 0x00B12A04 (headerBytes copy)) = some (.header copy)
      ∧ copy.update = alert.update ∧ copy.action = alert.action
      ∧ cfg.threshold ≤ min 15 (alert.relay.duplicates + 1)
      ∧ coveredBy (mergeTally alert.tally alert.tally) alert.tally = true
      ∧ (dup .staged [tallyOf]).buildBurst alert.id ([FrameRef.tally].take 6) ≠ []
      ∧ live.tableOk ∧ live.slotOf exampleHeader.id = none := by
  refine ⟨by decide +kernel, by decide +kernel, by decide +kernel, by decide +kernel, rfl, rfl, by decide,
    by decide +kernel, by decide +kernel, by unfold State.tableOk; decide +kernel, by decide +kernel⟩

/-- After the cut of the staged relay job the next job of the queue is staged (R101, R90). -/
theorem test_cutThenNextHead :
    let s := received 1 (headerBytes { newer .alert with update := 2 })
      (waiting [tallyOf] (relayingPart .defer false false [] .staged))
    ((after .rxFifoProcess s).entryAt 0).map (fun e => (e.relay.state, e.relay.duplicates)) =
        some (.suppressed, 2)
      ∧ (after .rxFifoProcess s).slc.current.map CurrentJob.job = some tallyOf
      ∧ (after .rxFifoProcess s).slc.queue = [] := by decide +kernel

/-- Jobs over at their burst completion: a tally's, ended and complete, and a relay's with a job behind it. -/
theorem witness_BurstCompletion_queueAndTally :
    (∀ endMark ∈ [true, false], ∀ s ∈ [tallyingPart (.send 10521028) true endMark .sending,
          waiting [tallyOf] (relayingPart (.send 10521028) true endMark [] .sending)],
        s.settled = true ∧ s.pwc.power = .awake ∧ s.slotOf alert.id = some 0
          ∧ (s.slc.current.map fun c => (c.endMark, c.unstaged)) = some (endMark, []))
      ∧ (after .burstCompletion
          (waiting [tallyOf] (relayingPart (.send 10521028) true false [] .sending))).slc.current.map
          CurrentJob.job = some tallyOf := by decide +kernel

/-- A COLLECTING entry with a bound slot; one whose job is queued, staged, or on the air; and one that is due for a
report when it expires, with the uplink open and closed. -/
theorem witness_Lifetime_slotsJobsReports :
    let other : Job := ⟨⟨0x0300, 1⟩, .relay, 9, some 1, [.header], 0⟩
    (∀ s ∈ [assembling, tallyingPart .defer false false .staged,
          waiting [other] (tallyingPart (.send 10521028) true false .sending),
          waiting [tallyOf, other] (crowded 0 alert), covered (holding alert)],
        s.settled = true ∧ s.slotOf alert.id = some 0 ∧ s.pwc.power = .awake ∧ s.pwc.hold ≠ .runOut
          ∧ s.slc.queue.filter (·.id ≠ alert.id) = s.slc.queue.filter (· = other)
          ∧ (s.entryAt 0).map (fun e => s.reportJoins 0 { e with state := .expired 1930000000 }) = some [0])
      ∧ assembling.slotAt 0 ≠ none ∧ covered.fp.coverage = true ∧ live.fp.coverage = false := by decide +kernel

/-- A queue at the end of the warm-up, four pairs, and a sixth pair past the window; the head is staged. -/
theorem witness_SampleWindows_headAndNoPattern :
    let w : Window := ⟨9992000, 5, .space 9999601⟩
    let s := waiting [tallyOf]
      (holding { alert with tallySend := ⟨.queued, none, false⟩ } (dozing (some 10002000) none))
    (dozing none (some w)).settled = true ∧ w.opened + 8000 < 9999601 + 400
      ∧ (dozing none (some ⟨9994000, 4, .mark 9999500⟩)).settled = true
      ∧ s.settled = true ∧ s.pwc.power = .doze ∧ s.al.config = some cfg
      ∧ (after .warmUpEnd s).slc.current.map CurrentJob.job = some tallyOf
      ∧ (after .warmUpEnd s).slc.medium = .defer := by decide +kernel

/-! ### Witnesses: the FIFOs in DOZE, headers that change or leave their entry, ends of reception -/

/-- A part in DOZE with its warm-up running until 10.002 s. -/
def warming (s : State) : State :=
  { s with
    slc := { s.slc with medium := .dozeSampling, quietSince := none }
    pwc := (dozing (some 10002000) none).pwc }

/-- Pages waiting while the warm-up runs: a header of a new identity, a text segment for an unbound slot, and one that
finds all eight slots open. -/
theorem witness_pagesInDoze :
    let e : Entry := { alert with state := .collecting 310000000, texts := [⟨0x11A6, 2, .absent⟩] }
    (∀ s ∈ [paged .header exampleBytes, joining [some ⟨[0x41]⟩, none] live, shortOfSlots true 10 e],
        (warming s).settled = true ∧ (warming s).al.config = some cfg ∧ (warming s).fp.pageFifo.length = 1)
      ∧ ∀ s, (warming s).keepsPower :=
  ⟨by decide +kernel, fun _ => .inr ⟨rfl, rfl⟩⟩

/-- The entry as EXPIRED, and as CANCELLED by update 2. -/
def expiredEntry : Entry := { alert with state := .expired 130000000 }
def cancelledEntry : Entry := { alert with action := .cancel, state := .cancelled, texts := [] }

/-- The entry's header with another update number. -/
def numbered (update : Nat) (action : Action) : HeaderSegment := { newer action with update := update }

/-- Peer headers that are stale or ignored: a lower update, an equal one at an EXPIRED entry, an ALERT's equal one at a
CANCELLED entry. None is counted as a duplicate (R23, R130). -/
theorem witness_RxFifoProcess_staleOrIgnored :
    (∀ c ∈ [(numbered 1 .alert, relaying (.waiting 10522000)), (numbered 2 .alert, expiredEntry),
          (numbered 2 .cancel, expiredEntry), (numbered 2 .alert, cancelledEntry)],
        (received 1 (headerBytes c.1) (holding c.2)).settled = true
          ∧ readFrame (makeFrame 1 0x00B12A04 (headerBytes c.1)) = some (.header c.1)
          ∧ (holding c.2).slotOf c.1.id = some 0 ∧ (holding c.2).entryAt 0 = some c.2
          ∧ (c.1.update < c.2.update
            ∨ c.1.update = c.2.update
              ∧ (c.2.state.name = .expired ∨ c.1.action = .alert ∧ c.2.action = .cancel))
          ∧ ((after .rxFifoProcess (received 1 (headerBytes c.1) (holding c.2))).entryAt 0).map
              (fun e => e.relay.duplicates) = some 1)
      ∧ live.keepsPower := ⟨by decide +kernel, .inl ⟨rfl, by decide⟩⟩

/-- A tally that covers the entry's staged one and makes it due, with the uplink open and a relay job behind: the next
head is staged, and the report goes (R101, R90, R172). -/
theorem witness_RxFifoProcess_headAndReport :
    let tally : Tally := .list ((List.range 10).map fun n => BitVec.ofNat 32 (n + 1))
    let next : Job := ⟨alert.id, .relay, 10, some 2, [.header], 0⟩
    let p := covered (waiting [next] (tallyingPart .defer false false .staged))
    let s := received 3 (tallyBytes ⟨alert.id, tally⟩) { p with atc := (holding (nearlyDue .staged)).atc }
    s.settled = true ∧ s.al.config = some cfg
      ∧ readFrame (makeFrame 3 0x00B12A04 (tallyBytes ⟨alert.id, tally⟩)) = some (.tally ⟨alert.id, tally⟩)
      ∧ coveredBy (mergeTally (nearlyDue .staged).tally tally) tally = true
      ∧ s.reportJoins 0 { nearlyDue .staged with tally := mergeTally (nearlyDue .staged).tally tally } = [0]
      ∧ (after .rxFifoProcess s).slc.current.map CurrentJob.job = some next
      ∧ (after .rxFifoProcess s).out.feed.isSome = true
      ∧ (after .rxFifoProcess s).tu.outstanding.map Outstanding.count = some 10 := by decide +kernel

/-- The relay job of the entry, queued. -/
def relayOf : Job := ⟨alert.id, .relay, 10, some 2, [.header], 9000000⟩

/-- A superseding and a cancelling header, from a peer and from the cell, for an entry with no job, with its relay job
staged and another job behind it, on the air, and queued. -/
theorem witness_SupersedeAndCancelKeepTheTally :
    (∀ h ∈ [newer .alert, newer .cancel, numbered 2 .cancel],
        ∀ p ∈ [holding alert, waiting [tallyOf] (relayingPart .defer false false [] .staged),
          relayingPart (.send 10521028) true false [] .sending, waiting [relayOf] (crowded 0 (relaying .queued)),
          holding telling, covered (holding alert)],
        ∀ s ∈ [received 1 (headerBytes h) p, paged .header (headerBytes h) p],
        s.settled = true ∧ s.al.config = some cfg ∧ s.slotOf h.id = some 0
          ∧ (s.entryAt 0).map (fun e => (e.update, e.action, e.state.name)) = some (2, .alert, .presenting)
          ∧ s.slc.medium ≠ .off ∧ s.slc.medium ≠ .dozeSampling)
      ∧ (∀ h ∈ [newer .alert, newer .cancel, numbered 2 .cancel],
        readHeader (headerBytes h) = some h
          ∧ readFrame (makeFrame 1 0x00B12A04 (headerBytes h)) = some (.header h))
      ∧ (∀ p : State, p.atc.position = none → p.freshAt p.now) := by
  refine ⟨by decide +kernel, by decide +kernel, fun p h => (fresh_without_position h _).2⟩

/-- A header of update 3 waiting in a part whose one open slot is unbound and holds the header's only text so far. -/
def offered (stored : List (Option Block)) (s : State) : State :=
  let s := paged .header (headerBytes (newer .alert)) s
  { s with sa := ⟨some ⟨⟨alert.id, 3, 0⟩, stored.length, stored, 9000000, false, 0⟩ :: List.replicate 7 none⟩ }

/-- The text of the accepted ALERT is not whole, or is, for a new identity and for an entry that is superseded. -/
theorem witness_offered (s : State) :
    (offered [some ⟨[0x41]⟩, none] s).lacksText (newer .alert)
      ∧ (offered [some ⟨[0x41]⟩, some ⟨[0x42]⟩] s).hasEveryText (newer .alert)
      ∧ ∀ stored n sl, (offered stored s).slotAt n = some sl → sl.bound = false := by
  refine ⟨⟨0, by decide, fun n sl h _ => ?_⟩, ⟨fun k spec hk => ?_, fun n sl h _ _ => ?_⟩,
    fun stored n sl h => ?_⟩
  · obtain ⟨-, rfl⟩ := only_slot rfl h
    exact ⟨1, rfl⟩
  · match k with
    | 0 => cases hk; exact ⟨0, _, rfl, rfl, rfl, fun m => by match m with | 0 | 1 | _ + 2 => simp⟩
    | _ + 1 => cases hk
  · obtain ⟨-, rfl⟩ := only_slot rfl h
    decide
  · obtain ⟨-, rfl⟩ := only_slot rfl h
    rfl

theorem witness_SupersedeAndCancel_slots :
    (∀ stored ∈ [[some ⟨[0x41]⟩, none], [some ⟨[0x41]⟩, some ⟨[0x42]⟩]], ∀ s ∈ [live, holding telling],
        (offered stored s).settled = true ∧ (offered stored s).al.config = some cfg
          ∧ (offered stored s).fp.pageFifo.length = 1 ∧ (offered stored s).slc.queue = [])
      ∧ live.slotOf alert.id = none ∧ live.entryAt 0 = none ∧ (holding telling).slotOf alert.id = some 0
      ∧ live.tableOk ∧ ∀ stored s, (offered stored s).slotsOk :=
  ⟨by decide +kernel, by decide +kernel, rfl, by decide +kernel, by unfold State.tableOk; decide +kernel,
    fun _ _ => ⟨rfl, by simp [State.slotKeys, offered]⟩⟩

/-- A CANCEL of the cell ends the staged relay job, and the next head is staged (R29, R100, R90). -/
theorem test_cancelEndsTheJob :
    let t := after .pageFifoProcess (paged .header (headerBytes (newer .cancel))
      (waiting [tallyOf] (relayingPart .defer false false [] .staged)))
    (t.entryAt 0).map (fun e => (e.state, e.origin, e.relay.update)) = some (.cancelled, .cell, 3)
      ∧ t.slc.current.map CurrentJob.job = some tallyOf ∧ t.slc.queue = [] := by decide +kernel

/-- A supersede starts a tally wait anew (R142) and takes the text that was whole already (R28, R34). -/
theorem test_supersedeWithWholeText :
    let t := after .pageFifoProcess (offered [some ⟨[0x41]⟩, some ⟨[0x42]⟩]
      (holding { alert with tallySend := ⟨.waiting 10500000, none, false⟩ }))
    (t.entryAt 0).map (fun e => (e.update, e.texts.map TextRecord.state)) =
        some (3, [.complete [⟨[0x41]⟩, ⟨[0x42]⟩]])
      ∧ (t.entryAt 0).map (fun e => e.tallySend.state) = some (.waiting 11419000)
      ∧ t.slotAt 0 = none := by decide +kernel

/-- A reception that ends after the busy period has lasted the hold limit, with a burst staged (R103, R106). -/
theorem witness_CarrierEnd_jam :
    let p := relayingPart .receive false false [] .staged
    let s : State := { p with slc := { p.slc with
      quietSince := none, carrier := some 9000000, busyStart := some 9200000 } }
    s.settled = true ∧ s.al.config = some cfg ∧ s.pwc.power = .awake ∧ s.slc.stage ≠ []
      ∧ 9200000 + 1000 * cfg.holdLimit = s.now
      ∧ (relayingPart (.contend 0xAE80 2 10000100) false false [] .staged).slc.medium.name = .contend
      ∧ (relayingPart (.contend 0xAE80 2 10000100) false false [] .staged).slc.medium.sending = false
      ∧ (after (.carrierEnd 0) s).slc.medium = .jammed := by decide +kernel

end Sys2Proof.Tests
end

section
/-! The area test and the area result (R12 to R14): what the level of a well-formed zone code says about its
fields, the rows of R13 read off from that, and the result of a zone list by what its zones give. -/

namespace Sys2Proof.Machine

/-! ### Levels and fields (R12) -/

/-- R12's exclusions: without a field a zone code has none of the finer ones. -/
theorem zoneOk_iff (z : ZoneCode) :
    zoneOk z = true ↔
      (zoneRegion z = 0 → zoneDistrict z = 0) ∧ (zoneDistrict z = 0 → zoneSquare z = 0) := by
  unfold zoneOk
  split_ifs with hregion <;> simp [hregion] <;> tauto

theorem zoneLevel_eq_nation_iff (z : ZoneCode) : zoneLevel z = .nation ↔ zoneRegion z = 0 := by
  unfold zoneLevel
  split_ifs <;> simp_all

theorem one_le_rank_zoneLevel_iff (z : ZoneCode) : 1 ≤ (zoneLevel z).rank ↔ zoneRegion z ≠ 0 := by
  unfold zoneLevel
  split_ifs <;> simp_all [Level.rank]

theorem two_le_rank_zoneLevel_iff {z : ZoneCode} (hz : zoneOk z = true) :
    2 ≤ (zoneLevel z).rank ↔ zoneDistrict z ≠ 0 := by
  obtain ⟨hdistrict, -⟩ := (zoneOk_iff z).1 hz
  unfold zoneLevel
  split_ifs <;> simp_all [Level.rank]

theorem three_le_rank_zoneLevel_iff {z : ZoneCode} (hz : zoneOk z = true) :
    3 ≤ (zoneLevel z).rank ↔ zoneSquare z ≠ 0 := by
  obtain ⟨hdistrict, hsquare⟩ := (zoneOk_iff z).1 hz
  unfold zoneLevel
  split_ifs <;> simp_all [Level.rank]

theorem Level.rank_le_three (l : Level) : l.rank ≤ 3 := by
  cases l <;> decide

/-- P is at least as fine as Z where it specifies each field that Z specifies (R13, fourth row). -/
theorem rank_zoneLevel_le_iff {z p : ZoneCode} (hz : zoneOk z = true) (hp : zoneOk p = true) :
    (zoneLevel z).rank ≤ (zoneLevel p).rank ↔
      (zoneRegion z ≠ 0 → zoneRegion p ≠ 0) ∧ (zoneDistrict z ≠ 0 → zoneDistrict p ≠ 0)
        ∧ (zoneSquare z ≠ 0 → zoneSquare p ≠ 0) := by
  rw [← one_le_rank_zoneLevel_iff z, ← one_le_rank_zoneLevel_iff p, ← two_le_rank_zoneLevel_iff hz,
    ← two_le_rank_zoneLevel_iff hp, ← three_le_rank_zoneLevel_iff hz, ← three_le_rank_zoneLevel_iff hp]
  have hmax := (zoneLevel z).rank_le_three
  omega

/-! ### The area test of one zone (R13) -/

/-- R13's third row on the fields: a level reaches a field exactly where the field is specified. -/
theorem zonesDiffer_iff {z p : ZoneCode} (hz : zoneOk z = true) (hp : zoneOk p = true) :
    zonesDiffer z p = true ↔
      (zoneRegion z ≠ 0 ∧ zoneRegion p ≠ 0 ∧ zoneRegion z ≠ zoneRegion p)
        ∨ (zoneDistrict z ≠ 0 ∧ zoneDistrict p ≠ 0 ∧ zoneDistrict z ≠ zoneDistrict p)
        ∨ (zoneSquare z ≠ 0 ∧ zoneSquare p ≠ 0 ∧ zoneSquare z ≠ zoneSquare p) := by
  simp only [zonesDiffer, le_min_iff, one_le_rank_zoneLevel_iff, two_le_rank_zoneLevel_iff hz,
    two_le_rank_zoneLevel_iff hp, three_le_rank_zoneLevel_iff hz, three_le_rank_zoneLevel_iff hp,
    Bool.or_eq_true, Bool.and_eq_true, decide_eq_true_eq, bne_iff_ne, and_assoc, or_assoc]

theorem zoneTest_of_nation (position : Option ZoneCode) {z : ZoneCode} (hnation : zoneRegion z = 0) :
    zoneTest position z = .inside :=
  if_pos ((zoneLevel_eq_nation_iff z).2 hnation)

theorem zoneTest_none {z : ZoneCode} (hregion : zoneRegion z ≠ 0) : zoneTest none z = .unknown :=
  if_neg (mt (zoneLevel_eq_nation_iff z).1 hregion)

theorem zoneTest_some {z : ZoneCode} (hregion : zoneRegion z ≠ 0) (p : ZoneCode) :
    zoneTest (some p) z =
      if zonesDiffer z p then .outside
      else if (zoneLevel z).rank ≤ (zoneLevel p).rank then .inside
      else .unknown :=
  if_neg (mt (zoneLevel_eq_nation_iff z).1 hregion)

/-! ### The area result of a zone list (R14) -/

theorem areaTest_eq_inside_iff (position : Option ZoneCode) (zs : List ZoneCode) :
    areaTest position zs = .inside ↔ ∃ z ∈ zs, zoneTest position z = .inside := by
  unfold areaTest
  split_ifs <;> simp_all

theorem areaTest_eq_outside_iff (position : Option ZoneCode) (zs : List ZoneCode) :
    areaTest position zs = .outside ↔ ∀ z ∈ zs, zoneTest position z = .outside := by
  unfold areaTest
  split_ifs with hinside hunknown
  · obtain ⟨z, hmem, htest⟩ := by simpa using hinside
    exact iff_of_false (by decide) fun hall => by simp [hall z hmem] at htest
  · obtain ⟨z, hmem, htest⟩ := by simpa using hunknown
    exact iff_of_false (by decide) fun hall => by simp [hall z hmem] at htest
  · refine iff_of_true rfl fun z hmem => ?_
    cases htest : zoneTest position z with
    | inside => exact absurd (List.any_eq_true.2 ⟨z, hmem, by simp [htest]⟩) hinside
    | unknown => exact absurd (List.any_eq_true.2 ⟨z, hmem, by simp [htest]⟩) hunknown
    | outside => rfl

theorem areaTest_congr (position : Option ZoneCode) {zs zs' : List ZoneCode}
    (hmem : ∀ z, z ∈ zs ↔ z ∈ zs') : areaTest position zs = areaTest position zs' := by
  have hany (q : ZoneCode → Bool) : zs.any q = zs'.any q :=
    Bool.eq_iff_iff.2 (by simp only [List.any_eq_true, hmem])
  simp only [areaTest, hany]

/-- Settles O9, row by row of R13 from the levels of well-formed zone codes, and R14 from the list's zones. -/
theorem areaTestAndAreaResult : Obligations.AreaTestAndAreaResult := by
  refine ⟨fun position z hz hposition => ?_, fun position _ _ => areaTest_congr position,
    fun position zs => ⟨areaTest_eq_inside_iff position zs, areaTest_eq_outside_iff position zs⟩⟩
  by_cases hregion : zoneRegion z = 0
  · rw [if_pos hregion, zoneTest_of_nation position hregion]
  rw [if_neg hregion]
  cases position with
  | none => exact zoneTest_none hregion
  | some p =>
    have hp : zoneOk p = true := hposition p rfl
    simp only [zoneTest_some hregion, zonesDiffer_iff hz hp, rank_zoneLevel_le_iff hz hp, ne_eq, hregion,
      not_false_eq_true, true_and, forall_const]

end Sys2Proof.Machine
end

section
/-! Tallies (chapter 8): the rank of a tag by the powers of 2 that divide it, what folds and merges make of each
bucket, and the bounds of the estimate and the count. -/

namespace Sys2Proof.Machine

/-! ### Bucket and rank of a tag (R147) -/

/-- The trailing zero bits of `q` count the factors of 2 in it. -/
theorem two_pow_trailingZeros_dvd {fuel q : Nat} (hpos : 0 < q) (hfuel : q < 2 ^ fuel) :
    2 ^ trailingZeros fuel q ∣ q ∧ ¬ 2 ^ (trailingZeros fuel q + 1) ∣ q := by
  induction fuel generalizing q with
  | zero => omega
  | succ fuel ih =>
    unfold trailingZeros
    split_ifs with hodd
    · exact ⟨one_dvd q, by rw [zero_add, pow_one]; omega⟩
    · obtain ⟨half, rfl⟩ : 2 ∣ q := by omega
      obtain ⟨hdvd, hnot⟩ := ih (q := half) (by omega) (by omega)
      rw [Nat.mul_div_cancel_left half (by decide), Nat.add_comm 1]
      exact ⟨by rw [pow_succ']; exact Nat.mul_dvd_mul_left 2 hdvd,
        by rw [pow_succ']; exact mt (Nat.dvd_of_mul_dvd_mul_left (by decide)) hnot⟩

theorem tagRank_of_div_eq_zero {t : Tag} (hq : t.toNat / 32 = 0) : tagRank t = 16 := if_pos hq

theorem tagRank_of_div_ne_zero {t : Tag} (hq : t.toNat / 32 ≠ 0) :
    tagRank t = min 16 (1 + trailingZeros 27 (t.toNat / 32)) := if_neg hq

/-- Settles O10: the zero bits of the 27 bits above the bucket are the factors of 2, and each row evaluates. -/
theorem bucketAndRankOfTag : Obligations.BucketAndRankOfTag := by
  refine ⟨fun t => ⟨rfl, tagRank_of_div_eq_zero, fun hq => ?_⟩, by decide⟩
  have hq27 : t.toNat / 32 < 2 ^ 27 := Nat.div_lt_of_lt_mul t.isLt
  obtain ⟨hdvd, hnot⟩ := two_pow_trailingZeros_dvd (Nat.pos_of_ne_zero hq) hq27
  exact ⟨_, hdvd, hnot, tagRank_of_div_ne_zero hq⟩

/-! ### A list of tags folded into a sketch (R148) -/

@[simp] theorem foldl_foldTag_length (tags : List Tag) (ranks : List Nat) :
    (tags.foldl foldTag ranks).length = ranks.length := by
  induction tags generalizing ranks with
  | nil => rfl
  | cons t tags ih => rw [List.foldl_cons, ih, foldTag_length]

/-- Folding the tags gives each bucket the least rank that is neither below its own nor below the rank of a tag
that falls into it. -/
theorem foldl_foldTag_getD_le_iff {tags : List Tag} {ranks : List Nat} {b n : Nat} (hb : b < ranks.length) :
    (tags.foldl foldTag ranks).getD b 0 ≤ n ↔
      ranks.getD b 0 ≤ n ∧ ∀ t ∈ tags, tagBucket t = b → tagRank t ≤ n := by
  induction tags generalizing ranks with
  | nil => simp
  | cons t tags ih =>
    rw [List.foldl_cons, ih (by simpa using hb), foldTag_getD, List.forall_mem_cons, ← and_assoc]
    by_cases hbucket : tagBucket t = b
    · simp [hbucket, hb]
    · simp [hbucket, Ne.symm hbucket]

/-- A bucket's rank after the folds is the one it had or that of a tag that falls into it. -/
theorem foldl_foldTag_getD_cases (tags : List Tag) (ranks : List Nat) (b : Nat) :
    (tags.foldl foldTag ranks).getD b 0 = ranks.getD b 0
      ∨ ∃ t ∈ tags, tagBucket t = b ∧ tagRank t = (tags.foldl foldTag ranks).getD b 0 := by
  induction tags generalizing ranks with
  | nil => exact .inl rfl
  | cons t tags ih =>
    rw [List.foldl_cons]
    rcases ih (foldTag ranks t) with hkept | ⟨u, hu, hbucket, hrank⟩
    · rw [hkept, foldTag_getD]
      split_ifs with hown
      · rcases max_choice (ranks.getD b 0) (tagRank t) with hmax | hmax
        · exact .inl hmax
        · exact .inr ⟨t, List.mem_cons_self, hown.1.symm, hmax.symm⟩
      · exact .inl rfl
    · exact .inr ⟨u, List.mem_cons_of_mem t hu, hbucket, hrank⟩

/-! ### Merging into a sketch (R153, R154) -/

/-- Settles O11: the ranks after the folds, bucket by bucket. -/
theorem mergeOfListIntoSketch : Obligations.MergeOfListIntoSketch := by
  intro ranks floor tags hlen
  refine ⟨⟨tags.foldl foldTag ranks, rfl, by simp [hlen], fun b hb => ?_⟩, by simp [mergeTally]⟩
  obtain ⟨hown, htags⟩ := (foldl_foldTag_getD_le_iff (tags := tags) (hlen ▸ hb)).1 le_rfl
  exact ⟨hown, htags, foldl_foldTag_getD_cases tags ranks b⟩

/-- Two sketches merged take the larger rank in each bucket. -/
theorem zipWith_max_getD {ranks ranks' : List Nat} (hlen : ranks.length = ranks'.length) (b : Nat) :
    (List.zipWith max ranks ranks').getD b 0 = max (ranks.getD b 0) (ranks'.getD b 0) := by
  by_cases hb : b < ranks.length
  · have hb' : b < ranks'.length := hlen ▸ hb
    simp [hb, hb']
  · have hb' : ¬ b < ranks'.length := hlen ▸ hb
    simp [hb, hb']

/-- Settles O12: a merged rank is the larger of two, where an own LIST is first folded into the empty sketch. -/
theorem mergeOfSketch : Obligations.MergeOfSketch := by
  refine ⟨fun ranks ranks' floor floor' hlen hlen' => ?_, fun tags ranks' floor' hlen' => ?_⟩
  · exact ⟨_, rfl, by simp [hlen, hlen'], fun b _ => zipWith_max_getD (hlen.trans hlen'.symm) b⟩
  · have hlen : (tags.foldl foldTag zeroRanks).length = 32 := foldl_foldTag_length tags zeroRanks
    refine ⟨_, rfl, by simp [hlen, hlen'], fun b hb => ?_⟩
    rw [zipWith_max_getD (hlen.trans hlen'.symm)]
    obtain ⟨-, htags⟩ := (foldl_foldTag_getD_le_iff (tags := tags) (ranks := zeroRanks) hb).1 le_rfl
    refine ⟨le_max_right _ _, fun t ht hbucket => (htags t ht hbucket).trans (le_max_left _ _), ?_⟩
    rcases max_choice ((tags.foldl foldTag zeroRanks).getD b 0) (ranks'.getD b 0) with hmax | hmax
    · rcases foldl_foldTag_getD_cases tags zeroRanks b with hzero | ⟨t, ht, hbucket, hrank⟩
      · rw [hzero, zeroRanks, List.getD_replicate (h := hb), Nat.zero_max]
        exact .inl rfl
      · exact .inr ⟨t, ht, hbucket, hrank.trans hmax.symm⟩
    · exact .inl hmax

/-! ### The sum S and E_raw (R159) -/

theorem rankSum_eq_sum_range {ranks : List Nat} (hlen : ranks.length = 32) :
    rankSum ranks = ((List.range 32).map fun b => 2 ^ (16 - ranks.getD b 0)).sum := by
  rw [rankSum]
  congr 1
  exact List.ext_getElem (by simp [hlen]) (by simp +contextual)

theorem length_le_rankSum (ranks : List Nat) : ranks.length ≤ rankSum ranks := by
  have hterm : ∀ x ∈ ranks.map fun r => 2 ^ (16 - r), 1 ≤ x :=
    List.forall_mem_map.2 fun _ _ => Nat.one_le_two_pow
  simpa [rankSum] using List.card_nsmul_le_sum _ 1 hterm

theorem rankSum_le (ranks : List Nat) : rankSum ranks ≤ ranks.length * 65536 := by
  have hterm : ∀ x ∈ ranks.map fun r => 2 ^ (16 - r), x ≤ 2 ^ 16 :=
    List.forall_mem_map.2 fun r _ => Nat.pow_le_pow_right (by decide) (Nat.sub_le 16 r)
  simpa [rankSum] using List.sum_le_card_nsmul _ (2 ^ 16) hterm

theorem rankSum_bounds {ranks : List Nat} (hlen : ranks.length = 32) :
    32 ≤ rankSum ranks ∧ rankSum ranks ≤ 2097152 :=
  ⟨hlen ▸ length_le_rankSum ranks, by simpa [hlen] using rankSum_le ranks⟩

/-- The sum does not rise where no rank falls. -/
theorem rankSum_anti {ranks ranks' : List Nat} (hlen : ranks.length = 32) (hlen' : ranks'.length = 32)
    (hle : ∀ b < 32, ranks.getD b 0 ≤ ranks'.getD b 0) : rankSum ranks' ≤ rankSum ranks := by
  rw [rankSum_eq_sum_range hlen, rankSum_eq_sum_range hlen']
  exact List.sum_le_sum fun b hb =>
    Nat.pow_le_pow_right (by decide) (Nat.sub_le_sub_left (hle b (List.mem_range.1 hb)) 16)

theorem rawEstimate_anti {ranks ranks' : List Nat} (hpos : 0 < rankSum ranks')
    (hle : rankSum ranks' ≤ rankSum ranks) : rawEstimate ranks ≤ rawEstimate ranks' :=
  Nat.div_le_div_left hle hpos

/-- The range of E_raw, from that of the sum. -/
theorem rawEstimate_bounds {ranks : List Nat} (hlen : ranks.length = 32) :
    22 ≤ rawEstimate ranks ∧ rawEstimate ranks ≤ 1462272 := by
  obtain ⟨hlower, hupper⟩ := rankSum_bounds hlen
  exact ⟨(Nat.le_div_iff_mul_le (by omega)).2 (by omega), Nat.div_le_of_le_mul (by omega)⟩

/-! ### The estimate (R160) -/

theorem emptyBuckets_eq_count (ranks : List Nat) : emptyBuckets ranks = ranks.count 0 := rfl

theorem estimate_of_table {ranks : List Nat} (hraw : rawEstimate ranks ≤ 80) (hempty : 0 < ranks.count 0) :
    estimate ranks = lcTable.getD (ranks.count 0) 0 := if_pos ⟨hraw, hempty⟩

theorem estimate_of_raw {ranks : List Nat} (h : 80 < rawEstimate ranks ∨ ranks.count 0 = 0) :
    estimate ranks = rawEstimate ranks := by
  refine if_neg fun ⟨hraw, hempty⟩ => ?_
  rw [emptyBuckets_eq_count] at hempty
  omega

/-- An estimate is no larger than E_raw or than the largest value of the table. -/
theorem estimate_le (ranks : List Nat) : estimate ranks ≤ max (rawEstimate ranks) 111 := by
  have htable (v : Nat) : lcTable.getD v 0 ≤ 111 := by
    rcases lt_or_ge v lcTable.length with hv | hv
    · rw [List.getD_eq_getElem lcTable 0 hv]
      exact (by decide : ∀ x ∈ lcTable, x ≤ 111) _ (List.getElem_mem hv)
    · rw [List.getD_eq_default lcTable 0 hv]
      decide
  unfold estimate
  split_ifs
  · exact (htable _).trans (le_max_right _ _)
  · exact le_max_left _ _

/-- Only a sum below 45 takes the estimate past the clamp of R161. -/
theorem estimate_le_clamp {ranks : List Nat} (hsum : 45 ≤ rankSum ranks) : estimate ranks ≤ 1048575 := by
  have hraw : rawEstimate ranks ≤ 1048575 := Nat.div_le_of_le_mul (by omega)
  exact (estimate_le ranks).trans (max_le hraw (by decide))

/-! ### The count (R158, R161) -/

/-- What a tally's count never falls below: the number of tags of a LIST, the floor of a SKETCH. -/
def tallyFloor : Tally → Nat
  | .list tags => tags.length
  | .sketch _ floor => floor

theorem tallyFloor_le_tallyCount (tally : Tally) : tallyFloor tally ≤ tallyCount tally := by
  cases tally with
  | list tags => exact le_rfl
  | sketch ranks floor => exact le_max_right _ _

theorem addTag_of_room {tags : List Tag} {t : Tag} (hnew : t ∉ tags) (hroom : tags.length < 24) :
    addTag (.list tags) t = .list (insertTag t tags) := by
  rw [addTag, if_neg hnew, if_pos hroom]

/-- An added tag keeps every bound up to 25, the floor that a conversion sets. -/
theorem le_tallyFloor_addTag {n : Nat} {tally : Tally} (t : Tag) (hn : n ≤ 25) (h : n ≤ tallyFloor tally) :
    n ≤ tallyFloor (addTag tally t) := by
  cases tally with
  | list tags =>
    rw [addTag]
    split_ifs
    · exact h
    · exact h.trans (by simp [tallyFloor])
    · exact hn
  | sketch ranks floor => exact h

theorem le_tallyFloor_foldl_addTag {n : Nat} (tags : List Tag) {tally : Tally} (hn : n ≤ 25)
    (h : n ≤ tallyFloor tally) : n ≤ tallyFloor (tags.foldl addTag tally) := by
  induction tags generalizing tally with
  | nil => exact h
  | cons t tags ih => exact ih (le_tallyFloor_addTag t hn h)

theorem length_le_tallyFloor_mergeTally {tags : List Tag} (received : Tally) (hlen : tags.length ≤ 25) :
    tags.length ≤ tallyFloor (mergeTally (.list tags) received) := by
  cases received with
  | list tags' => exact le_tallyFloor_foldl_addTag tags' hlen le_rfl
  | sketch ranks' floor' => exact le_max_left _ _

/-- What R145 asks of a LIST. -/
theorem tallyOk_list_iff {tags : List Tag} :
    tallyOk (.list tags) = true ↔ tags.length ≤ 24 ∧ (∀ t ∈ tags, t ≠ 0) ∧ ascending tags = true := by
  simp [tallyOk, and_assoc]

/-- What R146 asks of a SKETCH. -/
theorem tallyOk_sketch_iff {ranks : List Nat} {floor : Nat} :
    tallyOk (.sketch ranks floor) = true ↔ floor ≤ 25 ∧ ranks.length = 32 ∧ ∀ r ∈ ranks, r ≤ 16 := by
  simp [tallyOk, and_assoc]

theorem tallyCount_sketch_le {floor : Nat} (ranks : List Nat) (hfloor : floor ≤ 25) :
    tallyCount (.sketch ranks floor) ≤ 1048575 :=
  max_le (min_le_right _ _) (by omega)

theorem rankSum_replicate_16 : rankSum (List.replicate 32 16) = 32 := by decide

theorem estimate_replicate_16 : estimate (List.replicate 32 16) = 1462272 := by decide

/-- Settles O14: S and E_raw by their ranges, the count by the bounds that adding and merging keep, and the
estimate by the two branches of R160. -/
theorem estimateAndCountOfTally : Obligations.EstimateAndCountOfTally := by
  refine ⟨⟨fun ranks hlen _ => ?_, fun ranks ranks' hlen hlen' _ _ hle => ?_⟩,
    ⟨fun _ => rfl, fun tags t hnew hroom => ?_, fun tags t hok => ?_, fun tags received hok _ => ?_,
      fun ranks floor hok => ?_, rankSum_replicate_16, by decide, fun floor hfloor => ?_⟩,
    fun ranks _ _ => ⟨fun hraw row hcount hrow => ?_, estimate_of_raw⟩⟩
  · obtain ⟨hlower, hupper⟩ := rankSum_bounds hlen
    exact ⟨rankSum_eq_sum_range hlen, hlower, hupper, rfl, rawEstimate_bounds hlen⟩
  · obtain ⟨hlower, -⟩ := rankSum_bounds hlen'
    exact rawEstimate_anti (by omega) (rankSum_anti hlen hlen' hle)
  · rw [addTag_of_room hnew hroom]
    exact insertTag_length t tags
  · obtain ⟨hlen, -, -⟩ := tallyOk_list_iff.1 hok
    exact (le_tallyFloor_addTag t (hlen.trans (by decide)) le_rfl).trans (tallyFloor_le_tallyCount _)
  · obtain ⟨hlen, -, -⟩ := tallyOk_list_iff.1 hok
    exact (length_le_tallyFloor_mergeTally received (hlen.trans (by decide))).trans
      (tallyFloor_le_tallyCount _)
  · obtain ⟨hfloor, -, -⟩ := tallyOk_sketch_iff.1 hok
    exact ⟨rfl, tallyFloor_le_tallyCount (.sketch ranks floor),
      tallyCount_sketch_le ranks hfloor, estimate_le_clamp⟩
  · rw [tallyCount, estimate_replicate_16]
    omega
  · have hempty : 0 < row.1 ∧ lcTable.getD row.1 0 = row.2 := by
      clear hcount
      revert row
      decide
    rw [estimate_of_table hraw (hcount ▸ hempty.1), hcount, hempty.2]

end Sys2Proof.Machine
end

section
/-! Commands that do nothing but answer: a state of rest stays one when a response is pending after activity,
so such a command completes in the answered state; and the answer of LIST ALERTS (R187), slot by slot. -/

namespace Sys2Proof.Machine

/-! ### The state of rest after activity -/

/-- What is left to do at the end of an event of a part at rest, in the parts of `settled`. -/
theorem State.settled_iff {s : State} :
    s.settled = true ↔
      (s.mayTakeHead = false ∨ s.slc.queue = []) ∧ s.maySendReport = false ∧ s.mayDoze = false
        ∧ (s.pwc.power = .awake ∨ s.workless = true ∨ s.pwc.warmUp.isSome = true) := by
  simp [State.settled, and_assoc, or_assoc]

@[simp] theorem State.settled_begin (s : State) : s.begin.settled = s.settled := rfl

@[simp] theorem State.settled_withResponse (s : State) (r : Option Response) :
    (s.withResponse r).settled = s.settled := rfl

/-- A change of Power Control keeps the state of rest where it lets no DOZE begin and needs no wake cause. -/
theorem State.settled_withPwc {s : State} {x : Pwc} (h : s.settled = true)
    (hdoze : x.power = .doze ∨ x.hold ≠ .runOut) (hwake : x.power = .awake ∨ x.warmUp.isSome = true) :
    (s.withPwc x).settled = true := by
  obtain ⟨hhead, hreport, -, -⟩ := State.settled_iff.1 h
  have hmayDoze : (s.withPwc x).mayDoze = false := by
    rcases hdoze with hpower | hhold
    · simp [State.mayDoze, hpower]
    · simp [State.mayDoze, hhold]
  exact State.settled_iff.2 ⟨hhead, hreport, hmayDoze, hwake.imp_right .inr⟩

/-- Activity restarts the hold in AWAKE and starts a warm-up in DOZE, neither of which leaves anything to do
(R112, R117). -/
theorem State.settled_activity {s : State} (h : s.settled = true) : s.activity.settled = true := by
  cases hpower : s.pwc.power with
  | awake =>
    cases hconfig : s.al.config with
    | none => rwa [State.activity_unconfigured hpower hconfig]
    | some cfg =>
      rw [State.activity_awake hpower hconfig]
      exact State.settled_withPwc h (.inr nofun) (.inl hpower)
  | doze =>
    cases hwarm : s.pwc.warmUp with
    | none =>
      rw [State.activity_doze hpower hwarm]
      exact State.settled_withPwc h (.inl hpower) (.inr rfl)
    | some t => rwa [State.activity_warming hpower (by simp [hwarm])]

theorem State.settled_answered {s : State} (h : s.settled = true) (r : Response) :
    (s.answered r).settled = true := by
  rw [State.answered, State.settled_withResponse]
  exact State.settled_activity (s.settled_begin.trans h)

/-! ### A command on a free link (R179, R180) -/

theorem State.linkFree_iff {s : State} :
    s.linkFree = true ↔ s.al.resetLine = false ∧ s.al.response = none := by
  simp [State.linkFree]

theorem transfer_of_linkFree {s : State} (h : s.linkFree = true) (f : State → State) :
    transfer f s = f s.activity := by
  obtain ⟨hline, hresponse⟩ := State.linkFree_iff.1 h
  simp [transfer, hline, hresponse]

theorem whenConfigured_of_config {s : State} {cfg : Settings} (h : s.al.config = some cfg)
    (f : State → State) : whenConfigured f s = f s := by
  simp [whenConfigured, State.configured, h]

/-- A command whose effect on a configured part at rest is a response completes in the answered state. -/
theorem command_eq_answered {s : State} {cfg : Settings} {f : State → State} {r : Response}
    (hsettled : s.settled = true) (hfree : s.linkFree = true) (hconfig : s.al.config = some cfg)
    (heffect : f s.begin.activity = s.begin.activity.respond r) :
    command f s = .next (s.answered r) := by
  have hbegin : s.begin.linkFree = true := hfree
  have hconfigured : s.begin.activity.al.config = some cfg := by simpa using hconfig
  have htransfer : transfer (whenConfigured f) s.begin = s.answered r := by
    rw [transfer_of_linkFree hbegin, whenConfigured_of_config hconfigured, heffect]
    rfl
  rw [command, event_of_settled (by rw [htransfer]; exact State.settled_answered hsettled r), htransfer]

/-! ### The occupied slots in slot order (R187) -/

/-- Elements taken with their positions are taken position by position. -/
theorem filterMap_zipIdx_eq_filterMap_range {α β : Type} (g : α × Nat → Option β) (l : List α) :
    l.zipIdx.filterMap g = (List.range l.length).filterMap fun i => l[i]?.bind fun a => g (a, i) := by
  induction l using List.reverseRecOn with
  | nil => rfl
  | append_singleton l a ih =>
    have hfront : ∀ i ∈ List.range l.length,
        (l[i]?.bind fun x => g (x, i)) = (l ++ [a])[i]?.bind fun x => g (x, i) := fun i hi => by
      rw [List.getElem?_append_left (List.mem_range.1 hi)]
    rw [List.zipIdx_append, List.filterMap_append, ih, List.filterMap_congr hfront, List.length_append,
      List.length_singleton, List.range_succ, List.filterMap_append]
    simp [List.filterMap_cons]

/-- The listed entries, as the slots from 0 upwards hold them. -/
theorem State.entries_eq_filterMap_range (s : State) :
    s.entries = (List.range s.atc.table.length).filterMap fun i => (s.entryAt i).map fun e => (i, e) := by
  rw [State.entries, filterMap_zipIdx_eq_filterMap_range]
  simp only [State.entryAt_def, Option.map_bind, Function.comp_def]

/-- The pairs LIST ALERTS answers, slot by slot. -/
theorem State.alertPairs_eq (s : State) :
    (s.entries.map fun p => (s.handleAt p.1, p.2.state.name)) =
      (List.range s.atc.table.length).filterMap fun i =>
        (s.entryAt i).map fun e => ((⟨i, s.genAt i⟩ : Handle), e.state.name) := by
  rw [State.entries_eq_filterMap_range, List.map_filterMap]
  simp only [Option.map_map, Function.comp_def, State.handleAt]

/-- Settles O38: the command's effect is the response alone, and its pairs are those of the 32 slots. -/
theorem listAlertsCompletes : Obligations.ListAlertsCompletes := by
  intro s cfg hsettled hfree hconfig htable
  obtain ⟨hlength, -⟩ := htable
  refine command_eq_answered hsettled hfree hconfig ?_
  simp only [State.alertPairs_eq, State.activity_atc, State.activity_entryAt, State.activity_genAt,
    State.begin_atc, State.begin_entryAt, State.begin_genAt, hlength]

end Sys2Proof.Machine
end

section
/-! Steps, reset, the configuration as taken, and the values of keys and waits. -/

namespace Sys2Proof.Machine

/-! ### Steps (log entries 2 and 3) -/

/-- Settles O1: with a command waiting, `step` is `exec` of it by definition. -/
theorem stepTakesFrontCommand : Obligations.StepTakesFrontCommand := by
  intro s c rest hpending
  simp only [step, hpending]

theorem step_of_pending_nil {s : State} (h : s.pending = []) : step s = idle s := by
  simp only [step, h]

/-- What the part may do next is never nothing at all. -/
theorem State.moves_ne_nil (s : State) : s.moves ≠ [] := by
  unfold State.moves
  cases s.dueTimers <;> simp

/-- The part's own move is one of its moves, whatever the free choice is. -/
theorem State.ownMove_mem (s : State) : s.ownMove ∈ s.moves := by
  unfold State.ownMove
  split
  · next m h => simp [h]
  · next ms _ =>
    have hlt : Sys2Proof.Config.eventOrder s.choice % s.moves.length < s.moves.length :=
      Nat.mod_lt _ (List.length_pos_iff.2 s.moves_ne_nil)
    rw [List.getElem?_eq_getElem hlt]
    exact List.getElem_mem hlt

/-- Time passes only where no timer is due. -/
theorem State.mem_moves {s : State} {m : Option Instr} (h : m ∈ s.moves) :
    (m = none ∧ s.dueTimers = []) ∨ ∃ c ∈ s.dueTimers ++ s.dueFifos, m = some c := by
  have hown {m : Option Instr} (h : m ∈ (s.dueTimers ++ s.dueFifos).map some) :
      ∃ c ∈ s.dueTimers ++ s.dueFifos, m = some c := by
    obtain ⟨c, hc, rfl⟩ := List.mem_map.1 h
    exact ⟨c, hc, rfl⟩
  unfold State.moves at h
  split at h
  · next hdue =>
    rcases List.mem_append.1 h with h | h
    · exact .inr (hown h)
    · exact .inl ⟨List.mem_singleton.1 h, List.isEmpty_iff.1 hdue⟩
  · exact .inr (hown h)

/-- An idle step ticks, with no timer due, or takes an event that is due. -/
theorem idle_cases (s : State) :
    (s.dueTimers = [] ∧ idle s = .next s.tick)
      ∨ ∃ c ∈ s.dueTimers ++ s.dueFifos, idle s = exec c { s with choice := s.choice + 1 } := by
  unfold idle
  rcases State.mem_moves s.ownMove_mem with ⟨hmove, hdue⟩ | ⟨c, hc, hmove⟩
  · exact .inl ⟨hdue, by rw [hmove]⟩
  · exact .inr ⟨c, hc, by rw [hmove]⟩

/-- Settles O2: the own move lies among the moves, and where nothing is due the only move is a tick. -/
theorem idleStepTakesDueEventOrTicks : Obligations.IdleStepTakesDueEventOrTicks := by
  intro s hpending
  rw [step_of_pending_nil hpending]
  refine ⟨idle_cases s, fun htimers hfifos => ?_⟩
  rcases idle_cases s with ⟨-, htick⟩ | ⟨c, hc, -⟩
  · exact htick
  · simp [htimers, hfifos] at hc

/-- What a step is: a command of the queue, an event that is due, or a tick with no timer due. -/
theorem step_cases {s t : State} (h : step s = .next t) :
    (∃ c u, (u = { s with pending := u.pending, choice := u.choice }) ∧ exec c u = .next t)
      ∨ (s.dueTimers = [] ∧ t = s.tick) := by
  cases hp : s.pending with
  | cons c rest =>
    rw [stepTakesFrontCommand s c rest hp] at h
    exact .inl ⟨c, _, rfl, h⟩
  | nil =>
    rw [step_of_pending_nil hp] at h
    rcases idle_cases s with ⟨hdue, htick⟩ | ⟨c, -, hexec⟩
    · rw [htick] at h
      exact .inr ⟨hdue, by cases h; rfl⟩
    · rw [hexec] at h
      exact .inl ⟨c, _, rfl, h⟩

/-! ### Power-on reset (section 10.9) -/

theorem State.entryAt_of_reset {s : State} (h : s.atc = State.reset.atc) (i : Nat) : s.entryAt i = none := by
  rw [State.entryAt_def, h]
  simp only [State.reset, List.getElem?_replicate]
  split <;> rfl

theorem State.slotAt_of_reset {s : State} (h : s.sa = State.reset.sa) (n : Nat) : s.slotAt n = none := by
  simp only [State.slotAt, h, State.reset, List.getElem?_replicate]
  split <;> rfl

/-- Settles O3: the fields of the reset state, read off. -/
theorem resetHasPowerOnValues : Obligations.ResetHasPowerOnValues := by
  unfold Obligations.ResetHasPowerOnValues
  decide

/-- Settles O4: a reset part has no entry, slot, job, notice or report for an invariant to speak of. -/
theorem resetMeetsTheInvariants : Obligations.ResetMeetsTheInvariants := by
  have hentry (i : Nat) : State.reset.entryAt i = none := State.entryAt_of_reset rfl i
  have hslot (n : Nat) : State.reset.slotAt n = none := State.slotAt_of_reset rfl n
  refine ⟨by decide, ⟨by decide, .nil⟩, ⟨by decide, by decide⟩, ⟨by decide, .nil, .nil⟩, ⟨rfl, by decide⟩,
    ?_, nofun, (by decide : State.reset.usedBlocks ≤ 128), ⟨⟨rfl, by decide⟩, fun n sl h => ?_⟩,
    ⟨.nil, nofun⟩, ⟨by decide, by decide, by decide⟩, ?_,
    fun _ => ⟨rfl, rfl, rfl, rfl, rfl, rfl, rfl⟩, nofun⟩
  · intro sl hsl e he
    obtain rfl : sl = ⟨0, none⟩ := List.eq_of_mem_replicate hsl
    cases he
  · rw [hslot] at h
    cases h
  · exact ⟨by decide, by decide, by decide⟩

/-- Settles O31: the state after reset, but for the levels and the waiting commands that stay. -/
theorem powerOnResetCompletes : Obligations.PowerOnResetCompletes := by
  intro s m
  exact ⟨_, rfl, rfl, rfl, rfl, rfl, rfl, by simp, rfl, rfl, rfl, rfl⟩

/-! ### The configuration as taken (R181) -/

theorem clamp_le_hi {lo hi n : Nat} (h : lo ≤ hi) : clamp lo hi n ≤ hi := max_le h (min_le_right n hi)

theorem le_clamp (lo hi n : Nat) : lo ≤ clamp lo hi n := le_max_left lo _

theorem clamp_of_mem {lo hi n : Nat} (hlo : lo ≤ n) (hhi : n ≤ hi) : clamp lo hi n = n := by
  rw [clamp, min_eq_left hhi, max_eq_right hlo]

theorem clamp_of_lt {lo hi n : Nat} (h : n < lo) : clamp lo hi n = lo :=
  max_eq_left ((min_le_left n hi).trans h.le)

theorem clamp_of_gt {lo hi n : Nat} (h : lo ≤ hi) (hn : hi < n) : clamp lo hi n = hi := by
  rw [clamp, min_eq_right hn.le, max_eq_right h]

/-- A given value is taken as it is within its range, and as the nearer end outside it. -/
theorem clamp_getD {lo hi default : Nat} (h : lo ≤ hi) (given : Option Nat) :
    (∀ n, given = some n → lo ≤ n → n ≤ hi → clamp lo hi (given.getD default) = n)
      ∧ (∀ n, given = some n → (n < lo → clamp lo hi (given.getD default) = lo)
        ∧ (hi < n → clamp lo hi (given.getD default) = hi)) := by
  refine ⟨fun n hn hlo hhi => ?_, fun n hn => ⟨fun hlt => ?_, fun hgt => ?_⟩⟩ <;> subst hn
  · exact clamp_of_mem hlo hhi
  · exact clamp_of_lt hlt
  · exact clamp_of_gt h hgt

theorem clamp_default {lo hi default : Nat} (hlo : lo ≤ default) (hhi : default ≤ hi) (given : Option Nat)
    (h : given = none) : clamp lo hi (given.getD default) = default := by
  subst h
  exact clamp_of_mem hlo hhi

/-- Settles O17: each field is a clamp of what the record gives, the hold limit's range being set by the listen
interval as taken. -/
theorem configurationAsTaken : Obligations.ConfigurationAsTaken := by
  intro r tag doze
  have hlisten : clamp 100 2000 (r.listenInterval.getD 500) ≤ 2000 := clamp_le_hi (by decide)
  have hhold : clamp 100 2000 (r.listenInterval.getD 500) + 100 ≤ 3000 := by omega
  obtain ⟨threshold, threshold'⟩ := clamp_getD (default := 2) (by decide : 1 ≤ 7) r.threshold
  obtain ⟨listen, listen'⟩ := clamp_getD (default := 500) (by decide : 100 ≤ 2000) r.listenInterval
  obtain ⟨awake, awake'⟩ := clamp_getD (default := 10) (by decide : 2 ≤ 60) r.awakeHold
  obtain ⟨hold, hold'⟩ := clamp_getD (default := 800) hhold r.holdLimit
  obtain ⟨zone, zone'⟩ := clamp_getD (default := 30) (by decide : 1 ≤ 120) r.zoneHold
  obtain ⟨report, report'⟩ := clamp_getD (default := 10) (by decide : 1 ≤ 1000) r.reportStep
  refine ⟨rfl, rfl, min_le_right _ _, le_clamp _ _ _, clamp_le_hi (by decide), le_clamp _ _ _, hlisten,
    le_clamp _ _ _, clamp_le_hi (by decide), le_clamp _ _ _, clamp_le_hi hhold, le_clamp _ _ _,
    clamp_le_hi (by decide), le_clamp _ _ _, clamp_le_hi (by decide), fun n hn hle => ?_, threshold, listen,
    awake, hold, zone, report, fun n hn hgt => ?_, threshold', listen', awake', hold', zone', report',
    fun hn => ?_, clamp_default (by decide) (by decide) _, clamp_default (by decide) (by decide) _,
    clamp_default (by decide) (by decide) _, fun hn => ?_, clamp_default (by decide) (by decide) _,
    clamp_default (by decide) (by decide) _⟩
  · simp only [takenSettings, hn, Option.getD_some]
    exact min_eq_left hle
  · simp only [takenSettings, hn, Option.getD_some]
    exact min_eq_right hgt.le
  · simp [takenSettings, hn]
  · simp only [takenSettings, hn, Option.getD_none, clamp]
    omega

/-! ### Keys and waits (R93, R128, R139) -/

/-- The number a contention key is: its three fields side by side. -/
theorem contentionKey_toNat {precedence cls : Nat} (tag : Tag) (losses : Nat) (hp : precedence ≤ 15)
    (hc : cls ≤ 3) :
    (contentionKey tag precedence cls losses).toNat =
      precedence * 4096 + cls * 1024 + (tag.toNat % 1024 + 331 * losses) % 1024 := by
  rw [contentionKey, BitVec.toNat_ofNat]
  omega

/-- The salt of a contention key, whatever its other fields. -/
theorem contentionKey_mod (tag : Tag) (precedence cls losses : Nat) :
    (contentionKey tag precedence cls losses).toNat % 1024 = (tag.toNat % 1024 + 331 * losses) % 1024 := by
  rw [contentionKey, BitVec.toNat_ofNat]
  omega

/-- Settles O15: the fields by arithmetic, and the salts as 331 has an inverse modulo 1024. -/
theorem contentionKeyFields : Obligations.ContentionKeyFields := by
  refine ⟨fun tag precedence cls losses hp hc hc' => ?_, fun tag precedence cls losses i j hi hj hkey => ?_,
    by decide, by decide⟩
  · dsimp only
    rw [contentionKey_toNat tag losses hp hc']
    omega
  · have hsalt := congrArg (fun key : BitVec 16 => key.toNat % 1024) hkey
    simp only [contentionKey_mod] at hsalt
    omega

theorem relayJitter_le (tag : Tag) (serial : BitVec 16) : relayJitter tag serial ≤ 250 :=
  Nat.le_of_lt_succ (Nat.mod_lt _ (by decide))

theorem relaySpread_le (origin : Origin) (rssi : Option Int) : relaySpread origin rssi ≤ 560 := by
  cases origin with
  | cell => exact (by decide : 280 ≤ 560)
  | peer => simp only [relaySpread]; omega

/-- A fainter peer copy has no larger spread. -/
theorem relaySpread_peer_mono {a b : Int} (h : a ≤ b) :
    relaySpread .peer (some a) ≤ relaySpread .peer (some b) := by
  simp only [relaySpread, Option.getD_some]
  omega

theorem tallyWaitExpiry_none (tag : Tag) (serial : BitVec 16) (now : Micros) :
    tallyWaitExpiry tag serial none now = now + 1000 * (500 + (tag.toNat % 65536 + serial.toNat) % 1000) := by
  simp only [tallyWaitExpiry, tallyWaitMillis, millis]
  lia

theorem tallyWaitExpiry_some (tag : Tag) (serial : BitVec 16) (t now : Micros) :
    tallyWaitExpiry tag serial (some t) now = max (tallyWaitExpiry tag serial none now) (t + 5000000) := rfl

/-- Settles O16: the sums written out, with the bounds of the spread and the two remainders. -/
theorem waitTimes : Obligations.WaitTimes := by
  refine ⟨fun tag serial r => ?_, fun cls tag serial r r' a b ho ho' hr hr' hab => ?_,
    fun tag serial r a => ⟨fun ho => ?_, fun ho hr => ?_⟩, fun tag serial lastSent now => ?_⟩
  · have hspread := relaySpread_le r.origin r.rssi
    have hjitter := relayJitter_le tag serial
    simp only [relayWaitMillis, relayBase]
    lia
  · have hspread := relaySpread_peer_mono hab
    simp only [relayWaitMillis, ho, ho', hr, hr']
    lia
  · simp [relayWaitMillis, relayBase, relaySpread, relayJitter, ho]
  · simp only [relayWaitMillis, relayBase, relaySpread, relayJitter, ho, hr, Option.getD_some]
    lia
  · have hnone := tallyWaitExpiry_none tag serial now
    simp only [millis, seconds]
    cases lastSent with
    | none =>
      refine ⟨⟨fun _ => hnone, nofun⟩, by lia, nofun, .inl (by lia)⟩
    | some t =>
      have hsome := tallyWaitExpiry_some tag serial t now
      refine ⟨⟨nofun, fun u hu => ?_⟩, by lia, fun u hu => ?_, ?_⟩
      · cases hu
        rw [hsome, hnone]
      · cases hu
        lia
      · by_cases hle : t + 5000000 ≤ tallyWaitExpiry tag serial none now
        · exact .inl (by lia)
        · exact .inr ⟨t, rfl, by lia⟩

end Sys2Proof.Machine
end

section
/-! What the Sidelink Controller and the Relay Scheduler leave alone in the other blocks, and the state of rest
that every event ends in. -/

namespace Sys2Proof.Machine

/-! ### Entries but for what their sends change -/

/-- An entry without its relay record and its tally-send record. -/
def Entry.unsent (e : Entry) : Entry :=
  { e with relay := freshRelay 0 .cell 0 none, tallySend := freshTallySend }

/-- A table slot without the send records of its entry. -/
def TableSlot.unsent (sl : TableSlot) : TableSlot := { sl with entry := sl.entry.map Entry.unsent }

/-- What the operations that send leave as it was beyond `Internal`: the slots, the Tally Unit, what was put out
to the modem and the application processor, and every entry but for its send records. -/
structure SidelinkOnly (s t : State) : Prop extends Internal s t where
  sa : t.sa = s.sa
  tu : t.tu = s.tu
  link : t.out.link = s.out.link
  feed : t.out.feed = s.out.feed
  unsent : t.atc.table.map TableSlot.unsent = s.atc.table.map TableSlot.unsent

namespace SidelinkOnly

theorem refl (s : State) : SidelinkOnly s s := ⟨.refl s, rfl, rfl, rfl, rfl, rfl⟩

theorem trans {s t u : State} (h : SidelinkOnly s t) (k : SidelinkOnly t u) : SidelinkOnly s u :=
  ⟨h.toInternal.trans k.toInternal, k.sa.trans h.sa, k.tu.trans h.tu, k.link.trans h.link,
    k.feed.trans h.feed, k.unsent.trans h.unsent⟩

theorem ite {s t u : State} {p : Prop} [Decidable p] (h : SidelinkOnly s t) (k : SidelinkOnly s u) :
    SidelinkOnly s (if p then t else u) := by split <;> assumption

/-- The entries of a slot before and after agree but for their send records. -/
theorem entryAt {s t : State} (h : SidelinkOnly s t) (i : Nat) :
    (t.entryAt i).map Entry.unsent = (s.entryAt i).map Entry.unsent := by
  have hslot := congrArg (fun l : List TableSlot => l[i]?.bind TableSlot.entry) h.unsent
  simpa only [List.getElem?_map, Option.bind_map, Function.comp_def, TableSlot.unsent, State.entryAt_def,
    Option.map_bind] using hslot

theorem genAt {s t : State} (h : SidelinkOnly s t) (i : Nat) : t.genAt i = s.genAt i := by
  have hslot := congrArg (fun l : List TableSlot => (l[i]?.map TableSlot.gen).getD 0) h.unsent
  simp only [List.getElem?_map, Option.map_map, Function.comp_def, TableSlot.unsent] at hslot
  exact hslot

/-- An entry found afterwards was there before, with other send records at most. -/
theorem entryAt_some {s t : State} (h : SidelinkOnly s t) {i : Nat} {e' : Entry} (he : t.entryAt i = some e') :
    ∃ e, s.entryAt i = some e ∧ e'.unsent = e.unsent := by
  have hmap := h.entryAt i
  rw [he] at hmap
  obtain ⟨e, he', hunsent⟩ := Option.map_eq_some_iff.1 hmap.symm
  exact ⟨e, he', hunsent.symm⟩

end SidelinkOnly

theorem map_modify_of_comp {α β : Type} {f : α → α} {g : α → β} (h : ∀ a, g (f a) = g a) (l : List α) (i : Nat) :
    (l.modify i f).map g = l.map g := by
  refine List.ext_getElem? fun k => ?_
  simp only [List.getElem?_map, List.getElem?_modify]
  split <;> cases l[k]? <;> simp [h]

variable (s : State)

/-! ### Each operation that sends -/

theorem sidelinkOnly_modifyEntry (i : Nat) {f : Entry → Entry} (h : ∀ e, (f e).unsent = e.unsent) :
    SidelinkOnly s (s.modifyEntry i f) := by
  refine ⟨internal_modifyEntry s i f, rfl, rfl, rfl, rfl, map_modify_of_comp (fun sl => ?_) _ _⟩
  cases hentry : sl.entry <;> simp [TableSlot.unsent, hentry, h]

theorem sidelinkOnly_modifyRelay (i : Nat) (f : RelayRecord → RelayRecord) :
    SidelinkOnly s (s.modifyRelay i f) := sidelinkOnly_modifyEntry s i fun _ => rfl

theorem sidelinkOnly_modifyTallySend (i : Nat) (f : TallySend → TallySend) :
    SidelinkOnly s (s.modifyTallySend i f) := sidelinkOnly_modifyEntry s i fun _ => rfl

theorem sidelinkOnly_withSlc {x : Slc} (hr : x.rxFifo = s.slc.rxFifo) (hc : x.carrier = s.slc.carrier) :
    SidelinkOnly s (s.withSlc x) := ⟨internal_withSlc s hr hc, rfl, rfl, rfl, rfl, rfl⟩

theorem sidelinkOnly_emit (a : AirSignal) : SidelinkOnly s (s.emit a) :=
  ⟨by constructor <;> rfl, rfl, rfl, rfl, rfl, rfl⟩

theorem sidelinkOnly_queueNotice (n : Notice) : SidelinkOnly s (s.queueNotice n) := by
  refine ⟨internal_queueNotice s n, ?_, ?_, ?_, ?_, ?_⟩ <;> rw [State.queueNotice_eq]

theorem sidelinkOnly_setSendQueueFull : SidelinkOnly s s.setSendQueueFull :=
  ⟨internal_setSendQueueFull s, rfl, rfl, rfl, rfl, rfl⟩

theorem sidelinkOnly_relayReport (job : Job) (follows : RelayState → Bool) (next : RelayState) :
    SidelinkOnly s (s.relayReport job follows next) := by
  rcases s.relayReport_cases job follows next with ⟨-, h⟩ | ⟨i, -, h⟩ <;> rw [h]
  · exact .refl s
  · exact sidelinkOnly_modifyEntry s i fun e => by split <;> rfl

theorem sidelinkOnly_tallyReport (job : Job) (follows : TallySendState → Bool) (f : TallySend → TallySend) :
    SidelinkOnly s (s.tallyReport job follows f) := by
  rcases s.tallyReport_cases job follows f with ⟨-, h⟩ | ⟨i, -, h⟩ <;> rw [h]
  · exact .refl s
  · exact sidelinkOnly_modifyEntry s i fun e => by split <;> rfl

theorem sidelinkOnly_startTallyWait (i : Nat) : SidelinkOnly s (s.startTallyWait i) :=
  .ite (sidelinkOnly_modifyEntry s i fun e => by split <;> rfl) (.refl s)

theorem sidelinkOnly_tallySent (i : Nat) : SidelinkOnly s (s.tallySent i) := by
  have hidle := sidelinkOnly_modifyEntry s i (f := fun e => { e with tallySend := ⟨.idle, some s.now, false⟩ })
    fun _ => rfl
  unfold State.tallySent
  split
  · exact .refl s
  · exact .ite (.ite (hidle.trans (sidelinkOnly_startTallyWait _ i)) hidle) (.refl s)

theorem sidelinkOnly_reportStaged (job : Job) : SidelinkOnly s (s.reportStaged job) := by
  unfold State.reportStaged
  split
  · exact sidelinkOnly_relayReport s _ _ _
  · exact sidelinkOnly_tallyReport s _ _ _

theorem sidelinkOnly_reportWon (job : Job) : SidelinkOnly s (s.reportWon job) := by
  unfold State.reportWon
  split
  · exact sidelinkOnly_relayReport s _ _ _
  · exact sidelinkOnly_tallyReport s _ _ _

theorem sidelinkOnly_reportCompleted (job : Job) : SidelinkOnly s (s.reportCompleted job) := by
  unfold State.reportCompleted
  split
  · exact sidelinkOnly_relayReport s _ _ _
  · split
    · exact .refl s
    · exact sidelinkOnly_tallySent s _

theorem sidelinkOnly_reportDropped (job : Job) : SidelinkOnly s (s.reportDropped job) := by
  unfold State.reportDropped
  split
  · exact sidelinkOnly_relayReport s _ _ _
  · exact sidelinkOnly_tallyReport s _ _ _

theorem sidelinkOnly_reportEnded (job : Job) : SidelinkOnly s (s.reportEnded job) := by
  unfold State.reportEnded
  split
  · exact .ite (.refl s) (sidelinkOnly_relayReport s _ _ _)
  · exact sidelinkOnly_tallyReport s _ _ _

theorem sidelinkOnly_giveUpAtStaging (job : Job) : SidelinkOnly s (s.giveUpAtStaging job) := by
  unfold State.giveUpAtStaging
  split
  · exact sidelinkOnly_relayReport s _ _ _
  · exact sidelinkOnly_tallyReport s _ _ _

theorem sidelinkOnly_stageBurst (c : CurrentJob) : SidelinkOnly s (s.stageBurst c) :=
  sidelinkOnly_withSlc s rfl rfl

theorem sidelinkOnly_beginSlot (key : BitVec 16) (slot : Nat) : SidelinkOnly s (s.beginSlot key slot) := by
  refine .ite (SidelinkOnly.trans ?_ (sidelinkOnly_emit _ _)) ?_ <;> exact sidelinkOnly_withSlc s rfl rfl

theorem sidelinkOnly_beginContention : SidelinkOnly s s.beginContention := by
  refine SidelinkOnly.trans ?_ (sidelinkOnly_beginSlot _ _ _)
  exact sidelinkOnly_withSlc s rfl rfl

theorem sidelinkOnly_withMedium (m : Medium) : SidelinkOnly s (s.withMedium m) := sidelinkOnly_withSlc s rfl rfl

theorem sidelinkOnly_enterJammed : SidelinkOnly s s.enterJammed :=
  (sidelinkOnly_withMedium s _).trans (sidelinkOnly_queueNotice _ _)

theorem sidelinkOnly_enterDefer : SidelinkOnly s s.enterDefer := by
  have hdefer := sidelinkOnly_withMedium s .defer
  rcases s.enterDefer_cases with ⟨-, h⟩ | ⟨-, -, h⟩ | ⟨-, -, h⟩ <;> rw [h]
  · exact hdefer.trans (sidelinkOnly_beginContention _)
  · exact hdefer.trans (sidelinkOnly_enterJammed _)
  · exact hdefer

theorem sidelinkOnly_stageFirst (job : Job) : SidelinkOnly s (s.stageFirst job) := by
  have hstaged := (sidelinkOnly_stageBurst s ⟨job, job.frames, false, false⟩).trans
    (sidelinkOnly_reportStaged _ job)
  exact .ite (hstaged.trans (sidelinkOnly_enterDefer _)) hstaged

theorem sidelinkOnly_withQueue (q : List Job) : SidelinkOnly s (s.withQueue q) := sidelinkOnly_withSlc s rfl rfl

theorem sidelinkOnly_takeFrom (l : List Job) : SidelinkOnly s (s.takeFrom l) := by
  induction l generalizing s with
  | nil => exact sidelinkOnly_withQueue s []
  | cons job rest ih =>
    exact .ite ((sidelinkOnly_giveUpAtStaging s job).trans (ih _))
      ((sidelinkOnly_withQueue s rest).trans (sidelinkOnly_stageFirst _ job))

theorem sidelinkOnly_takeHead : SidelinkOnly s s.takeHead := .ite (sidelinkOnly_takeFrom s _) (.refl s)

theorem sidelinkOnly_placeJob (job : Job) : SidelinkOnly s (s.placeJob job) := by
  rcases s.placeJob_cases job with h | ⟨-, h⟩ | ⟨lowest, -, -, h⟩ | h <;> rw [h]
  · exact .refl s
  · exact sidelinkOnly_withQueue s _
  · exact ((sidelinkOnly_withQueue s _).trans (sidelinkOnly_setSendQueueFull _)).trans
      (sidelinkOnly_reportDropped _ _)
  · exact (sidelinkOnly_setSendQueueFull s).trans (sidelinkOnly_reportDropped _ _)

theorem sidelinkOnly_emptyStage : SidelinkOnly s s.emptyStage := by
  unfold State.emptyStage
  split <;> exact sidelinkOnly_withSlc s rfl rfl

theorem sidelinkOnly_endCurrent (c : CurrentJob) : SidelinkOnly s (s.endCurrent c) :=
  .ite (sidelinkOnly_withSlc s rfl rfl) ((sidelinkOnly_emptyStage s).trans (sidelinkOnly_reportEnded _ _))

theorem sidelinkOnly_endJob (id : Identity) (kind : JobKind) : SidelinkOnly s (s.endJob id kind) := by
  have hqueue : SidelinkOnly s (s.removeQueued id kind) := sidelinkOnly_withQueue s _
  unfold State.endJob
  dsimp only
  split
  · exact .ite (hqueue.trans (sidelinkOnly_endCurrent _ _)) hqueue
  · exact hqueue

theorem sidelinkOnly_cutJob (id : Identity) (kind : JobKind) : SidelinkOnly s (s.cutJob id kind) := by
  have hqueue : SidelinkOnly s (s.removeQueued id kind) := sidelinkOnly_withQueue s _
  unfold State.cutJob
  dsimp only
  split
  · exact .ite (hqueue.trans (sidelinkOnly_emptyStage _)) hqueue
  · exact hqueue

/-! ### What a taken head leaves in the Sidelink Controller (R90) -/

/-- Entering DEFER touches the medium state and what is measured, and never the job. -/
theorem State.beginSlot_keeps (key : BitVec 16) (slot : Nat) :
    (s.beginSlot key slot).slc.current = s.slc.current ∧ (s.beginSlot key slot).slc.stage = s.slc.stage
      ∧ (s.beginSlot key slot).slc.queue = s.slc.queue := by
  unfold State.beginSlot
  dsimp only
  split <;> exact ⟨rfl, rfl, rfl⟩

theorem State.beginContention_keeps :
    s.beginContention.slc.current = s.slc.current ∧ s.beginContention.slc.stage = s.slc.stage
      ∧ s.beginContention.slc.queue = s.slc.queue := State.beginSlot_keeps _ _ _

theorem State.enterJammed_slc : s.enterJammed.slc = { s.slc with medium := .jammed } := by
  rw [State.enterJammed, State.queueNotice_eq]
  rfl

theorem State.enterDefer_keeps :
    s.enterDefer.slc.current = s.slc.current ∧ s.enterDefer.slc.stage = s.slc.stage
      ∧ s.enterDefer.slc.queue = s.slc.queue := by
  rcases s.enterDefer_cases with ⟨-, h⟩ | ⟨-, -, h⟩ | ⟨-, -, h⟩ <;> rw [h]
  · exact State.beginContention_keeps _
  · rw [State.enterJammed_slc]
    exact ⟨rfl, rfl, rfl⟩
  · exact ⟨rfl, rfl, rfl⟩

@[simp] theorem State.relayReport_slc (job : Job) (follows : RelayState → Bool) (next : RelayState) :
    (s.relayReport job follows next).slc = s.slc := by rw [State.relayReport_eq]; rfl

@[simp] theorem State.tallyReport_slc (job : Job) (follows : TallySendState → Bool) (f : TallySend → TallySend) :
    (s.tallyReport job follows f).slc = s.slc := by rw [State.tallyReport_eq]; rfl

@[simp] theorem State.reportStaged_slc (job : Job) : (s.reportStaged job).slc = s.slc := by
  unfold State.reportStaged
  split <;> simp

@[simp] theorem State.giveUpAtStaging_slc (job : Job) : (s.giveUpAtStaging job).slc = s.slc := by
  unfold State.giveUpAtStaging
  split <;> simp

theorem State.stageFirst_current (job : Job) :
    (s.stageFirst job).slc.current = some ⟨job, job.frames.drop 6, false, false⟩ := by
  have hstaged : ((s.stageBurst ⟨job, job.frames, false, false⟩).reportStaged job).slc.current =
      some ⟨job, job.frames.drop 6, false, false⟩ := by
    rw [State.reportStaged_slc]
    rfl
  unfold State.stageFirst
  dsimp only
  split
  · obtain ⟨hcurrent, -, -⟩ := State.enterDefer_keeps
      ((s.stageBurst ⟨job, job.frames, false, false⟩).reportStaged job)
    exact hcurrent.trans hstaged
  · exact hstaged

/-- Taking heads stops at an empty queue or with a current job. -/
theorem State.takeFrom_rest (l : List Job) :
    (s.takeFrom l).slc.queue = [] ∨ (s.takeFrom l).slc.current.isSome = true := by
  induction l generalizing s with
  | nil => exact .inl rfl
  | cons job rest ih =>
    rw [State.takeFrom]
    split
    · exact ih _
    · exact .inr (by simp [State.stageFirst_current])

theorem State.takeHead_rest : s.takeHead.mayTakeHead = false ∨ s.takeHead.slc.queue = [] := by
  unfold State.takeHead
  split
  · rcases s.takeFrom_rest s.slc.queue with h | h
    · exact .inr h
    · exact .inl (by simp [State.mayTakeHead, Option.isSome_iff_ne_none.1 h])
  · next h => exact .inl (Bool.eq_false_iff.2 h)

/-! ### The report at the end of an event (R172) -/

/-- Sending a report touches the Tally Unit, Power Control's hold and what is put out to the modem. -/
theorem State.sendFrom_eq (l : List Nat) :
    s.sendFrom l = { s with
      tu := (s.sendFrom l).tu, pwc := (s.sendFrom l).pwc, out := (s.sendFrom l).out } := by
  induction l with
  | nil => rfl
  | cons i rest ih =>
    unfold State.sendFrom
    split
    · exact ih
    · unfold State.sendReportOf
      dsimp only
      split
      · rw [State.restartHold_eq]
        rfl
      · rfl

theorem State.sendReport_eq :
    s.sendReport = { s with tu := s.sendReport.tu, pwc := s.sendReport.pwc, out := s.sendReport.out } := by
  unfold State.sendReport
  split
  · exact s.sendFrom_eq _
  · rfl

@[simp] theorem State.sendReport_now : s.sendReport.now = s.now := by rw [State.sendReport_eq]
@[simp] theorem State.sendReport_choice : s.sendReport.choice = s.choice := by rw [State.sendReport_eq]
@[simp] theorem State.sendReport_pending : s.sendReport.pending = s.pending := by rw [State.sendReport_eq]
@[simp] theorem State.sendReport_atc : s.sendReport.atc = s.atc := by rw [State.sendReport_eq]
@[simp] theorem State.sendReport_sa : s.sendReport.sa = s.sa := by rw [State.sendReport_eq]
@[simp] theorem State.sendReport_slc : s.sendReport.slc = s.slc := by rw [State.sendReport_eq]
@[simp] theorem State.sendReport_fp : s.sendReport.fp = s.fp := by rw [State.sendReport_eq]
@[simp] theorem State.sendReport_al : s.sendReport.al = s.al := by rw [State.sendReport_eq]

theorem State.sendFrom_rest (l : List Nat) :
    (s.sendFrom l).tu.reportQueue = [] ∨ (s.sendFrom l).tu.outstanding.isSome = true := by
  induction l with
  | nil => exact .inl rfl
  | cons i rest ih =>
    unfold State.sendFrom
    split
    · exact ih
    · refine .inr ?_
      unfold State.sendReportOf
      dsimp only
      split
      · rw [State.restartHold_eq]
        rfl
      · rfl

theorem State.sendReport_rest : s.sendReport.maySendReport = false := by
  by_cases h : s.maySendReport = true
  · have hsend : s.sendReport = s.sendFrom s.tu.reportQueue := if_pos h
    rcases s.sendFrom_rest s.tu.reportQueue with hqueue | hout
    · simp [State.maySendReport, hsend, hqueue]
    · simp [State.maySendReport, hsend, Option.isSome_iff_ne_none.1 hout]
  · rw [State.sendReport, if_neg h]
    exact Bool.eq_false_iff.2 h

/-! ### Power Control at the end of an event (R113, R117) -/

theorem State.settlePower_cases :
    (s.mayDoze = true ∧ s.settlePower = s.enterDoze)
      ∨ (s.mayDoze = false ∧ s.workless = true ∧ s.settlePower = s)
      ∨ (s.mayDoze = false ∧ s.workless = false ∧ s.settlePower = s.wakeCause) := by
  unfold State.settlePower
  cases hdoze : s.mayDoze <;> cases hwork : s.workless <;> simp

theorem State.wakeCause_cases :
    (s.pwc.power = .doze ∧ s.pwc.warmUp = none
        ∧ s.wakeCause = s.withPwc
          { s.pwc with warmUp := some (s.now + millis 2), nextWindow := none, window := none })
      ∨ ((s.pwc.power = .awake ∨ s.pwc.warmUp.isSome = true) ∧ s.wakeCause = s) := by
  by_cases h : s.pwc.power = .doze ∧ s.pwc.warmUp = none
  · exact .inl ⟨h.1, h.2, if_pos h⟩
  · refine .inr ⟨?_, if_neg h⟩
    cases hp : s.pwc.power with
    | awake => exact .inl rfl
    | doze => exact .inr (Option.isSome_iff_ne_none.2 fun hw => h ⟨hp, hw⟩)

/-- Settling the power state touches Power Control, and where DOZE is entered what the Sidelink Controller
measures (R110, R114). -/
theorem State.settlePower_eq :
    s.settlePower = { s with
      pwc := s.settlePower.pwc
      slc := { s.slc with
        lastActivity := s.settlePower.slc.lastActivity, medium := s.settlePower.slc.medium
        busyStart := s.settlePower.slc.busyStart, quietSince := s.settlePower.slc.quietSince } } := by
  rcases s.settlePower_cases with ⟨-, h⟩ | ⟨-, -, h⟩ | ⟨-, -, h⟩ <;> rw [h]
  · rfl
  · rw [State.wakeCause_eq]
    rfl

@[simp] theorem State.settlePower_now : s.settlePower.now = s.now := by rw [State.settlePower_eq]
@[simp] theorem State.settlePower_choice : s.settlePower.choice = s.choice := by rw [State.settlePower_eq]
@[simp] theorem State.settlePower_pending : s.settlePower.pending = s.pending := by rw [State.settlePower_eq]
@[simp] theorem State.settlePower_out : s.settlePower.out = s.out := by rw [State.settlePower_eq]
@[simp] theorem State.settlePower_atc : s.settlePower.atc = s.atc := by rw [State.settlePower_eq]
@[simp] theorem State.settlePower_sa : s.settlePower.sa = s.sa := by rw [State.settlePower_eq]
@[simp] theorem State.settlePower_fp : s.settlePower.fp = s.fp := by rw [State.settlePower_eq]
@[simp] theorem State.settlePower_tu : s.settlePower.tu = s.tu := by rw [State.settlePower_eq]
@[simp] theorem State.settlePower_al : s.settlePower.al = s.al := by rw [State.settlePower_eq]
@[simp] theorem State.settlePower_queue : s.settlePower.slc.queue = s.slc.queue := by
  rw [State.settlePower_eq]
@[simp] theorem State.settlePower_current : s.settlePower.slc.current = s.slc.current := by
  rw [State.settlePower_eq]
@[simp] theorem State.settlePower_stage : s.settlePower.slc.stage = s.slc.stage := by
  rw [State.settlePower_eq]
@[simp] theorem State.settlePower_rxFifo : s.settlePower.slc.rxFifo = s.slc.rxFifo := by
  rw [State.settlePower_eq]

/-- DOZE-SAMPLING takes no head, and elsewhere the medium state stays. -/
theorem State.settlePower_mayTakeHead (h : s.mayTakeHead = false) : s.settlePower.mayTakeHead = false := by
  rcases s.settlePower_cases with ⟨-, hs⟩ | ⟨-, -, hs⟩ | ⟨-, -, hs⟩ <;> rw [hs]
  · rfl
  · exact h
  · rw [State.wakeCause_eq]
    exact h

/-- A part whose head and report are dealt with is at rest once its power state is settled. -/
theorem State.settled_settlePower (hhead : s.mayTakeHead = false ∨ s.slc.queue = [])
    (hreport : s.maySendReport = false) : s.settlePower.settled = true := by
  have hhead' : s.settlePower.mayTakeHead = false ∨ s.settlePower.slc.queue = [] :=
    hhead.imp s.settlePower_mayTakeHead fun h => by rwa [State.settlePower_queue]
  have hreport' : s.settlePower.maySendReport = false := by
    simpa [State.maySendReport] using hreport
  refine State.settled_iff.2 ⟨hhead', hreport', ?_⟩
  rcases s.settlePower_cases with ⟨hdoze, h⟩ | ⟨hdoze, hwork, h⟩ | ⟨hdoze, -, h⟩ <;> rw [h]
  · have hwork : s.workless = true := (Bool.and_eq_true_iff.1 hdoze).2
    exact ⟨by simp [State.mayDoze, State.enterDoze, State.withPwc], .inr (.inl hwork)⟩
  · exact ⟨hdoze, .inr (.inl hwork)⟩
  · rcases s.wakeCause_cases with ⟨hpower, -, hw⟩ | ⟨hpower, hw⟩ <;> rw [hw]
    · exact ⟨by simp [State.mayDoze, State.withPwc, hpower], .inr (.inr rfl)⟩
    · exact ⟨hdoze, hpower.imp_right .inr⟩

/-- The end of an event leaves a state of rest (R90, R172, R113, R117). -/
theorem State.settled_finish : s.finish.settled = true := by
  refine State.settled_settlePower _ ?_ (State.sendReport_rest _)
  have hsame : s.takeHead.sendReport.mayTakeHead = s.takeHead.mayTakeHead := by
    simp [State.mayTakeHead, State.fullPart]
  rw [hsame, State.sendReport_slc]
  exact s.takeHead_rest

@[simp] theorem State.finish_pending : s.finish.pending = s.pending := by
  simp [State.finish, (sidelinkOnly_takeHead s).pending]

@[simp] theorem State.finish_choice : s.finish.choice = s.choice := by
  simp [State.finish, (sidelinkOnly_takeHead s).choice]

end Sys2Proof.Machine
end

section
/-! The forms that every step keeps: of the queues and FIFOs, of the table and its tallies, of the report queue, of
the modes and the stage, of the configuration, and the silence of a LISTEN-ONLY part; kept by each primitive change
and by the operations of the Sidelink Controller. -/

namespace Sys2Proof.Machine

/-! ### The forms -/

/-- What `State.queueOk` says of the send queue alone. -/
def jobsOk (q : List Job) : Prop :=
  q.length ≤ 12 ∧ (q.map Job.name).Nodup ∧ q.Pairwise fun a b => b.precedence ≤ a.precedence

/-- What `State.sidelinkOk` says of the Sidelink Controller alone. -/
def Slc.StageOk (x : Slc) : Prop :=
  (x.stage = [] ↔ x.current = none)
    ∧ (x.medium = .defer ∨ x.medium.name = .contend → x.current.isSome = true)
    ∧ (x.medium.onAir = true → x.current.any CurrentJob.won = true)

/-- A LISTEN-ONLY part without a current job, which has put nothing on the air (R109). -/
def State.Silent (s : State) : Prop :=
  s.al.participation = .listenOnly ∧ s.slc.StageOk ∧ s.slc.current = none ∧ s.out.air = []

/-- `t` has every form that `s` has. `quiet` is what the silence of a LISTEN-ONLY part depends on: that the change
is no setting of the participation to FULL. -/
structure Sound (quiet : Prop) (s t : State) : Prop where
  pending : t.pending = s.pending
  choice : t.choice = s.choice
  fixed : ∀ cfg, s.al.config = some cfg → t.al.config = some cfg ∧ t.atc.map = s.atc.map
  tag : s.tagOk → t.tagOk
  notices : s.noticesOk → t.noticesOk
  fifos : s.fifosOk → t.fifosOk
  queue : s.queueOk → t.queueOk
  table : s.tableOk → t.tableOk
  tallies : s.tagOk → s.talliesOk → t.talliesOk
  reports : s.reportsOk → t.reportsOk
  modes : s.modesOk → t.modesOk
  sidelink : s.sidelinkOk → t.sidelinkOk
  silent : quiet → s.Silent → t.Silent

namespace Sound

variable {quiet : Prop}

theorem refl (s : State) : Sound quiet s s :=
  ⟨rfl, rfl, fun _ h => ⟨h, rfl⟩, id, id, id, id, id, fun _ => id, id, id, id, fun _ => id⟩

theorem trans {s t u : State} (h : Sound quiet s t) (k : Sound quiet t u) : Sound quiet s u where
  pending := k.pending.trans h.pending
  choice := k.choice.trans h.choice
  fixed cfg hcfg :=
    have ⟨hconfig, hmap⟩ := h.fixed cfg hcfg
    have ⟨kconfig, kmap⟩ := k.fixed cfg hconfig
    ⟨kconfig, kmap.trans hmap⟩
  tag := k.tag ∘ h.tag
  notices := k.notices ∘ h.notices
  fifos := k.fifos ∘ h.fifos
  queue := k.queue ∘ h.queue
  table := k.table ∘ h.table
  tallies htag := k.tallies (h.tag htag) ∘ h.tallies htag
  reports := k.reports ∘ h.reports
  modes := k.modes ∘ h.modes
  sidelink := k.sidelink ∘ h.sidelink
  silent hq := k.silent hq ∘ h.silent hq

theorem ite {s t u : State} {p : Prop} [Decidable p] (h : p → Sound quiet s t) (k : ¬ p → Sound quiet s u) :
    Sound quiet s (if p then t else u) := by
  split
  · next hp => exact h hp
  · next hp => exact k hp

theorem foldl {α : Type} {f : State → α → State} (h : ∀ s a, Sound quiet s (f s a)) (l : List α) (s : State) :
    Sound quiet s (l.foldl f s) := by
  induction l generalizing s with
  | nil => exact refl s
  | cons a l ih => exact (h s a).trans (ih _)

end Sound

/-! ### Table slots by what they hold -/

/-- No two slots hold entries of one identity. -/
theorem State.tableOk_iff {s : State} :
    s.tableOk ↔ s.atc.table.length = 32
      ∧ ∀ i j e f, s.entryAt i = some e → s.entryAt j = some f → e.id = f.id → i = j := by
  have hmem {i : Nat} {e : Entry} :
      s.entryAt i = some e ↔ ∃ h : i < s.atc.table.length, s.atc.table[i].entry = some e := by
    rw [State.entryAt_def, Option.bind_eq_some_iff]
    simp only [List.getElem?_eq_some_iff]
    exact ⟨fun ⟨_, ⟨hi, rfl⟩, he⟩ => ⟨hi, he⟩, fun ⟨hi, he⟩ => ⟨_, ⟨hi, rfl⟩, he⟩⟩
  unfold State.tableOk State.identities List.Nodup
  rw [List.pairwise_filterMap, List.pairwise_iff_getElem]
  refine and_congr_right fun _ => ⟨fun h i j e f he hf hid => ?_, fun h i j hi hj hlt a ha b hb hab => ?_⟩
  · obtain ⟨hi, he⟩ := hmem.1 he
    obtain ⟨hj, hf⟩ := hmem.1 hf
    rcases lt_trichotomy i j with hlt | heq | hgt
    · exact absurd hid (h i j hi hj hlt e.id (by simp [he]) f.id (by simp [hf]))
    · exact heq
    · exact absurd hid.symm (h j i hj hi hgt f.id (by simp [hf]) e.id (by simp [he]))
  · obtain ⟨e, he, rfl⟩ := Option.map_eq_some_iff.1 ha
    obtain ⟨f, hf, rfl⟩ := Option.map_eq_some_iff.1 hb
    exact absurd (h i j e f (hmem.2 ⟨hi, he⟩) (hmem.2 ⟨hj, hf⟩) hab) hlt.ne

theorem State.talliesOk_iff {s : State} :
    s.talliesOk ↔ ∀ i e, s.entryAt i = some e → tallyOk e.tally = true := by
  constructor
  · intro h i e he
    obtain ⟨sl, hsl, hentry⟩ := Option.bind_eq_some_iff.1 he
    exact h sl (List.mem_of_getElem? hsl) e hentry
  · intro h sl hsl e he
    obtain ⟨i, hi⟩ := List.mem_iff_getElem?.1 hsl
    exact h i e (by rw [State.entryAt_def, hi]; exact he)

/-- A table whose slots hold no other identities than before. -/
theorem State.tableOk_of_entries {s t : State} (hlength : t.atc.table.length = s.atc.table.length)
    (h : ∀ i e', t.entryAt i = some e' → ∃ e, s.entryAt i = some e ∧ e.id = e'.id) (hs : s.tableOk) :
    t.tableOk := by
  obtain ⟨hlength', hinj⟩ := State.tableOk_iff.1 hs
  refine State.tableOk_iff.2 ⟨hlength.trans hlength', fun i j e' f' he' hf' hid => ?_⟩
  obtain ⟨e, he, hee'⟩ := h i e' he'
  obtain ⟨f, hf, hff'⟩ := h j f' hf'
  exact hinj i j e f he hf (hee'.trans (hid.trans hff'.symm))

theorem State.reportsOk_of_entries {s t : State} (hqueue : t.tu.reportQueue = s.tu.reportQueue)
    (h : ∀ i, (s.entryAt i).isSome = true → (t.entryAt i).isSome = true) (hs : s.reportsOk) : t.reportsOk := by
  obtain ⟨hnodup, hmem⟩ := hs
  exact ⟨hqueue ▸ hnodup, fun i hi => h i (hmem i (hqueue ▸ hi))⟩

/-! ### Primitive changes -/

section
variable {quiet : Prop} (s : State)

/-- A change of the blocks that no form speaks of. -/
theorem sound_of_eq {s t : State} (hpending : t.pending = s.pending) (hchoice : t.choice = s.choice)
    (htable : t.atc.table = s.atc.table) (hmap : t.atc.map = s.atc.map) (hslc : t.slc = s.slc)
    (hpwc : t.pwc = s.pwc) (hpages : t.fp.pageFifo = s.fp.pageFifo) (htu : t.tu = s.tu)
    (hconfig : t.al.config = s.al.config) (hnotices : t.al.notices = s.al.notices)
    (hpart : t.al.participation = s.al.participation) (hair : t.out.air = s.out.air) : Sound quiet s t where
  pending := hpending
  choice := hchoice
  fixed cfg h := ⟨hconfig.trans h, hmap⟩
  tag := by unfold State.tagOk; rw [hconfig]; exact id
  notices := by unfold State.noticesOk; rw [hnotices]; exact id
  fifos := by unfold State.fifosOk; rw [hpages, hslc]; exact id
  queue := by unfold State.queueOk; rw [hslc]; exact id
  table := by unfold State.tableOk State.identities; rw [htable]; exact id
  tallies _ := by unfold State.talliesOk; rw [htable]; exact id
  reports := by unfold State.reportsOk State.entryAt; rw [htable, htu]; exact id
  modes := by unfold State.modesOk; rw [hslc, hconfig, hpwc]; exact id
  sidelink := by unfold State.sidelinkOk; rw [hslc]; exact id
  silent _ := by unfold State.Silent; rw [hpart, hslc, hair]; exact id

theorem sound_withSlots (l : List (Option Slot)) : Sound quiet s (s.withSlots l) :=
  sound_of_eq rfl rfl rfl rfl rfl rfl rfl rfl rfl rfl rfl rfl

theorem sound_setMalformed : Sound quiet s s.setMalformed :=
  sound_of_eq rfl rfl rfl rfl rfl rfl rfl rfl rfl rfl rfl rfl

theorem sound_setTableFull : Sound quiet s s.setTableFull :=
  sound_of_eq rfl rfl rfl rfl rfl rfl rfl rfl rfl rfl rfl rfl

theorem sound_setPoolExhausted : Sound quiet s s.setPoolExhausted :=
  sound_of_eq rfl rfl rfl rfl rfl rfl rfl rfl rfl rfl rfl rfl

theorem sound_setRxOverrun : Sound quiet s s.setRxOverrun :=
  sound_of_eq rfl rfl rfl rfl rfl rfl rfl rfl rfl rfl rfl rfl

theorem sound_setDamaged : Sound quiet s s.setDamaged :=
  sound_of_eq rfl rfl rfl rfl rfl rfl rfl rfl rfl rfl rfl rfl

theorem sound_advance (t : Micros) : Sound quiet s (s.advance t) :=
  sound_of_eq rfl rfl rfl rfl rfl rfl rfl rfl rfl rfl rfl rfl

theorem sound_withResponse (r : Option Response) : Sound quiet s (s.withResponse r) :=
  sound_of_eq rfl rfl rfl rfl rfl rfl rfl rfl rfl rfl rfl rfl

theorem sound_answer (a : LinkAnswer) : Sound quiet s (s.answer a) :=
  sound_of_eq rfl rfl rfl rfl rfl rfl rfl rfl rfl rfl rfl rfl

theorem sound_queueNotice (n : Notice) : Sound quiet s (s.queueNotice n) := by
  rw [State.queueNotice_eq]
  exact { Sound.refl s with notices := joinNotice_ok n }

theorem sound_withTu {x : Tu} (h : s.reportsOk → (s.withTu x).reportsOk) : Sound quiet s (s.withTu x) :=
  { Sound.refl s with reports := h }

theorem sound_withFp {x : Fp} (h : s.fp.pageFifo.length ≤ 8 → x.pageFifo.length ≤ 8) :
    Sound quiet s (s.withFp x) :=
  { Sound.refl s with fifos := fun ⟨hpages, hframes⟩ => ⟨h hpages, hframes⟩ }

/-- A change of Power Control that keeps the power state, with a warm-up in DOZE at most. -/
theorem sound_withPwc {x : Pwc} (hpower : x.power = s.pwc.power)
    (hwarm : x.warmUp.isSome = true → s.pwc.warmUp.isSome = true ∨ s.pwc.power = .doze) :
    Sound quiet s (s.withPwc x) :=
  { Sound.refl s with
    modes := fun ⟨hoff, hdoze, hup⟩ => ⟨hoff, by simpa [hpower] using hdoze,
      fun h => hpower.trans ((hwarm h).elim hup id)⟩ }

/-- Entries changed in place, each with its identity and with a tally of the allowed form. -/
theorem sound_modifyEntry (i : Nat) {f : Entry → Entry} (hid : ∀ e, (f e).id = e.id)
    (htally : s.tagOk → ∀ e, s.entryAt i = some e → tallyOk e.tally = true → tallyOk (f e).tally = true) :
    Sound quiet s (s.modifyEntry i f) :=
  { Sound.refl s with
    table := State.tableOk_of_entries (s.length_modifyEntry i f) fun k e' he' => by
      rw [State.entryAt_modifyEntry] at he'
      split at he'
      · obtain ⟨e, he, rfl⟩ := Option.map_eq_some_iff.1 he'
        exact ⟨e, he, (hid e).symm⟩
      · exact ⟨e', he', rfl⟩
    tallies := fun htag hs => State.talliesOk_iff.2 fun k e' he' => by
      rw [State.entryAt_modifyEntry] at he'
      split at he'
      · next hik =>
        subst hik
        obtain ⟨e, he, rfl⟩ := Option.map_eq_some_iff.1 he'
        exact htally htag e he (State.talliesOk_iff.1 hs i e he)
      · exact State.talliesOk_iff.1 hs k e' he'
    reports := State.reportsOk_of_entries rfl fun k hk => by
      rw [State.entryAt_modifyEntry]
      split <;> simpa using hk }

theorem sound_mapEntries {f : Entry → Entry} (hid : ∀ e, (f e).id = e.id) (htally : ∀ e, (f e).tally = e.tally) :
    Sound quiet s (s.mapEntries f) :=
  { Sound.refl s with
    table := State.tableOk_of_entries (by simp) fun k e' he' => by
      rw [State.entryAt_mapEntries] at he'
      obtain ⟨e, he, rfl⟩ := Option.map_eq_some_iff.1 he'
      exact ⟨e, he, (hid e).symm⟩
    tallies := fun _ hs => State.talliesOk_iff.2 fun k e' he' => by
      rw [State.entryAt_mapEntries] at he'
      obtain ⟨e, he, rfl⟩ := Option.map_eq_some_iff.1 he'
      rw [htally]
      exact State.talliesOk_iff.1 hs k e he
    reports := State.reportsOk_of_entries rfl fun k hk => by
      rw [State.entryAt_mapEntries]
      simpa using hk }

/-- An entry that leaves the table, and the report queue with it. -/
theorem sound_removeEntry (i : Nat) : Sound quiet s (s.removeEntry i) := by
  have hentry (k : Nat) : (s.removeEntry i).entryAt k = if i = k then none else s.entryAt k := by
    unfold State.removeEntry
    rw [State.entryAt_modifySlot]
    split
    · cases (s.removeElement i).atc.table[k]? <;> rfl
    · rfl
  exact { Sound.refl s with
    table := State.tableOk_of_entries (by simp [State.removeEntry, State.removeElement]) fun k e he => by
      rw [hentry] at he
      split at he
      · cases he
      · exact ⟨e, he, rfl⟩
    tallies := fun _ hs => State.talliesOk_iff.2 fun k e he => by
      rw [hentry] at he
      split at he
      · cases he
      · exact State.talliesOk_iff.1 hs k e he
    reports := fun ⟨hnodup, hmem⟩ => by
      refine ⟨hnodup.filter _, fun k hk => ?_⟩
      obtain ⟨hk, hne⟩ := List.mem_filter.1 hk
      rw [hentry, if_neg (by simpa using Ne.symm (by simpa using hne))]
      exact hmem k hk }

/-! ### The Sidelink Controller -/

/-- `y` is `x` after a change that keeps the order of the send queue, the receive FIFO, the agreement of stage,
current job and medium state, and that takes no job; the medium state changes among those that measure. -/
structure Slc.Keeps (x y : Slc) : Prop where
  queue : jobsOk x.queue → jobsOk y.queue
  rxFifo : y.rxFifo = x.rxFifo
  medium : y.medium = x.medium ∨ x.medium.measures = true ∧ y.medium.measures = true
  stage : x.StageOk → y.StageOk
  current : x.current = none → y.current = none

theorem Slc.Keeps.refl (x : Slc) : x.Keeps x := ⟨id, rfl, .inl rfl, id, id⟩

theorem State.entryAt_isSome_of_unsent {s t : State} (h : SidelinkOnly s t) (i : Nat) :
    (t.entryAt i).isSome = (s.entryAt i).isSome := by
  simpa using congrArg Option.isSome (h.entryAt i)

theorem State.modesOk_of_medium {s t : State} (hconfig : t.al.config = s.al.config) (hpwc : t.pwc = s.pwc)
    (hmedium : t.slc.medium = s.slc.medium
      ∨ s.slc.medium.measures = true ∧ t.slc.medium.measures = true) (hs : s.modesOk) : t.modesOk := by
  have hoff {m : Medium} (h : m.measures = true) : m ≠ .off ∧ m ≠ .dozeSampling := by
    constructor <;> rintro rfl <;> cases h
  obtain ⟨hoff', hdoze, hup⟩ := hs
  unfold State.modesOk
  rw [hconfig, hpwc]
  rcases hmedium with h | ⟨hbefore, hafter⟩
  · rw [h]
    exact ⟨hoff', hdoze, hup⟩
  · obtain ⟨hbo, hbd⟩ := hoff hbefore
    obtain ⟨hao, had⟩ := hoff hafter
    exact ⟨iff_of_false hao (mt hoff'.2 hbo), iff_of_false had (mt hdoze.2 hbd), hup⟩

/-- An operation that sends keeps every form where it keeps those of the Sidelink Controller and the notices. -/
theorem sound_of_sidelinkOnly {s t : State} (h : SidelinkOnly s t) (hnotices : s.noticesOk → t.noticesOk)
    (hqueue : jobsOk s.slc.queue → jobsOk t.slc.queue)
    (hmedium : t.slc.medium = s.slc.medium ∨ s.slc.medium.measures = true ∧ t.slc.medium.measures = true)
    (hstage : s.slc.StageOk → t.slc.StageOk) (hsilent : s.Silent → t.Silent) : Sound quiet s t where
  pending := h.pending
  choice := h.choice
  fixed cfg hcfg := ⟨h.config.trans hcfg, h.map⟩
  tag := by unfold State.tagOk; rw [h.config]; exact id
  notices := hnotices
  fifos := by unfold State.fifosOk; rw [h.fp, h.rxFifo]; exact id
  queue := hqueue
  table := State.tableOk_of_entries h.table fun i e' he' => by
    obtain ⟨e, he, hunsent⟩ := h.entryAt_some he'
    exact ⟨e, he, (congrArg Entry.id hunsent).symm⟩
  tallies _ hs := State.talliesOk_iff.2 fun i e' he' => by
    obtain ⟨e, he, hunsent⟩ := h.entryAt_some he'
    have htally : e'.unsent.tally = e.unsent.tally := by rw [hunsent]
    exact htally ▸ State.talliesOk_iff.1 hs i e he
  reports := State.reportsOk_of_entries (by rw [h.tu]) fun i hi => by
    rwa [State.entryAt_isSome_of_unsent h]
  modes := State.modesOk_of_medium h.config h.pwc hmedium
  sidelink := hstage
  silent _ := hsilent

/-- The same, for an operation that takes no job and puts nothing on the air. -/
theorem sound_of_keeps {s t : State} (h : SidelinkOnly s t) (hnotices : t.al.notices = s.al.notices)
    (hair : t.out.air = s.out.air) (hslc : s.slc.Keeps t.slc) : Sound quiet s t :=
  sound_of_sidelinkOnly h (by unfold State.noticesOk; rw [hnotices]; exact id) hslc.queue hslc.medium hslc.stage
    fun ⟨hpart, hstage, hcurrent, hempty⟩ =>
      ⟨h.participation.trans hpart, hslc.stage hstage, hslc.current hcurrent, hair.trans hempty⟩

theorem sound_withSlc {x : Slc} (hc : x.carrier = s.slc.carrier) (h : s.slc.Keeps x) :
    Sound quiet s (s.withSlc x) := sound_of_keeps (sidelinkOnly_withSlc s h.rxFifo hc) rfl rfl h

theorem sound_setSendQueueFull : Sound quiet s s.setSendQueueFull :=
  sound_of_keeps (sidelinkOnly_setSendQueueFull s) rfl rfl (.refl _)

/-- A change of the send records of an entry keeps every form. -/
theorem sound_modifySends (i : Nat) {f : Entry → Entry} (h : ∀ e, (f e).unsent = e.unsent) :
    Sound quiet s (s.modifyEntry i f) :=
  sound_of_keeps (sidelinkOnly_modifyEntry s i h) rfl rfl (.refl _)

theorem sound_withTable {l : List TableSlot} (h : SidelinkOnly s (s.withTable l)) :
    Sound quiet s (s.withTable l) := sound_of_keeps h rfl rfl (.refl _)

theorem sound_relayReport (job : Job) (follows : RelayState → Bool) (next : RelayState) :
    Sound quiet s (s.relayReport job follows next) := by
  have h := sidelinkOnly_relayReport s job follows next
  rw [State.relayReport_eq] at h ⊢
  exact sound_withTable s h

theorem sound_tallyReport (job : Job) (follows : TallySendState → Bool) (f : TallySend → TallySend) :
    Sound quiet s (s.tallyReport job follows f) := by
  have h := sidelinkOnly_tallyReport s job follows f
  rw [State.tallyReport_eq] at h ⊢
  exact sound_withTable s h

theorem sound_startTallyWait (i : Nat) : Sound quiet s (s.startTallyWait i) := by
  have h := sidelinkOnly_startTallyWait s i
  rw [State.startTallyWait_eq] at h ⊢
  exact sound_withTable s h

theorem sound_tallySent (i : Nat) : Sound quiet s (s.tallySent i) := by
  have hidle := sound_modifySends (quiet := quiet) s i
    (f := fun e => { e with tallySend := ⟨.idle, some s.now, false⟩ }) fun _ => rfl
  unfold State.tallySent
  split
  · exact .refl s
  · exact .ite (fun _ => .ite (fun _ => hidle.trans (sound_startTallyWait _ i)) fun _ => hidle) fun _ => .refl s

theorem sound_reportStaged (job : Job) : Sound quiet s (s.reportStaged job) := by
  unfold State.reportStaged
  split
  · exact sound_relayReport s _ _ _
  · exact sound_tallyReport s _ _ _

theorem sound_reportWon (job : Job) : Sound quiet s (s.reportWon job) := by
  unfold State.reportWon
  split
  · exact sound_relayReport s _ _ _
  · exact sound_tallyReport s _ _ _

theorem sound_reportCompleted (job : Job) : Sound quiet s (s.reportCompleted job) := by
  unfold State.reportCompleted
  split
  · exact sound_relayReport s _ _ _
  · split
    · exact .refl s
    · exact sound_tallySent s _

theorem sound_reportDropped (job : Job) : Sound quiet s (s.reportDropped job) := by
  unfold State.reportDropped
  split
  · exact sound_relayReport s _ _ _
  · exact sound_tallyReport s _ _ _

theorem sound_reportEnded (job : Job) : Sound quiet s (s.reportEnded job) := by
  unfold State.reportEnded
  split
  · exact .ite (fun _ => .refl s) fun _ => sound_relayReport s _ _ _
  · exact sound_tallyReport s _ _ _

theorem sound_giveUpAtStaging (job : Job) : Sound quiet s (s.giveUpAtStaging job) := by
  unfold State.giveUpAtStaging
  split
  · exact sound_relayReport s _ _ _
  · exact sound_tallyReport s _ _ _

/-! ### The send queue (R87 to R89) -/

theorem jobsOk_sublist {q q' : List Job} (h : q'.Sublist q) (hq : jobsOk q) : jobsOk q' := by
  obtain ⟨hlength, hnames, horder⟩ := hq
  exact ⟨h.length_le.trans hlength, hnames.sublist (h.map _), horder.sublist h⟩

/-- A job of a new name joins a queue with room. -/
theorem jobsOk_insertJob {job : Job} {q : List Job} (hroom : q.length < 12)
    (hnew : job.name ∉ q.map Job.name) (hq : jobsOk q) : jobsOk (insertJob job q) := by
  obtain ⟨-, hnames, horder⟩ := hq
  refine ⟨by simpa using hroom, ?_, insertJob_pairwise job horder⟩
  rw [((insertJob_perm job q).map Job.name).nodup_iff, List.map_cons, List.nodup_cons]
  exact ⟨hnew, hnames⟩

theorem Job.named_iff {j : Job} {id : Identity} {kind : JobKind} :
    j.named id kind = true ↔ j.name = (id, kind) := by
  simp [Job.named, Job.name]

theorem sound_withQueue {q : List Job} (h : jobsOk s.slc.queue → jobsOk q) : Sound quiet s (s.withQueue q) :=
  sound_withSlc s rfl ⟨h, rfl, .inl rfl, id, id⟩

theorem sound_placeJob (job : Job) : Sound quiet s (s.placeJob job) := by
  unfold State.placeJob
  refine .ite (fun _ => .refl s) fun hnone => ?_
  have hnew : job.name ∉ s.slc.queue.map Job.name := by
    rintro hmem
    obtain ⟨j, hj, hname⟩ := List.mem_map.1 hmem
    exact hnone (List.any_eq_true.2 ⟨j, hj, Job.named_iff.2 hname⟩)
  refine .ite (fun hroom => sound_withQueue s (jobsOk_insertJob hroom hnew)) fun hfull => ?_
  split
  · next lowest hlast =>
    refine .ite (fun _ => ?_) fun _ => (sound_setSendQueueFull s).trans (sound_reportDropped _ _)
    refine ((sound_withQueue s fun hq => ?_).trans (sound_setSendQueueFull _)).trans (sound_reportDropped _ _)
    have hsub := List.dropLast_sublist s.slc.queue
    have hlength : s.slc.queue.dropLast.length < 12 := by
      obtain ⟨hle, -, -⟩ := hq
      rw [List.length_dropLast]
      omega
    exact jobsOk_insertJob hlength (fun hmem => hnew ((hsub.map _).subset hmem)) (jobsOk_sublist hsub hq)
  · exact .refl s

/-! ### Endings and cuts (R100, R101) -/

theorem Medium.not_onAir_of_waiting {m : Medium} (h : m = .defer ∨ m.name = .contend) : m.onAir = false := by
  cases m <;> simp_all [Medium.name, Medium.onAir]

/-- The stage emptied: where a current job goes that is not on the air. -/
theorem Slc.keeps_emptied (x : Slc) (now : Micros) (h : x.StageOk → x.medium.onAir = false) :
    x.Keeps (x.emptied now) := by
  refine ⟨id, rfl, ?_, fun hstage => ⟨iff_of_true rfl rfl, fun hwait => ?_, fun hair => ?_⟩, fun _ => rfl⟩
  · unfold Slc.emptied
    dsimp only
    split
    · next hwait =>
      refine .inr ⟨?_, rfl⟩
      cases hm : x.medium <;> simp_all [Medium.name, Medium.measures]
    · exact .inl rfl
  · unfold Slc.emptied at hwait
    dsimp only at hwait
    split at hwait
    · simp [Medium.name] at hwait
    · contradiction
  · have hoff := h hstage
    unfold Slc.emptied at hair
    dsimp only at hair
    split at hair
    · cases hair
    · rw [hoff] at hair
      cases hair

theorem Slc.Keeps.trans {x y z : Slc} (h : x.Keeps y) (k : y.Keeps z) : x.Keeps z where
  queue := k.queue ∘ h.queue
  rxFifo := k.rxFifo.trans h.rxFifo
  medium := by
    rcases h.medium with hm | ⟨hx, hy⟩ <;> rcases k.medium with km | ⟨ky, kz⟩
    · exact .inl (km.trans hm)
    · exact .inr ⟨hm ▸ ky, kz⟩
    · exact .inr ⟨hx, km ▸ hy⟩
    · exact .inr ⟨hx, kz⟩
  stage := k.stage ∘ h.stage
  current := k.current ∘ h.current

theorem Slc.keeps_filterQueue (x : Slc) (p : Job → Bool) : x.Keeps { x with queue := x.queue.filter p } :=
  ⟨jobsOk_sublist List.filter_sublist, rfl, .inl rfl, id, id⟩

/-- The end mark of a current job touches nothing else. -/
theorem Slc.keeps_endMark {x : Slc} {c : CurrentJob} (h : x.current = some c) :
    x.Keeps { x with current := some { c with endMark := true } } := by
  refine ⟨id, rfl, .inl rfl, fun ⟨hstage, hwait, hair⟩ => ⟨?_, fun _ => rfl, fun ha => ?_⟩, fun hn => ?_⟩
  · rw [hstage, h]
    simp
  · simpa [h] using hair ha
  · rw [h] at hn
    cases hn

theorem Slc.keeps_ending (x : Slc) (now : Micros) (id : Identity) (kind : JobKind) :
    x.Keeps (x.ending now id kind) := by
  have hfilter := x.keeps_filterQueue fun j => !(decide (j.id = id) && decide (j.kind = kind))
  unfold Slc.ending
  dsimp only
  split
  · next c hc =>
    split
    · split
      · exact hfilter.trans (Slc.keeps_endMark hc)
      · next hair => exact hfilter.trans (Slc.keeps_emptied _ now fun _ => Bool.eq_false_iff.2 hair)
    · exact hfilter
  · exact hfilter

theorem Slc.keeps_cut (x : Slc) (now : Micros) (id : Identity) (kind : JobKind) :
    x.Keeps (x.cut now id kind) := by
  have hfilter := x.keeps_filterQueue fun j => !(decide (j.id = id) && decide (j.kind = kind))
  unfold Slc.cut
  dsimp only
  split
  · next c hc =>
    split
    · next hwon =>
      refine hfilter.trans (Slc.keeps_emptied _ now fun ⟨_, _, hair⟩ => Bool.eq_false_iff.2 fun ha => ?_)
      have := hair ha
      simp [hc, hwon.2.2] at this
    · exact hfilter
  · exact hfilter

/-- Emptying the stage touches the Sidelink Controller only; ending and cutting touch the table besides. -/
theorem State.endJob_eq (id : Identity) (kind : JobKind) :
    s.endJob id kind = (s.withSlc (s.slc.ending s.now id kind)).withTable (s.endJob id kind).atc.table := by
  rw [← State.endJob_slc]
  unfold State.endJob State.endCurrent
  dsimp only
  split
  · split
    · split
      · rfl
      · rw [State.reportEnded_eq, State.emptyStage_eq]
        rfl
    · rfl
  · rfl

theorem State.cutJob_eq (id : Identity) (kind : JobKind) :
    s.cutJob id kind = s.withSlc (s.slc.cut s.now id kind) := by
  rw [← State.cutJob_slc]
  unfold State.cutJob
  dsimp only
  split
  · split
    · rw [State.emptyStage_eq]
      rfl
    · rfl
  · rfl

theorem sound_endJob (id : Identity) (kind : JobKind) : Sound quiet s (s.endJob id kind) := by
  have h := sidelinkOnly_endJob s id kind
  refine sound_of_keeps h ?_ ?_ (s.endJob_slc id kind ▸ Slc.keeps_ending _ _ _ _) <;>
  · rw [State.endJob_eq]
    rfl

theorem sound_cutJob (id : Identity) (kind : JobKind) : Sound quiet s (s.cutJob id kind) := by
  have h := sidelinkOnly_cutJob s id kind
  refine sound_of_keeps h ?_ ?_ (s.cutJob_slc id kind ▸ Slc.keeps_cut _ _ _ _) <;>
  · rw [State.cutJob_eq]
    rfl

/-- The current job's ending (R100). -/
theorem sound_endCurrent {c : CurrentJob} (hc : s.slc.current = some c) : Sound quiet s (s.endCurrent c) := by
  refine .ite (fun _ => sound_withSlc s rfl (Slc.keeps_endMark hc)) fun hair => ?_
  refine Sound.trans ?_ (sound_reportEnded _ _)
  rw [State.emptyStage_eq, State.emptyStage_slc]
  exact sound_withSlc s rfl (Slc.keeps_emptied _ _ fun _ => Bool.eq_false_iff.2 hair)

/-! ### DEFER, CONTEND and JAMMED (R92 to R95, R106) -/

/-- A medium state that is on the air of no burst and, where it waits or contends, serves a current job. -/
theorem Slc.stageOk_withMedium {x : Slc} {m : Medium} (busy quiet : Option Micros)
    (hwait : x.StageOk → m = .defer ∨ m.name = .contend → x.current.isSome = true) (hair : m.onAir = false)
    (h : x.StageOk) : { x with medium := m, busyStart := busy, quietSince := quiet }.StageOk :=
  ⟨h.1, hwait h, fun ha => by rw [hair] at ha; cases ha⟩

/-- The medium state changed among those that measure, to one that sends no burst. -/
theorem sound_withMedium {m : Medium} (hm : s.slc.medium.measures = true) (hm' : m.measures = true)
    (hair : m.onAir = false)
    (hwait : s.slc.StageOk → m = .defer ∨ m.name = .contend → s.slc.current.isSome = true) :
    Sound quiet s (s.withMedium m) :=
  sound_withSlc s rfl ⟨id, rfl, .inr ⟨hm, hm'⟩, Slc.stageOk_withMedium _ _ hwait hair, id⟩

theorem State.beginSlot_slc (key : BitVec 16) (slot : Nat) :
    (s.beginSlot key slot).slc = { s.slc with
      medium := .contend key slot (s.now + 100)
      quietSince := (s.beginSlot key slot).slc.quietSince } := by
  unfold State.beginSlot
  dsimp only
  split <;> rfl

theorem State.beginSlot_al (key : BitVec 16) (slot : Nat) : (s.beginSlot key slot).al = s.al := by
  unfold State.beginSlot
  dsimp only
  split <;> rfl

theorem sound_beginSlot (key : BitVec 16) (slot : Nat) (hm : s.slc.medium.measures = true)
    (hc : s.slc.StageOk → s.slc.current.isSome = true) : Sound quiet s (s.beginSlot key slot) := by
  have hslc := s.beginSlot_slc key slot
  refine sound_of_sidelinkOnly (sidelinkOnly_beginSlot s key slot) ?_ ?_ ?_ ?_ ?_
  · unfold State.noticesOk
    rw [State.beginSlot_al]
    exact id
  · rw [hslc]
    exact id
  · rw [hslc]
    exact .inr ⟨hm, rfl⟩
  · rw [hslc]
    exact Slc.stageOk_withMedium s.slc.busyStart _ (fun h _ => hc h) rfl
  · rintro ⟨-, hstage, hcurrent, -⟩
    have := hc hstage
    simp [hcurrent] at this

theorem sound_beginContention (hm : s.slc.medium.measures = true)
    (hc : s.slc.StageOk → s.slc.current.isSome = true) : Sound quiet s s.beginContention := by
  refine Sound.trans ?_ (sound_beginSlot _ _ _ hm hc)
  exact sound_withSlc s rfl ⟨id, rfl, .inl rfl, id, id⟩

theorem sound_enterJammed (hm : s.slc.medium.measures = true) : Sound quiet s s.enterJammed :=
  (sound_withMedium s hm rfl rfl (by simp [Medium.name])).trans (sound_queueNotice _ _)

theorem sound_enterDefer (hm : s.slc.medium.measures = true)
    (hc : s.slc.StageOk → s.slc.current.isSome = true) : Sound quiet s s.enterDefer := by
  have hdefer : Sound quiet s (s.withMedium .defer) := sound_withMedium s hm rfl rfl fun h _ => hc h
  have hc' : (s.withMedium .defer).slc.StageOk → (s.withMedium .defer).slc.current.isSome = true :=
    fun ⟨_, hwait, _⟩ => hwait (.inl rfl)
  rcases s.enterDefer_cases with ⟨-, h⟩ | ⟨-, -, h⟩ | ⟨-, -, h⟩ <;> rw [h]
  · exact hdefer.trans (sound_beginContention _ rfl hc')
  · exact hdefer.trans (sound_enterJammed _ rfl)
  · exact hdefer

/-! ### Taking the head (R90) -/

/-- A job taken with a burst to stage, where none is current and participation is FULL. -/
theorem sound_stageFirst {job : Job} (hm : s.slc.medium.measures = true) (hfull : s.fullPart = true)
    (hnone : s.slc.current = none) (hburst : s.buildBurst job.id (job.frames.take 6) ≠ []) :
    Sound quiet s (s.stageFirst job) := by
  have hstage : s.slc.StageOk → (s.stageBurst ⟨job, job.frames, false, false⟩).slc.StageOk := by
    rintro ⟨-, hwait, hair⟩
    refine ⟨iff_of_false hburst nofun, fun _ => rfl, fun ha => ?_⟩
    have := hair ha
    simp [hnone] at this
  have hstaged : Sound quiet s (s.stageBurst ⟨job, job.frames, false, false⟩) := by
    refine sound_of_sidelinkOnly (sidelinkOnly_stageBurst s _) id id (.inl rfl) hstage ?_
    rintro ⟨hpart, -, -, -⟩
    simp [State.fullPart, hpart] at hfull
  have hreported := hstaged.trans (sound_reportStaged _ job)
  have hslc := State.reportStaged_slc (s.stageBurst ⟨job, job.frames, false, false⟩) job
  refine .ite (fun _ => hreported.trans (sound_enterDefer _ ?_ fun _ => ?_)) fun _ => hreported
  · rw [hslc]
    exact hm
  · rw [hslc]
    rfl

theorem State.giveUpAtStaging_fullPart (job : Job) : (s.giveUpAtStaging job).fullPart = s.fullPart := by
  unfold State.fullPart
  rw [(sidelinkOnly_giveUpAtStaging s job).participation]

theorem sound_takeFrom (l : List Job) (hl : l.Sublist s.slc.queue) (hm : s.slc.medium.measures = true)
    (hfull : s.fullPart = true) (hnone : s.slc.current = none) : Sound quiet s (s.takeFrom l) := by
  induction l generalizing s with
  | nil => exact sound_withQueue s (jobsOk_sublist hl)
  | cons job rest ih =>
    have hrest : rest.Sublist s.slc.queue := (List.sublist_cons_self job rest).trans hl
    refine .ite (fun _ => (sound_giveUpAtStaging s job).trans ?_) fun hburst => ?_
    · exact ih _ (by rwa [State.giveUpAtStaging_slc]) (by rwa [State.giveUpAtStaging_slc])
        (by rwa [State.giveUpAtStaging_fullPart]) (by rwa [State.giveUpAtStaging_slc])
    · refine (sound_withQueue s (jobsOk_sublist hrest)).trans (sound_stageFirst _ hm hfull hnone fun hnil => ?_)
      have hsame : (s.withQueue rest).buildBurst job.id (job.frames.take 6) =
          s.buildBurst job.id (job.frames.take 6) := rfl
      rw [hsame] at hnil
      simp [hnil] at hburst

theorem sound_takeHead : Sound quiet s s.takeHead := by
  refine .ite (fun h => ?_) fun _ => .refl s
  simp only [State.mayTakeHead, Bool.and_eq_true, Option.isNone_iff_eq_none] at h
  obtain ⟨⟨⟨hm, hfull⟩, hnone⟩, -⟩ := h
  exact sound_takeFrom s _ (List.Sublist.refl _) hm hfull hnone

end

end Sys2Proof.Machine
end

section
/-! Tallies: what an added tag and a merge keep, what a tally holds of tags, and the covered test (R145 to R157). -/

namespace Sys2Proof.Machine

/-! ### The two forms of a tally (R145, R146) -/

theorem ascending_iff_pairwise {tags : List Tag} : ascending tags = true ↔ tags.Pairwise (· < ·) := by
  induction tags with
  | nil => simp [ascending]
  | cons a rest ih =>
    cases rest with
    | nil => simp [ascending]
    | cons b rest =>
      rw [ascending, Bool.and_eq_true, ih, decide_eq_true_eq]
      refine ⟨fun ⟨hab, h⟩ => List.pairwise_cons.2 ⟨fun x hx => ?_, h⟩, fun h => ?_⟩
      · rcases List.mem_cons.1 hx with rfl | hx
        · exact hab
        · exact BitVec.lt_trans hab (List.rel_of_pairwise_cons h hx)
      · exact ⟨List.rel_of_pairwise_cons h List.mem_cons_self, (List.pairwise_cons.1 h).2⟩

theorem insertTag_pairwise {t : Tag} {tags : List Tag} (hnew : t ∉ tags) (h : tags.Pairwise (· < ·)) :
    (insertTag t tags).Pairwise (· < ·) := by
  induction tags with
  | nil => exact List.pairwise_singleton _ _
  | cons x xs ih =>
    obtain ⟨hx, hxs⟩ := List.pairwise_cons.1 h
    unfold insertTag
    split
    · next htx =>
      refine List.pairwise_cons.2 ⟨fun y hy => ?_, h⟩
      rcases List.mem_cons.1 hy with rfl | hy
      · exact htx
      · exact BitVec.lt_trans htx (hx y hy)
    · next htx =>
      refine List.pairwise_cons.2 ⟨fun y hy => ?_, ih (fun ht => hnew (.tail x ht)) hxs⟩
      rcases mem_insertTag.1 hy with rfl | hy
      · have hne : y ≠ x := fun h => hnew (h ▸ .head xs)
        have hne' : y.toNat ≠ x.toNat := fun h => hne (BitVec.eq_of_toNat_eq h)
        rw [BitVec.lt_def] at htx ⊢
        omega
      · exact hx y hy

/-- 32 ranks of at most 16 each (R146). -/
def ranksOk (ranks : List Nat) : Prop := ranks.length = 32 ∧ ∀ r ∈ ranks, r ≤ 16

theorem ranksOk_zeroRanks : ranksOk zeroRanks := ⟨rfl, fun r hr => by rw [List.eq_of_mem_replicate hr]; omega⟩

/-- Ranks are sound where each of the 32 buckets is at most 16. -/
theorem ranksOk_iff {ranks : List Nat} : ranksOk ranks ↔ ranks.length = 32 ∧ ∀ b, ranks.getD b 0 ≤ 16 := by
  refine and_congr_right fun _ => ⟨fun h b => ?_, fun h r hr => ?_⟩
  · by_cases hb : b < ranks.length
    · rw [List.getD_eq_getElem ranks 0 hb]
      exact h _ (List.getElem_mem hb)
    · rw [List.getD_eq_default ranks 0 (Nat.le_of_not_lt hb)]
      omega
  · obtain ⟨b, hb, rfl⟩ := List.getElem_of_mem hr
    exact List.getD_eq_getElem ranks 0 hb ▸ h b

theorem ranksOk_foldTag {ranks : List Nat} (t : Tag) (h : ranksOk ranks) : ranksOk (foldTag ranks t) := by
  obtain ⟨hlength, hle⟩ := ranksOk_iff.1 h
  refine ranksOk_iff.2 ⟨by simpa using hlength, fun b => ?_⟩
  rw [foldTag_getD]
  split
  · exact max_le (hle b) (tagRank_le t)
  · exact hle b

theorem ranksOk_foldl {ranks : List Nat} (tags : List Tag) (h : ranksOk ranks) :
    ranksOk (tags.foldl foldTag ranks) := by
  induction tags generalizing ranks with
  | nil => exact h
  | cons t tags ih => exact ih (ranksOk_foldTag t h)

theorem ranksOk_zipWith_max {ranks ranks' : List Nat} (h : ranksOk ranks) (h' : ranksOk ranks') :
    ranksOk (List.zipWith max ranks ranks') := by
  obtain ⟨hlength, hle⟩ := ranksOk_iff.1 h
  obtain ⟨hlength', hle'⟩ := ranksOk_iff.1 h'
  refine ranksOk_iff.2 ⟨by simp [hlength, hlength'], fun b => ?_⟩
  rw [zipWith_max_getD (hlength.trans hlength'.symm)]
  exact max_le (hle b) (hle' b)

theorem tallyOk_sketch {ranks : List Nat} {floor : Nat} (hfloor : floor ≤ 25) (h : ranksOk ranks) :
    tallyOk (.sketch ranks floor) = true := tallyOk_sketch_iff.2 ⟨hfloor, h⟩

/-- An added station tag leaves a tally of the allowed form (R149, R150). -/
theorem tallyOk_addTag {tally : Tally} {t : Tag} (ht : t ≠ 0) (h : tallyOk tally = true) :
    tallyOk (addTag tally t) = true := by
  cases tally with
  | list tags =>
    obtain ⟨hlength, hstation, hascending⟩ := tallyOk_list_iff.1 h
    rw [addTag]
    split_ifs with hmem hroom
    · exact h
    · refine tallyOk_list_iff.2 ⟨by simpa using hroom, fun x hx => ?_, ?_⟩
      · rcases mem_insertTag.1 hx with rfl | hx
        · exact ht
        · exact hstation x hx
      · exact ascending_iff_pairwise.2 (insertTag_pairwise hmem (ascending_iff_pairwise.1 hascending))
    · exact tallyOk_sketch le_rfl (ranksOk_foldTag t (ranksOk_foldl tags ranksOk_zeroRanks))
  | sketch ranks floor =>
    obtain ⟨hfloor, hranks⟩ := tallyOk_sketch_iff.1 h
    exact tallyOk_sketch hfloor (ranksOk_foldTag t hranks)

theorem tallyOk_foldl_addTag {tally : Tally} {tags : List Tag} (htags : ∀ t ∈ tags, t ≠ 0)
    (h : tallyOk tally = true) : tallyOk (tags.foldl addTag tally) = true := by
  induction tags generalizing tally with
  | nil => exact h
  | cons t tags ih =>
    exact ih (fun u hu => htags u (.tail t hu)) (tallyOk_addTag (htags t (.head tags)) h)

/-- A merge of two tallies of the allowed form has it (R152 to R154). -/
theorem tallyOk_mergeTally {own received : Tally} (h : tallyOk own = true) (h' : tallyOk received = true) :
    tallyOk (mergeTally own received) = true := by
  cases own with
  | list tags =>
    obtain ⟨hlength, -, -⟩ := tallyOk_list_iff.1 h
    cases received with
    | list tags' =>
      obtain ⟨-, hstation, -⟩ := tallyOk_list_iff.1 h'
      exact tallyOk_foldl_addTag hstation h
    | sketch ranks' floor' =>
      obtain ⟨hfloor, hranks⟩ := tallyOk_sketch_iff.1 h'
      exact tallyOk_sketch (by omega) (ranksOk_zipWith_max (ranksOk_foldl tags ranksOk_zeroRanks) hranks)
  | sketch ranks floor =>
    obtain ⟨hfloor, hranks⟩ := tallyOk_sketch_iff.1 h
    cases received with
    | list tags' =>
      obtain ⟨hlength, -, -⟩ := tallyOk_list_iff.1 h'
      exact tallyOk_sketch (by omega) (ranksOk_foldl tags' hranks)
    | sketch ranks' floor' =>
      obtain ⟨hfloor', hranks'⟩ := tallyOk_sketch_iff.1 h'
      exact tallyOk_sketch (by omega) (ranksOk_zipWith_max hranks hranks')

/-! ### What a tally holds of a tag (R157) -/

/-- A tag is in a LIST, or its rank is in its bucket of a SKETCH. -/
def tallyHoldsTag : Tally → Tag → Prop
  | .list tags, t => t ∈ tags
  | .sketch ranks _, t => ranks.length = 32 ∧ tagRank t ≤ ranks.getD (tagBucket t) 0

/-- The floor a conversion sets: 25, whatever the tags (R150). -/
def floorAfterAdding : Tally → Prop
  | .list _ => True
  | .sketch _ floor => floor = 25

theorem foldTag_holds {ranks : List Nat} (h : ranks.length = 32) (t : Tag) :
    tagRank t ≤ (foldTag ranks t).getD (tagBucket t) 0 := by
  rw [foldTag_getD, if_pos ⟨rfl, h ▸ tagBucket_lt t⟩]
  exact le_max_right _ _

theorem foldl_foldTag_holds {ranks : List Nat} {tags : List Tag} (h : ranks.length = 32) :
    (∀ b < 32, ranks.getD b 0 ≤ (tags.foldl foldTag ranks).getD b 0)
      ∧ ∀ t ∈ tags, tagRank t ≤ (tags.foldl foldTag ranks).getD (tagBucket t) 0 := by
  have hle (b : Nat) (hb : b < 32) := (foldl_foldTag_getD_le_iff (tags := tags) (ranks := ranks)
    (b := b) (h ▸ hb)).1 le_rfl
  exact ⟨fun b hb => (hle b hb).1, fun t ht => (hle _ (tagBucket_lt t)).2 t ht rfl⟩

/-- An added tag is held, and so is everything held before. -/
theorem tallyHoldsTag_addTag {tally : Tally} (t : Tag)
    (hlength : ∀ ranks floor, tally = .sketch ranks floor → ranks.length = 32) :
    tallyHoldsTag (addTag tally t) t ∧ ∀ u, tallyHoldsTag tally u → tallyHoldsTag (addTag tally t) u := by
  cases tally with
  | list tags =>
    have hfold : (tags.foldl foldTag zeroRanks).length = 32 := foldl_foldTag_length tags zeroRanks
    rw [addTag]
    split_ifs with hmem
    · exact ⟨hmem, fun _ => id⟩
    · exact ⟨mem_insertTag.2 (.inl rfl), fun u hu => mem_insertTag.2 (.inr hu)⟩
    · refine ⟨⟨by simpa using hfold, foldTag_holds hfold t⟩, fun u hu => ⟨by simpa using hfold, ?_⟩⟩
      exact ((foldl_foldTag_holds rfl).2 u hu).trans (foldTag_mono _ t _)
  | sketch ranks floor =>
    have h := hlength ranks floor rfl
    exact ⟨⟨by simpa using h, foldTag_holds h t⟩,
      fun u ⟨_, hu⟩ => ⟨by simpa using h, hu.trans (foldTag_mono _ t _)⟩⟩

theorem sketch_length_addTag {tally : Tally} (t : Tag)
    (h : ∀ ranks floor, tally = .sketch ranks floor → ranks.length = 32) :
    ∀ ranks floor, addTag tally t = .sketch ranks floor → ranks.length = 32 := by
  intro ranks floor hadd
  cases tally with
  | list tags =>
    rw [addTag] at hadd
    split_ifs at hadd
    obtain ⟨rfl, -⟩ := Tally.sketch.inj hadd
    simp [zeroRanks]
  | sketch ranks' floor' =>
    obtain ⟨rfl, -⟩ := Tally.sketch.inj hadd
    simpa using h ranks' floor' rfl

theorem floorAfterAdding_addTag {tally : Tally} (t : Tag) (h : floorAfterAdding tally) :
    floorAfterAdding (addTag tally t) := by
  cases tally with
  | list tags =>
    rw [addTag]
    split_ifs <;> trivial
  | sketch ranks floor => exact h

theorem floorAfterAdding_foldl {tally : Tally} (tags : List Tag) (h : floorAfterAdding tally) :
    floorAfterAdding (tags.foldl addTag tally) := by
  induction tags generalizing tally with
  | nil => exact h
  | cons t tags ih => exact ih (floorAfterAdding_addTag t h)

/-- Added one by one, the tags are held, and so is everything held before. -/
theorem tallyHoldsTag_foldl {tally : Tally} (tags : List Tag)
    (hlength : ∀ ranks floor, tally = .sketch ranks floor → ranks.length = 32) :
    (∀ t ∈ tags, tallyHoldsTag (tags.foldl addTag tally) t)
      ∧ ∀ u, tallyHoldsTag tally u → tallyHoldsTag (tags.foldl addTag tally) u := by
  induction tags generalizing tally with
  | nil => exact ⟨nofun, fun _ => id⟩
  | cons t tags ih =>
    obtain ⟨hadded, hkept⟩ := tallyHoldsTag_addTag t hlength
    obtain ⟨hrest, hmore⟩ := ih (sketch_length_addTag t hlength)
    refine ⟨fun u hu => ?_, fun u hu => hmore u (hkept u hu)⟩
    rcases List.mem_cons.1 hu with rfl | hu
    · exact hmore _ hadded
    · exact hrest u hu

/-- While the tags are still listed, none but the old and the added ones are. -/
theorem mem_of_foldl_addTag {tags tags' merged : List Tag} (h : tags'.foldl addTag (.list tags) = .list merged)
    {t : Tag} (ht : t ∈ merged) : t ∈ tags ∨ t ∈ tags' := by
  induction tags' generalizing tags with
  | nil =>
    cases h
    exact .inl ht
  | cons u tags' ih =>
    rw [List.foldl_cons, addTag] at h
    split_ifs at h
    · exact (ih h).imp_right (.tail u)
    · rcases ih h with hmem | hmem
      · rcases mem_insertTag.1 hmem with rfl | hmem
        · exact .inr (.head _)
        · exact .inl hmem
      · exact .inr (.tail u hmem)
    · have hsketch (ranks : List Nat) (floor : Nat) :
          ∃ r, tags'.foldl addTag (.sketch ranks floor) = .sketch r floor := by
        clear h ih
        induction tags' generalizing ranks with
        | nil => exact ⟨ranks, rfl⟩
        | cons v tags' ih => exact ih _
      obtain ⟨r, hr⟩ := hsketch (foldTag (tags.foldl foldTag zeroRanks) u) 25
      rw [hr] at h
      cases h

/-- A held tag, folded or added again, changes nothing. -/
theorem foldTag_of_holds {ranks : List Nat} {t : Tag} (hlength : ranks.length = 32)
    (h : tagRank t ≤ ranks.getD (tagBucket t) 0) : foldTag ranks t = ranks := by
  have hb : tagBucket t < ranks.length := hlength ▸ tagBucket_lt t
  rw [foldTag, max_eq_left h, List.getD_eq_getElem ranks 0 hb, List.set_getElem_self]

theorem foldl_foldTag_of_holds {ranks : List Nat} {tags : List Tag} (hlength : ranks.length = 32)
    (h : ∀ t ∈ tags, tagRank t ≤ ranks.getD (tagBucket t) 0) : tags.foldl foldTag ranks = ranks := by
  induction tags with
  | nil => rfl
  | cons t tags ih =>
    rw [List.foldl_cons, foldTag_of_holds hlength (h t (.head tags))]
    exact ih fun u hu => h u (.tail t hu)

theorem foldl_addTag_of_mem {tags tags' : List Tag} (h : ∀ t ∈ tags', t ∈ tags) :
    tags'.foldl addTag (.list tags) = .list tags := by
  induction tags' with
  | nil => rfl
  | cons t tags' ih =>
    rw [List.foldl_cons, addTag, if_pos (h t (.head tags'))]
    exact ih fun u hu => h u (.tail t hu)

/-! ### Ranks bucket by bucket -/

theorem ext_ranks {ranks ranks' : List Nat} (h : ranks.length = 32) (h' : ranks'.length = 32)
    (heq : ∀ b < 32, ranks.getD b 0 = ranks'.getD b 0) : ranks = ranks' := by
  refine List.ext_getElem (h.trans h'.symm) fun b hb hb' => ?_
  have := heq b (h ▸ hb)
  rwa [List.getD_eq_getElem ranks 0 hb, List.getD_eq_getElem ranks' 0 hb'] at this

/-- A bucket-wise maximum is its second operand where the first nowhere exceeds it. -/
theorem zipWith_max_eq_right_iff {ranks ranks' : List Nat} (h : ranks.length = 32) (h' : ranks'.length = 32) :
    List.zipWith max ranks ranks' = ranks' ↔ ∀ b < 32, ranks.getD b 0 ≤ ranks'.getD b 0 := by
  constructor
  · intro heq b _
    have hmax := zipWith_max_getD (h.trans h'.symm) b
    rw [heq] at hmax
    omega
  · intro hle
    refine ext_ranks (by simp [h, h']) h' fun b hb => ?_
    rw [zipWith_max_getD (h.trans h'.symm)]
    exact max_eq_right (hle b hb)

theorem zeroRanks_getD (b : Nat) : zeroRanks.getD b 0 = 0 := by
  by_cases hb : b < 32
  · rw [zeroRanks, List.getD_replicate (h := hb)]
  · exact List.getD_eq_default _ _ (Nat.le_of_not_lt hb)

/-- Tags folded into the empty sketch stay below a sketch exactly where each tag does. -/
theorem foldl_zeroRanks_le_iff {tags : List Tag} {ranks : List Nat} :
    (∀ b < 32, (tags.foldl foldTag zeroRanks).getD b 0 ≤ ranks.getD b 0) ↔
      ∀ t ∈ tags, tagRank t ≤ ranks.getD (tagBucket t) 0 := by
  have hbound (b : Nat) (hb : b < 32) := foldl_foldTag_getD_le_iff (tags := tags) (ranks := zeroRanks)
    (n := ranks.getD b 0) (b := b) hb
  constructor
  · intro h t ht
    exact ((hbound _ (tagBucket_lt t)).1 (h _ (tagBucket_lt t))).2 t ht rfl
  · intro h b hb
    exact (hbound b hb).2 ⟨by rw [zeroRanks_getD]; omega, fun t ht htb => htb ▸ h t ht⟩

/-- Folding into a sketch comes to the same as folding into the empty one exactly where no bucket holds more than
the tags give it. -/
theorem foldl_zeroRanks_eq_iff {tags : List Tag} {ranks : List Nat} (h : ranks.length = 32) :
    tags.foldl foldTag zeroRanks = tags.foldl foldTag ranks ↔
      ∀ b < 32, ranks.getD b 0 = 0 ∨ ∃ t ∈ tags, tagBucket t = b ∧ ranks.getD b 0 ≤ tagRank t := by
  have hzero : (tags.foldl foldTag zeroRanks).length = 32 := foldl_foldTag_length tags zeroRanks
  have hown : (tags.foldl foldTag ranks).length = 32 := by simpa using h
  obtain ⟨hkept, hheld⟩ := foldl_foldTag_holds (tags := tags) h
  obtain ⟨-, hheld0⟩ := foldl_foldTag_holds (tags := tags) (ranks := zeroRanks) rfl
  constructor
  · intro heq b hb
    rcases foldl_foldTag_getD_cases tags zeroRanks b with hz | ⟨t, ht, htb, hrank⟩
    · have hle := hkept b hb
      rw [← heq, hz, zeroRanks_getD] at hle
      exact .inl (Nat.le_zero.1 hle)
    · exact .inr ⟨t, ht, htb, (hkept b hb).trans (heq ▸ hrank.ge)⟩
  · intro hcover
    refine ext_ranks hzero hown fun b hb => le_antisymm ?_ ?_
    · refine (foldl_foldTag_getD_le_iff (by exact hb)).2 ⟨by rw [zeroRanks_getD]; omega, ?_⟩
      rintro t ht rfl
      exact hheld t ht
    · refine (foldl_foldTag_getD_le_iff (h ▸ hb)).2 ⟨?_, fun t ht htb => htb ▸ hheld0 t ht⟩
      rcases hcover b hb with hz | ⟨t, ht, rfl, hrank⟩
      · rw [hz]
        omega
      · exact hrank.trans (hheld0 t ht)

/-! ### The merge (R151 to R157) -/

/-- A tally that holds each tag of a LIST, and has its length as floor where it is a SKETCH, holds the LIST. -/
theorem tallyHolds_list {tally : Tally} {tags : List Tag} (h : ∀ t ∈ tags, tallyHoldsTag tally t)
    (hfloor : ∀ ranks floor, tally = .sketch ranks floor → tags.length ≤ floor) :
    tallyHolds tally (.list tags) := by
  cases tally with
  | list merged => exact h
  | sketch ranks floor => exact ⟨hfloor ranks floor rfl, fun t ht => (h t ht).2⟩

/-- Two LISTs merged hold both. -/
theorem tallyHolds_mergeLists {tags tags' : List Tag} (hlength : tags.length ≤ 24) (hlength' : tags'.length ≤ 24) :
    tallyHolds (mergeTally (.list tags) (.list tags')) (.list tags)
      ∧ tallyHolds (mergeTally (.list tags) (.list tags')) (.list tags') := by
  obtain ⟨hreceived, hown⟩ := tallyHoldsTag_foldl (tally := .list tags) tags' nofun
  have hfloor : floorAfterAdding (mergeTally (.list tags) (.list tags')) :=
    floorAfterAdding_foldl tags' trivial
  refine ⟨tallyHolds_list hown fun ranks floor h => ?_, tallyHolds_list hreceived fun ranks floor h => ?_⟩ <;>
  · rw [h] at hfloor
    obtain rfl : floor = 25 := hfloor
    omega

theorem tallyHolds_mergeTally {own received : Tally} (h : tallyOk own = true) (h' : tallyOk received = true) :
    tallyHolds (mergeTally own received) own ∧ tallyHolds (mergeTally own received) received := by
  cases own with
  | list tags =>
    obtain ⟨hlength, -, -⟩ := tallyOk_list_iff.1 h
    cases received with
    | list tags' => exact tallyHolds_mergeLists hlength (tallyOk_list_iff.1 h').1
    | sketch ranks' floor' =>
      obtain ⟨-, hranks', -⟩ := tallyOk_sketch_iff.1 h'
      have hfold : (tags.foldl foldTag zeroRanks).length = 32 := foldl_foldTag_length tags zeroRanks
      obtain ⟨-, hheld⟩ := foldl_foldTag_holds (tags := tags) (ranks := zeroRanks) rfl
      have hmax := zipWith_max_getD (hfold.trans hranks'.symm)
      refine ⟨⟨le_max_left _ _, fun t ht => ?_⟩, le_max_right _ _, fun b _ => ?_⟩ <;> rw [hmax]
      · exact (hheld t ht).trans (le_max_left _ _)
      · exact le_max_right _ _
  | sketch ranks floor =>
    obtain ⟨-, hranks, -⟩ := tallyOk_sketch_iff.1 h
    cases received with
    | list tags' =>
      obtain ⟨hkept, hheld⟩ := foldl_foldTag_holds (tags := tags') hranks
      exact ⟨⟨le_max_left _ _, hkept⟩, le_max_right _ _, hheld⟩
    | sketch ranks' floor' =>
      obtain ⟨-, hranks', -⟩ := tallyOk_sketch_iff.1 h'
      have hmax := zipWith_max_getD (hranks.trans hranks'.symm)
      refine ⟨⟨le_max_left _ _, fun b _ => ?_⟩, le_max_right _ _, fun b _ => ?_⟩ <;> rw [hmax]
      · exact le_max_left _ _
      · exact le_max_right _ _

/-- What a tally holds already changes nothing when it is merged. -/
theorem mergeTally_of_holds {tally received : Tally} (h : tallyOk tally = true) (h' : tallyOk received = true)
    (hholds : tallyHolds tally received) : mergeTally tally received = tally := by
  cases tally with
  | list tags =>
    cases received with
    | list tags' => exact foldl_addTag_of_mem hholds
    | sketch ranks' floor' => exact hholds.elim
  | sketch ranks floor =>
    obtain ⟨-, hranks, -⟩ := tallyOk_sketch_iff.1 h
    cases received with
    | list tags' =>
      obtain ⟨hfloor, hheld⟩ := hholds
      rw [mergeTally, foldl_foldTag_of_holds hranks hheld, max_eq_left hfloor]
    | sketch ranks' floor' =>
      obtain ⟨hfloor, hheld⟩ := hholds
      obtain ⟨-, hranks', -⟩ := tallyOk_sketch_iff.1 h'
      have hmax : List.zipWith max ranks ranks' = ranks := by
        refine ext_ranks (by simp [hranks, hranks']) hranks fun b hb => ?_
        rw [zipWith_max_getD (hranks.trans hranks'.symm)]
        exact max_eq_left (hheld b hb)
      rw [mergeTally, mergeSketch, hmax, max_eq_left hfloor]

/-- Two ascending LISTs of the same tags are one. -/
theorem eq_of_ascending {tags tags' : List Tag} (h : ascending tags = true) (h' : ascending tags' = true)
    (hmem : ∀ t, t ∈ tags ↔ t ∈ tags') : tags = tags' := by
  have : Std.Irrefl (α := Tag) (· < ·) := ⟨BitVec.lt_irrefl⟩
  exact (ascending_iff_pairwise.1 h).eq_of_mem_iff (ascending_iff_pairwise.1 h') hmem

/-- The covered test of two LISTs after their merge (R155). -/
theorem covered_mergeLists {tags tags' : List Tag} (h : tallyOk (.list tags) = true)
    (h' : tallyOk (.list tags') = true) :
    match mergeTally (.list tags) (.list tags') with
    | .list merged =>
      (∀ t, t ∈ merged ↔ t ∈ tags ∨ t ∈ tags')
        ∧ (coveredBy (.list merged) (.list tags') = true ↔ ∀ t ∈ tags, t ∈ tags')
    | .sketch ranks floor => floor = 25 ∧ coveredBy (.sketch ranks floor) (.list tags') = false := by
  obtain ⟨-, -, hascending'⟩ := tallyOk_list_iff.1 h'
  obtain ⟨hlength', -, -⟩ := tallyOk_list_iff.1 h'
  have hok := tallyOk_mergeTally h h'
  obtain ⟨hreceived, hown⟩ := tallyHoldsTag_foldl (tally := .list tags) tags' nofun
  have hfloor : floorAfterAdding (mergeTally (.list tags) (.list tags')) :=
    floorAfterAdding_foldl tags' trivial
  cases hmerge : mergeTally (.list tags) (.list tags') with
  | list merged =>
    have hfold : tags'.foldl addTag (.list tags) = .list merged := hmerge
    rw [hmerge] at hok
    rw [hfold] at hreceived hown
    have hmem (t : Tag) : t ∈ merged ↔ t ∈ tags ∨ t ∈ tags' :=
      ⟨mem_of_foldl_addTag hfold, fun ht => ht.elim (hown t) (hreceived t)⟩
    refine ⟨hmem, ?_⟩
    obtain ⟨-, -, hascending⟩ := tallyOk_list_iff.1 hok
    have hcovered : coveredBy (.list merged) (.list tags') = true ↔ merged = tags' := by
      simp [coveredBy]
    rw [hcovered]
    refine ⟨fun heq t ht => heq ▸ hown t ht, fun hsub => eq_of_ascending hascending hascending' fun t => ?_⟩
    rw [hmem]
    exact ⟨fun ht => ht.elim (hsub t) id, .inr⟩
  | sketch ranks floor =>
    rw [hmerge] at hfloor
    obtain rfl : floor = 25 := hfloor
    refine ⟨rfl, ?_⟩
    have hne : tags'.length ≠ 25 := by omega
    simp [coveredBy, sketchForm, hne]

/-- Settles O13: merging tag by tag or bucket by bucket, with the maxima of ranks and floors. -/
theorem mergeHoldsBothAndCoveredTest : Obligations.MergeHoldsBothAndCoveredTest := by
  refine ⟨fun own received h h' => ?_, fun tags tags' h h' => covered_mergeLists h h',
    fun ranks ranks' floor floor' tags hranks hranks' => ⟨?_, ?_, ?_, ?_⟩⟩
  · have hok := tallyOk_mergeTally h h'
    obtain ⟨hown, hreceived⟩ := tallyHolds_mergeTally h h'
    exact ⟨hok, hown, hreceived, mergeTally_of_holds hok h' hreceived⟩
  · simp [coveredBy]
  · simp only [mergeTally, mergeSketch, coveredBy, beq_iff_eq, Tally.sketch.injEq, max_eq_right_iff]
    rw [zipWith_max_eq_right_iff hranks hranks']
    exact and_comm
  · have hfold : (tags.foldl foldTag zeroRanks).length = 32 := foldl_foldTag_length tags zeroRanks
    simp only [mergeTally, mergeSketch, coveredBy, beq_iff_eq, Tally.sketch.injEq, max_eq_right_iff]
    rw [zipWith_max_eq_right_iff hfold hranks', foldl_zeroRanks_le_iff]
    exact and_comm
  · simp only [mergeTally, coveredBy, sketchForm, beq_iff_eq, Tally.sketch.injEq, right_eq_sup]
    rw [foldl_zeroRanks_eq_iff hranks]
    exact and_comm

end Sys2Proof.Machine
end

section
/-! How the entries of the table change in place, and the blocks that slots and chains hold: kept by each primitive
change beside the forms of `Sound`. -/

namespace Sys2Proof.Machine

/-! ### Entries that change in place -/

/-- The states an entry that was PRESENTING can be in while its update stays (R39). -/
def EntryState.lasting : EntryState → Bool
  | .presenting | .acknowledged | .cancelled | .expired _ => true
  | .collecting _ | .held => false

/-- `e'` is the entry `e` at a later time: its identity stays, its update does not fall, and once it was shown it
waits for no showing again without a higher update. -/
structure Entry.Evolves (e e' : Entry) : Prop where
  id : e'.id = e.id
  update : e.update ≤ e'.update
  lasting : e.state.lasting = true → e'.state.lasting = true ∨ e.update < e'.update

theorem Entry.Evolves.refl (e : Entry) : e.Evolves e := ⟨rfl, Nat.le_refl _, .inl⟩

theorem Entry.Evolves.trans {e f g : Entry} (h : e.Evolves f) (k : f.Evolves g) : e.Evolves g where
  id := k.id.trans h.id
  update := h.update.trans k.update
  lasting hl := by
    rcases h.lasting hl with hf | hlt
    · exact (k.lasting hf).imp_right (Nat.lt_of_le_of_lt h.update)
    · exact .inr (Nat.lt_of_lt_of_le hlt k.update)

/-- An entry that keeps identity, update and state evolves. -/
theorem Entry.Evolves.of_eq {e e' : Entry} (hid : e'.id = e.id) (hupdate : e'.update = e.update)
    (hstate : e'.state = e.state) : e.Evolves e' :=
  ⟨hid, hupdate.ge, fun h => .inl (hstate ▸ h)⟩

/-- No slot's generation changes, no entry comes or goes, and each entry evolves. -/
def State.EntriesEvolve (s t : State) : Prop :=
  ∀ k, t.genAt k = s.genAt k ∧ Option.Rel Entry.Evolves (s.entryAt k) (t.entryAt k)

theorem optionRel_refl (o : Option Entry) : Option.Rel Entry.Evolves o o := by
  cases o with
  | none => exact .none
  | some e => exact .some (.refl e)

theorem optionRel_map {f : Entry → Entry} {o : Option Entry} (h : ∀ e, o = some e → e.Evolves (f e)) :
    Option.Rel Entry.Evolves o (o.map f) := by
  cases o with
  | none => exact .none
  | some e => exact .some (h e rfl)

namespace State.EntriesEvolve

theorem of_table {s t : State} (h : t.atc.table = s.atc.table) : s.EntriesEvolve t := by
  intro k
  have hentry : t.entryAt k = s.entryAt k := by rw [State.entryAt_def, h, State.entryAt_def]
  exact ⟨by unfold State.genAt; rw [h], hentry ▸ optionRel_refl _⟩

theorem trans {s t u : State} (h : s.EntriesEvolve t) (k : t.EntriesEvolve u) : s.EntriesEvolve u := by
  intro i
  obtain ⟨hgen, hentry⟩ := h i
  obtain ⟨kgen, kentry⟩ := k i
  refine ⟨kgen.trans hgen, ?_⟩
  generalize hx : s.entryAt i = x at *
  generalize hy : t.entryAt i = y at *
  generalize hz : u.entryAt i = z at *
  cases hentry with
  | none => exact kentry
  | some he =>
    cases kentry with
    | some ke => exact .some (he.trans ke)

/-- An entry that was there is there later, evolved. -/
theorem some {s t : State} (h : s.EntriesEvolve t) {i : Nat} {e : Entry} (he : s.entryAt i = some e) :
    ∃ e', t.entryAt i = Option.some e' ∧ e.Evolves e' := by
  have hrel := (h i).2
  rw [he] at hrel
  generalize t.entryAt i = y at *
  cases hrel with
  | some h => exact ⟨_, rfl, h⟩

end State.EntriesEvolve

theorem State.entriesEvolve_modifyEntry (s : State) (i : Nat) {f : Entry → Entry}
    (h : ∀ e, s.entryAt i = some e → e.Evolves (f e)) : s.EntriesEvolve (s.modifyEntry i f) := by
  intro k
  rw [State.genAt_modifyEntry, State.entryAt_modifyEntry]
  refine ⟨rfl, ?_⟩
  split
  · next hik =>
    subst hik
    exact optionRel_map h
  · exact optionRel_refl _

theorem SidelinkOnly.entriesEvolve {s t : State} (h : SidelinkOnly s t) : s.EntriesEvolve t := by
  intro k
  refine ⟨h.genAt k, ?_⟩
  have hmap := h.entryAt k
  generalize s.entryAt k = x at *
  generalize t.entryAt k = y at *
  cases x with
  | none =>
    rw [Option.map_none, Option.map_eq_none_iff] at hmap
    subst hmap
    exact .none
  | some e =>
    rw [Option.map_some, Option.map_eq_some_iff] at hmap
    obtain ⟨e', rfl, hunsent⟩ := hmap
    have hid : e'.unsent.id = e.unsent.id := congrArg Entry.id hunsent
    have hupdate : e'.unsent.update = e.unsent.update := congrArg Entry.update hunsent
    have hstate : e'.unsent.state = e.unsent.state := congrArg Entry.state hunsent
    exact .some (.of_eq hid hupdate hstate)

/-! ### The pool's blocks -/

theorem sum_map_set {α : Type} (f : α → Nat) {l : List α} {i : Nat} {x : α} (hx : l[i]? = some x) (y : α) :
    ((l.set i y).map f).sum + f x = (l.map f).sum + f y := by
  induction l generalizing i with
  | nil => cases hx
  | cons a l ih =>
    cases i with
    | zero =>
      cases hx
      simp only [List.set_cons_zero, List.map_cons, List.sum_cons]
      omega
    | succ i =>
      have := ih (i := i) hx
      simp only [List.set_cons_succ, List.map_cons, List.sum_cons]
      omega

/-- An element changed raises the sum by no more than it raises its own part. -/
theorem sum_map_modify_le {α : Type} (f : α → Nat) {l : List α} {i : Nat} {g : α → α} {d : Nat}
    (h : ∀ x, l[i]? = some x → f (g x) ≤ f x + d) : ((l.modify i g).map f).sum ≤ (l.map f).sum + d := by
  cases hx : l[i]? with
  | none =>
    rw [List.modify_eq_self (by simpa using hx)]
    omega
  | some x =>
    have hset : l.modify i g = l.set i (g x) := by
      rw [List.modify_eq_set_getElem?, hx]
      rfl
    have := sum_map_set f hx (g x)
    have := h x hx
    rw [hset]
    omega

theorem sum_map_le_of_le {α : Type} {f g : α → Nat} {l : List α} (h : ∀ x ∈ l, f x ≤ g x) :
    (l.map f).sum ≤ (l.map g).sum := List.sum_le_sum h

/-- The blocks in the chains of an entry. -/
def Entry.blocks (e : Entry) : Nat := (e.texts.map textBlocks).sum

theorem entryBlocks_eq (sl : TableSlot) : entryBlocks sl = (sl.entry.map Entry.blocks).getD 0 := by
  unfold entryBlocks
  cases sl.entry <;> rfl

theorem State.poolOk_iff {s : State} :
    s.poolOk ↔ (s.sa.slots.map slotBlocks).sum + (s.atc.table.map entryBlocks).sum ≤ 128 := Iff.rfl

/-- An entry changed raises what the chains hold by no more than its own chains grow. -/
theorem State.tableBlocks_modifyEntry_le (s : State) (i : Nat) {f : Entry → Entry} {d : Nat}
    (h : ∀ e, s.entryAt i = some e → (f e).blocks ≤ e.blocks + d) :
    ((s.modifyEntry i f).atc.table.map entryBlocks).sum ≤ (s.atc.table.map entryBlocks).sum + d := by
  rw [State.modifyEntry_atc_table]
  refine sum_map_modify_le entryBlocks fun sl hsl => ?_
  rw [entryBlocks_eq, entryBlocks_eq]
  cases hentry : sl.entry with
  | none => exact Nat.zero_le _
  | some e => exact h e (by rw [State.entryAt_def, hsl]; exact hentry)

theorem SidelinkOnly.usedBlocks {s t : State} (h : SidelinkOnly s t) : t.usedBlocks = s.usedBlocks := by
  have hblocks (sl : TableSlot) : entryBlocks sl.unsent = entryBlocks sl := by
    rw [entryBlocks_eq, entryBlocks_eq]
    cases hentry : sl.entry <;> simp [TableSlot.unsent, hentry, Entry.blocks, Entry.unsent]
  have htable := congrArg (List.map entryBlocks) h.unsent
  simp only [List.map_map, Function.comp_def, hblocks] at htable
  unfold State.usedBlocks
  rw [h.sa]
  exact congrArg _ (congrArg _ htable)

/-! ### What every operation inside the part keeps -/

/-- `t` has every form that `s` has, the pool is not overdrawn, and every entry evolves in its slot. -/
structure Kept (quiet : Prop) (s t : State) : Prop extends Sound quiet s t where
  pool : s.poolOk → t.poolOk
  entries : s.EntriesEvolve t

namespace Kept

variable {quiet : Prop}

theorem refl (s : State) : Kept quiet s s := ⟨.refl s, id, .of_table rfl⟩

theorem trans {s t u : State} (h : Kept quiet s t) (k : Kept quiet t u) : Kept quiet s u :=
  ⟨h.toSound.trans k.toSound, k.pool ∘ h.pool, h.entries.trans k.entries⟩

theorem ite {s t u : State} {p : Prop} [Decidable p] (h : p → Kept quiet s t) (k : ¬ p → Kept quiet s u) :
    Kept quiet s (if p then t else u) := by
  split
  · next hp => exact h hp
  · next hp => exact k hp

theorem foldl {α : Type} {f : State → α → State} (h : ∀ s a, Kept quiet s (f s a)) (l : List α) (s : State) :
    Kept quiet s (l.foldl f s) := by
  induction l generalizing s with
  | nil => exact refl s
  | cons a l ih => exact (h s a).trans (ih _)

/-- A change that leaves table and slots alone. -/
theorem of_sound {s t : State} (h : Sound quiet s t) (htable : t.atc.table = s.atc.table) (hsa : t.sa = s.sa) :
    Kept quiet s t :=
  ⟨h, by unfold State.poolOk State.usedBlocks; rw [htable, hsa]; exact id, .of_table htable⟩

theorem of_sidelinkOnly {s t : State} (h : Sound quiet s t) (k : SidelinkOnly s t) : Kept quiet s t :=
  ⟨h, by unfold State.poolOk; rw [k.usedBlocks]; exact id, k.entriesEvolve⟩

end Kept

theorem State.modifyEntry_congr {s : State} {i : Nat} {f g : Entry → Entry}
    (h : ∀ e, s.entryAt i = some e → f e = g e) : s.modifyEntry i f = s.modifyEntry i g := by
  have htable : s.atc.table.modify i (fun sl => { sl with entry := sl.entry.map f }) =
      s.atc.table.modify i fun sl => { sl with entry := sl.entry.map g } := by
    refine List.ext_getElem? fun k => ?_
    rw [List.getElem?_modify, List.getElem?_modify]
    refine Option.map_congr fun sl hsl => ?_
    split
    · next hik =>
      subst hik
      have hmap : sl.entry.map f = sl.entry.map g :=
        Option.map_congr fun e he => h e (by rw [State.entryAt_def, hsl]; exact he)
      rw [hmap]
    · rfl
  exact congrArg s.withTable htable

section
variable {quiet : Prop} (s : State)

/-- An entry changed in place: its identity and the form of its tally stay, its chains grow no longer, and it
evolves. -/
theorem kept_modifyEntry (i : Nat) {f : Entry → Entry}
    (htally : s.tagOk → ∀ e, s.entryAt i = some e → tallyOk e.tally = true → tallyOk (f e).tally = true)
    (hblocks : ∀ e, s.entryAt i = some e → (f e).blocks ≤ e.blocks)
    (hevolves : ∀ e, s.entryAt i = some e → e.Evolves (f e)) : Kept quiet s (s.modifyEntry i f) where
  toSound := by
    have hcongr : s.modifyEntry i f = s.modifyEntry i fun e => { f e with id := e.id } :=
      State.modifyEntry_congr fun e he => by rw [← (hevolves e he).id]
    rw [hcongr]
    exact sound_modifyEntry s i (fun _ => rfl) htally
  pool hs := by
    have htable := s.tableBlocks_modifyEntry_le i (f := f) (d := 0) hblocks
    have hslots : (s.modifyEntry i f).sa = s.sa := rfl
    rw [State.poolOk_iff] at hs ⊢
    rw [hslots]
    omega
  entries := s.entriesEvolve_modifyEntry i hevolves

/-- An entry changed in place in nothing that an entry's form, texts, update or state says. -/
theorem kept_modifyEntry_same (i : Nat) {f : Entry → Entry} (hid : ∀ e, (f e).id = e.id)
    (hupdate : ∀ e, (f e).update = e.update) (hstate : ∀ e, (f e).state = e.state)
    (htexts : ∀ e, (f e).texts = e.texts) (htally : ∀ e, (f e).tally = e.tally) :
    Kept quiet s (s.modifyEntry i f) :=
  kept_modifyEntry s i (fun _ e _ h => (htally e).symm ▸ h)
    (fun e _ => by unfold Entry.blocks; rw [htexts]) fun e _ => .of_eq (hid e) (hupdate e) (hstate e)

theorem kept_withSlots {l : List (Option Slot)}
    (h : (l.map slotBlocks).sum ≤ (s.sa.slots.map slotBlocks).sum) : Kept quiet s (s.withSlots l) where
  toSound := sound_withSlots s l
  pool hs := by
    have htable : (s.withSlots l).atc = s.atc := rfl
    have hslots : (s.withSlots l).sa.slots = l := rfl
    rw [State.poolOk_iff] at hs ⊢
    rw [htable, hslots]
    omega
  entries := .of_table rfl

theorem kept_queueNotice (n : Notice) : Kept quiet s (s.queueNotice n) :=
  .of_sidelinkOnly (sound_queueNotice s n) (sidelinkOnly_queueNotice s n)

theorem kept_setMalformed : Kept quiet s s.setMalformed := .of_sound (sound_setMalformed s) rfl rfl
theorem kept_setTableFull : Kept quiet s s.setTableFull := .of_sound (sound_setTableFull s) rfl rfl
theorem kept_setPoolExhausted : Kept quiet s s.setPoolExhausted := .of_sound (sound_setPoolExhausted s) rfl rfl
theorem kept_setRxOverrun : Kept quiet s s.setRxOverrun := .of_sound (sound_setRxOverrun s) rfl rfl
theorem kept_setDamaged : Kept quiet s s.setDamaged := .of_sound (sound_setDamaged s) rfl rfl
theorem kept_advance (t : Micros) : Kept quiet s (s.advance t) := .of_sound (sound_advance s t) rfl rfl

theorem kept_withResponse (r : Option Response) : Kept quiet s (s.withResponse r) :=
  .of_sound (sound_withResponse s r) rfl rfl

theorem kept_answer (a : LinkAnswer) : Kept quiet s (s.answer a) := .of_sound (sound_answer s a) rfl rfl

theorem kept_withTu {x : Tu} (h : s.reportsOk → (s.withTu x).reportsOk) : Kept quiet s (s.withTu x) :=
  .of_sound (sound_withTu s h) rfl rfl

theorem kept_withFp {x : Fp} (h : s.fp.pageFifo.length ≤ 8 → x.pageFifo.length ≤ 8) : Kept quiet s (s.withFp x) :=
  .of_sound (sound_withFp s h) rfl rfl

theorem kept_withPwc {x : Pwc} (hpower : x.power = s.pwc.power)
    (hwarm : x.warmUp.isSome = true → s.pwc.warmUp.isSome = true ∨ s.pwc.power = .doze) :
    Kept quiet s (s.withPwc x) := .of_sound (sound_withPwc s hpower hwarm) rfl rfl

theorem kept_withSlc {x : Slc} (hc : x.carrier = s.slc.carrier) (h : s.slc.Keeps x) :
    Kept quiet s (s.withSlc x) := .of_sound (sound_withSlc s hc h) rfl rfl

/-- The transceiver's carrier input is no part of any form. -/
theorem kept_withCarrier (c : Option Micros) : Kept quiet s (s.withCarrier c) :=
  .of_sound { Sound.refl s with } rfl rfl

/-- The Sidelink Controller changed as `Slc.Keeps` says, whatever the carrier input becomes. -/
theorem kept_withSlc_carrier {x : Slc} (h : s.slc.Keeps x) : Kept quiet s (s.withSlc x) :=
  (kept_withCarrier s x.carrier).trans (kept_withSlc (s.withCarrier x.carrier) rfl { h with })

theorem kept_startTallyWait (i : Nat) : Kept quiet s (s.startTallyWait i) :=
  .of_sidelinkOnly (sound_startTallyWait s i) (sidelinkOnly_startTallyWait s i)

theorem kept_modifyTallySend (i : Nat) (f : TallySend → TallySend) : Kept quiet s (s.modifyTallySend i f) :=
  kept_modifyEntry_same s i (fun _ => rfl) (fun _ => rfl) (fun _ => rfl) (fun _ => rfl) fun _ => rfl

theorem kept_modifyRelay (i : Nat) (f : RelayRecord → RelayRecord) : Kept quiet s (s.modifyRelay i f) :=
  kept_modifyEntry_same s i (fun _ => rfl) (fun _ => rfl) (fun _ => rfl) (fun _ => rfl) fun _ => rfl

theorem kept_endJob (id : Identity) (kind : JobKind) : Kept quiet s (s.endJob id kind) :=
  .of_sidelinkOnly (sound_endJob s id kind) (sidelinkOnly_endJob s id kind)

theorem kept_cutJob (id : Identity) (kind : JobKind) : Kept quiet s (s.cutJob id kind) :=
  .of_sidelinkOnly (sound_cutJob s id kind) (sidelinkOnly_cutJob s id kind)

end

end Sys2Proof.Machine
end

section
/-! Every operation of the Tally Unit, the Alert Table controller and the Segment Assembler keeps the forms
(`Kept`). -/

namespace Sys2Proof.Machine

section
variable {quiet : Prop} (s : State)

/-! ### Power Control -/

theorem kept_wakeCause : Kept quiet s s.wakeCause := by
  rcases s.wakeCause_cases with ⟨hpower, -, h⟩ | ⟨-, h⟩ <;> rw [h]
  · exact kept_withPwc s rfl fun _ => .inr hpower
  · exact .refl s

theorem kept_withHold (h : AwakeHold) : Kept quiet s (s.withHold h) := kept_withPwc s rfl .inl

theorem kept_restartHold : Kept quiet s s.restartHold := .ite (fun _ => kept_withHold s _) fun _ => .refl s

theorem kept_activity : Kept quiet s s.activity := by
  unfold State.activity
  split
  · exact kept_restartHold s
  · exact kept_wakeCause s

theorem kept_slcActivity : Kept quiet s s.slcActivity := by
  unfold State.slcActivity
  split
  · exact kept_restartHold s
  · exact .refl s

/-! ### The Relay Scheduler -/

theorem kept_countDuplicate (i hop : Nat) : Kept quiet s (s.countDuplicate i hop) := by
  unfold State.countDuplicate
  split
  · exact .refl s
  · dsimp only
    have hcount := kept_modifyRelay (quiet := quiet) s i
    exact .ite (fun _ => ((hcount _).trans (kept_modifyRelay _ i _)).trans (kept_cutJob _ _ _)) fun _ => hcount _

theorem kept_dirtyReport (i : Nat) : Kept quiet s (s.dirtyReport i) := by
  unfold State.dirtyReport
  split
  · exact .refl s
  · split
    · exact kept_startTallyWait s i
    · exact .refl s
    · exact .refl s
    · exact kept_modifyTallySend s i _
    · exact kept_modifyTallySend s i _

theorem kept_coveredReport (i : Nat) : Kept quiet s (s.coveredReport i) := by
  unfold State.coveredReport
  split
  · exact .refl s
  · split
    · exact kept_modifyTallySend s i _
    · exact (kept_modifyTallySend s i _).trans (kept_cutJob _ _ _)
    · exact (kept_modifyTallySend s i _).trans (kept_cutJob _ _ _)
    · exact kept_modifyTallySend s i _
    · exact kept_modifyTallySend s i _

theorem kept_restartTallyWait (i : Nat) : Kept quiet s (s.restartTallyWait i) := by
  unfold State.restartTallyWait
  split
  · exact .refl s
  · exact .ite (fun _ => kept_startTallyWait s i) fun _ => .refl s

theorem kept_stopSends (i : Nat) (id : Identity) : Kept quiet s (s.stopSends i id) := by
  refine Kept.trans (Kept.trans ?_ (kept_endJob _ _ _)) (kept_endJob _ _ _)
  exact kept_modifyEntry_same s i (fun _ => rfl) (fun _ => rfl) (fun _ => rfl) (fun _ => rfl) fun _ => rfl

theorem kept_startRelay (i : Nat) : Kept quiet s (s.startRelay i) :=
  kept_modifyEntry_same s i (fun _ => rfl) (fun _ => rfl) (fun _ => rfl) (fun _ => rfl) fun _ => rfl

/-! ### Tallies and reports -/

theorem kept_testReportDue (i : Nat) : Kept quiet s (s.testReportDue i) := by
  unfold State.testReportDue
  split
  · exact .refl s
  · next e he =>
    refine .ite (fun ⟨_, hnew, _⟩ => kept_withTu s fun ⟨hnodup, hmem⟩ => ⟨?_, fun k hk => ?_⟩) fun _ => .refl s
    · exact List.nodup_append.2 ⟨hnodup, List.nodup_singleton i, by
        rintro a ha b hb rfl
        exact hnew (List.mem_singleton.1 hb ▸ ha)⟩
    · rcases List.mem_append.1 hk with hk | hk
      · exact hmem k hk
      · rw [List.mem_singleton.1 hk]
        exact Option.isSome_of_eq_some he

theorem State.handleOk_entry {h : Handle} (hok : s.handleOk h = true) : (s.entryAt h.slot).isSome = true :=
  (Bool.and_eq_true_iff.1 hok).1

theorem State.creditedSlot_entry {o : Outstanding} {i : Nat} (h : s.creditedSlot o = some i) :
    (s.entryAt i).isSome = true := by
  unfold State.creditedSlot at h
  split at h
  · next hok =>
    cases h
    exact s.handleOk_entry hok
  · cases h

theorem kept_reportDone (o : Outstanding) : Kept quiet s (s.reportDone o) := by
  have hnone : Kept quiet s (s.withTu { s.tu with outstanding := none }) := kept_withTu s id
  unfold State.reportDone
  dsimp only
  split
  · refine (hnone.trans ?_).trans (kept_testReportDue _ _)
    exact kept_modifyEntry_same _ _ (fun _ => rfl) (fun _ => rfl) (fun _ => rfl) (fun _ => rfl) fun _ => rfl
  · exact hnone

theorem kept_reportRefused (o : Outstanding) : Kept quiet s (s.reportRefused o) := by
  have hblocked : Kept quiet s (s.withFp { s.fp with blocked := true }) := kept_withFp s id
  unfold State.reportRefused
  dsimp only
  split
  · next i hi =>
    refine hblocked.trans (kept_withTu _ fun ⟨hnodup, hmem⟩ => ⟨?_, fun k hk => ?_⟩)
    · exact List.nodup_cons.2 ⟨by simp, hnodup.filter _⟩
    · rcases List.mem_cons.1 hk with rfl | hk
      · exact State.creditedSlot_entry (s.withFp { s.fp with blocked := true }) hi
      · exact hmem k (List.mem_filter.1 hk).1
  · exact hblocked.trans (kept_withTu _ id)

/-- A tally changed in place to one of the allowed form. -/
theorem kept_withTally {i : Nat} {e : Entry} {tally : Tally} (he : s.entryAt i = some e)
    (h : s.tagOk → tallyOk e.tally = true → tallyOk tally = true) :
    Kept quiet s (s.modifyEntry i fun e => { e with tally := tally }) := by
  refine kept_modifyEntry s i (fun htag f hf hok => h htag ?_) (fun _ _ => Nat.le_refl _)
    fun _ _ => .of_eq rfl rfl rfl
  rw [he] at hf
  cases hf
  exact hok

theorem State.settings_tag_ne_zero (h : s.tagOk) : s.settings.tag ≠ 0 := by
  unfold State.settings
  cases hc : s.al.config with
  | none => decide
  | some cfg => exact h cfg hc

theorem kept_addOwnTag (i : Nat) : Kept quiet s (s.addOwnTag i) := by
  unfold State.addOwnTag
  split
  · exact .refl s
  · next e he =>
    dsimp only
    refine .ite (fun _ => .refl s) fun _ => ?_
    refine Kept.trans (Kept.trans ?_ (kept_dirtyReport _ i)) (kept_testReportDue _ i)
    exact kept_withTally s he fun htag => tallyOk_addTag (s.settings_tag_ne_zero htag)

theorem kept_mergeInto (i : Nat) {received : Tally} (h : tallyOk received = true) :
    Kept quiet s (s.mergeInto i received) := by
  unfold State.mergeInto
  split
  · exact .refl s
  · next e he =>
    dsimp only
    have hmerge : Kept quiet s (s.modifyEntry i fun x => { x with tally := mergeTally e.tally received }) :=
      kept_withTally s he fun _ hown => tallyOk_mergeTally hown h
    refine (hmerge.trans ?_).trans (kept_testReportDue _ i)
    exact .ite (fun _ => kept_coveredReport _ i) fun _ => kept_dirtyReport _ i

theorem readTally_tallyOk {bytes : List Byte} {t : TallySegment} (h : readTally bytes = some t) :
    tallyOk t.tally = true := by
  unfold readTally at h
  split at h
  · dsimp only at h
    split at h
    · split at h
      · next hok =>
        cases h
        exact (Bool.and_eq_true_iff.1 hok).2
      · cases h
    · cases h
  · cases h

theorem kept_takeTally {t : TallySegment} (h : tallyOk t.tally = true) : Kept quiet s (s.takeTally t) := by
  unfold State.takeTally
  split
  · exact .refl s
  · exact kept_mergeInto s _ h

/-! ### Presentation -/

theorem kept_computeArea (i : Nat) : Kept quiet s (s.computeArea i) :=
  kept_modifyEntry_same s i (fun _ => rfl) (fun _ => rfl) (fun _ => rfl) (fun _ => rfl) fun _ => rfl

/-- An entry that enters a state. -/
theorem kept_enterState (i : Nat) {f : Entry → Entry} (hid : ∀ e, (f e).id = e.id)
    (hupdate : ∀ e, (f e).update = e.update) (htexts : ∀ e, (f e).texts = e.texts)
    (htally : ∀ e, (f e).tally = e.tally)
    (hstate : ∀ e, s.entryAt i = some e → e.state.lasting = true → (f e).state.lasting = true) :
    Kept quiet s (s.modifyEntry i f) :=
  kept_modifyEntry s i (fun _ e _ h => (htally e).symm ▸ h)
    (fun e _ => by unfold Entry.blocks; rw [htexts])
    fun e he => ⟨hid e, (hupdate e).ge, fun hl => .inl (hstate e he hl)⟩

theorem kept_enterPresenting (i : Nat) : Kept quiet s (s.enterPresenting i) := by
  refine Kept.trans ?_ (kept_queueNotice _ _)
  exact kept_enterState s i (fun _ => rfl) (fun _ => rfl) (fun _ => rfl) (fun _ => rfl) fun _ _ _ => rfl

theorem kept_enterAcknowledged (i : Nat) : Kept quiet s (s.enterAcknowledged i) := by
  refine Kept.trans ?_ (kept_addOwnTag _ i)
  exact kept_enterState s i (fun _ => rfl) (fun _ => rfl) (fun _ => rfl) (fun _ => rfl) fun _ _ _ => rfl

/-- An entry leaves COLLECTING from a state that does not last. -/
theorem kept_leaveCollecting (i : Nat) (h : ∀ e, s.entryAt i = some e → e.state.lasting = false) :
    Kept quiet s (s.leaveCollecting i) := by
  have harea : Kept quiet s (s.computeArea i) := kept_computeArea s i
  unfold State.leaveCollecting
  dsimp only
  split
  · exact harea
  · next e he =>
    refine (harea.trans ?_).trans (kept_startRelay _ i)
    split
    · exact kept_enterPresenting _ i
    · refine kept_enterState _ i (fun _ => rfl) (fun _ => rfl) (fun _ => rfl) (fun _ => rfl) fun f hf hl => ?_
      unfold State.computeArea at hf
      rw [State.entryAt_modifyEntry, if_pos rfl, Option.map_eq_some_iff] at hf
      obtain ⟨g, hg, rfl⟩ := hf
      rw [h g hg] at hl
      cases hl
    · exact kept_enterAcknowledged _ i

theorem kept_reevaluateSlot (i : Nat) : Kept quiet s (s.reevaluateSlot i) := by
  unfold State.reevaluateSlot
  split
  · exact .refl s
  · exact .ite (fun _ => kept_enterPresenting s i) fun _ => .refl s

theorem kept_reevaluate : Kept quiet s s.reevaluate := Kept.foldl kept_reevaluateSlot _ s

theorem kept_mapEntries_same {f : Entry → Entry} (hid : ∀ e, (f e).id = e.id)
    (hupdate : ∀ e, (f e).update = e.update) (hstate : ∀ e, (f e).state = e.state)
    (htexts : ∀ e, (f e).texts = e.texts) (htally : ∀ e, (f e).tally = e.tally) :
    Kept quiet s (s.mapEntries f) where
  toSound := sound_mapEntries s hid htally
  pool hs := by
    have hblocks (sl : TableSlot) : entryBlocks { sl with entry := sl.entry.map f } = entryBlocks sl := by
      rw [entryBlocks_eq, entryBlocks_eq]
      cases sl.entry <;> simp [Entry.blocks, htexts]
    rw [State.poolOk_iff] at hs ⊢
    rw [State.mapEntries_sa, State.mapEntries_atc_table, List.map_map]
    simpa only [Function.comp_def, hblocks] using hs
  entries k := by
    rw [State.genAt_mapEntries, State.entryAt_mapEntries]
    exact ⟨rfl, optionRel_map fun e _ => .of_eq (hid e) (hupdate e) (hstate e)⟩

theorem kept_changePosition (p : Option Position) : Kept quiet s (s.changePosition p) := by
  have hwritten : Kept quiet s { s with atc := { s.atc with position := p } } :=
    .of_sound (sound_of_eq rfl rfl rfl rfl rfl rfl rfl rfl rfl rfl rfl rfl) rfl rfl
  refine (hwritten.trans ?_).trans (kept_reevaluate _)
  exact kept_mapEntries_same _ (fun _ => rfl) (fun _ => rfl) (fun _ => rfl) (fun _ => rfl) fun _ => rfl

theorem kept_dropStale : Kept quiet s s.dropStale := .ite (fun _ => kept_changePosition s _) fun _ => .refl s

theorem kept_advancePast (t : Micros) : Kept quiet s (s.advancePast t) :=
  .ite (fun _ => (kept_advance s t).trans (kept_changePosition _ _)) fun _ => kept_advance s t

theorem kept_applyServingZone (zone : ZoneCode) : Kept quiet s (s.applyServingZone zone) := by
  have hdrop : Kept quiet s s.dropStaleApplication := by
    unfold State.dropStaleApplication
    split
    · exact kept_dropStale s
    · exact .refl s
  unfold State.applyServingZone
  dsimp only
  split
  · exact .ite (fun _ => hdrop.trans (kept_changePosition _ _)) fun _ => hdrop
  · exact hdrop.trans (kept_changePosition _ _)

/-! ### Assembly -/

theorem slotBlocks_filter_le (p : Slot → Bool) (o : Option Slot) : slotBlocks (o.filter p) ≤ slotBlocks o := by
  cases o with
  | none => exact Nat.le_refl _
  | some sl =>
    rw [Option.filter_some]
    split
    · exact Nat.le_refl _
    · exact Nat.zero_le _

theorem kept_discardSlots (p : Slot → Bool) : Kept quiet s (s.discardSlots p) := by
  refine kept_withSlots s ?_
  rw [List.map_map]
  exact sum_map_le_of_le fun o _ => slotBlocks_filter_le _ o

/-- A slot closed, or changed without a block more. -/
theorem kept_setSlot {n : Nat} {x y : Option Slot} (hx : s.sa.slots[n]? = some x) (h : slotBlocks y ≤ slotBlocks x) :
    Kept quiet s (s.withSlots (s.sa.slots.set n y)) := by
  refine kept_withSlots s ?_
  have := sum_map_set slotBlocks hx y
  omega

theorem State.slotAt_some {n : Nat} {sl : Slot} : s.slotAt n = some sl ↔ s.sa.slots[n]? = some (some sl) :=
  Option.join_eq_some_iff

theorem kept_closeSlot {n : Nat} {sl : Slot} (h : s.slotAt n = some sl) :
    Kept quiet s (s.withSlots (s.sa.slots.set n none)) :=
  kept_setSlot s (s.slotAt_some.1 h) (Nat.zero_le _)

theorem Entry.blocks_withText_le (e : Entry) (text : Nat) {st : TextState} {d : Nat}
    (h : ∀ x : TextRecord, textBlocks { x with state := st } ≤ d) : (e.withText text st).blocks ≤ e.blocks + d :=
  sum_map_modify_le textBlocks fun x _ => Nat.le_trans (h x) (Nat.le_add_left d _)

/-- A text record that comes to hold no chain. -/
theorem kept_withText (i : Nat) {f : Entry → Entry} (h : ∀ e, f e = e ∨ ∃ text st,
    f e = e.withText text st ∧ ∀ chain, st ≠ .complete chain) : Kept quiet s (s.modifyEntry i f) := by
  refine kept_modifyEntry s i (fun _ e _ hok => ?_) (fun e _ => ?_) fun e _ => ?_ <;>
    rcases h e with heq | ⟨text, st, heq, hst⟩ <;> rw [heq]
  · exact hok
  · exact hok
  · refine e.blocks_withText_le text (d := 0) fun x => ?_
    unfold textBlocks
    cases st with
    | complete chain => exact absurd rfl (hst chain)
    | absent => exact Nat.le_refl _
    | collecting => exact Nat.le_refl _
    | released => exact Nat.le_refl _
  · exact .refl e
  · exact .of_eq rfl rfl rfl

theorem kept_textLost (key : SlotKey) : Kept quiet s (s.textLost key) := by
  unfold State.textLost
  split
  · exact .refl s
  · refine kept_withText s _ fun e => ?_
    split
    · exact .inr ⟨_, _, rfl, nofun⟩
    · exact .inl rfl

theorem kept_textStarted (key : SlotKey) : Kept quiet s (s.textStarted key) := by
  unfold State.textStarted
  split
  · exact .refl s
  · exact kept_withText s _ fun e => .inr ⟨_, _, rfl, nofun⟩

theorem kept_discardSlot (n : Nat) : Kept quiet s (s.discardSlot n) := by
  unfold State.discardSlot
  split
  · exact .refl s
  · next sl hsl =>
    dsimp only
    have hclose : Kept quiet s (s.withSlots (s.sa.slots.set n none)) := kept_closeSlot s hsl
    exact .ite (fun _ => hclose.trans (kept_textLost _ _)) fun _ => hclose

theorem Entry.lasting_of_collecting {e : Entry} (h : e.collecting = true) : e.state.lasting = false := by
  unfold Entry.collecting at h
  split at h
  · next heq =>
    rw [heq]
    rfl
  · cases h

theorem kept_leaveIfComplete (i : Nat) : Kept quiet s (s.leaveIfComplete i) := by
  unfold State.leaveIfComplete
  split
  · exact .refl s
  · next e he =>
    refine .ite (fun ⟨hc, _⟩ => kept_leaveCollecting s i fun f hf => ?_) fun _ => .refl s
    rw [he] at hf
    cases hf
    exact Entry.lasting_of_collecting hc

/-- The blocks of a slot that closes go over to the chain of its text. -/
theorem kept_completeSlot {n : Nat} {sl : Slot} (i : Nat) (h : s.slotAt n = some sl) :
    Kept quiet s (s.completeSlot n sl i) where
  toSound := (sound_withSlots s _).trans (sound_modifyEntry _ i (fun _ => rfl) fun _ _ _ hok => hok)
  pool hs := by
    have hslots := sum_map_set slotBlocks (s.slotAt_some.1 h) none
    have hchain : slotBlocks (some sl) = (sl.received.filterMap id).length := by
      rw [List.length_filterMap_eq_countP]
      rfl
    have htable := (s.withSlots (s.sa.slots.set n none)).tableBlocks_modifyEntry_le i
      (f := fun e => e.withText sl.key.text (.complete (sl.received.filterMap id)))
      (d := slotBlocks (some sl))
      fun e _ => e.blocks_withText_le sl.key.text fun _ => hchain.ge
    have hnone : slotBlocks none = 0 := rfl
    rw [State.poolOk_iff] at hs ⊢
    unfold State.completeSlot
    rw [State.modifyEntry_sa, State.withSlots_sa_slots]
    rw [State.withSlots_atc] at htable
    omega
  entries := (State.EntriesEvolve.of_table rfl).trans
    (State.entriesEvolve_modifyEntry _ i fun _ _ => .of_eq rfl rfl rfl)

theorem kept_afterStore (n : Nat) : Kept quiet s (s.afterStore n) := by
  unfold State.afterStore
  split
  · exact .refl s
  · next sl hsl =>
    refine .ite (fun _ => ?_) fun _ => .refl s
    split
    · exact .refl s
    · exact (kept_completeSlot s _ hsl).trans (kept_leaveIfComplete _ _)

theorem kept_reclaimText {t : State} (h : s.reclaimText = some t) : Kept quiet s t := by
  unfold State.reclaimText at h
  split at h
  · cases h
  · obtain ⟨x, -, rfl⟩ := Option.map_eq_some_iff.1 h
    exact kept_withText s _ fun e => .inr ⟨_, _, rfl, nofun⟩

theorem kept_takeLowestSlot {precedence : Nat} {t : State} (h : s.takeLowestSlot precedence = some t) :
    Kept quiet s t := by
  unfold State.takeLowestSlot at h
  split at h
  · split at h
    · cases h
      exact kept_discardSlot s _
    · cases h
  · cases h

theorem kept_obtainBlock {precedence : Nat} {t : State} (h : s.obtainBlock precedence = some t) :
    Kept quiet s t := by
  unfold State.obtainBlock at h
  split at h
  · cases h
    exact .refl s
  · have hreclaim := (Option.filter_eq_some_iff.1 h).1
    unfold State.reclaim at hreclaim
    split at hreclaim
    · next hr =>
      cases hreclaim
      exact kept_reclaimText s hr
    · exact kept_takeLowestSlot s hreclaim

/-- Slots that hold one block more, where one is free. -/
theorem kept_store {l : List (Option Slot)} (hfree : 0 < s.freeBlocks)
    (h : (l.map slotBlocks).sum ≤ (s.sa.slots.map slotBlocks).sum + 1) : Kept quiet s (s.withSlots l) where
  toSound := sound_withSlots s l
  pool _ := by
    have hused : s.freeBlocks = 128 - ((s.sa.slots.map slotBlocks).sum + (s.atc.table.map entryBlocks).sum) := rfl
    rw [State.poolOk_iff, State.withSlots_sa_slots, State.withSlots_atc]
    omega
  entries := .of_table rfl

theorem countP_isSome_set_le (l : List (Option Block)) (j : Nat) (b : Block) :
    (l.set j (some b)).countP Option.isSome ≤ l.countP Option.isSome + 1 := by
  by_cases hj : j < l.length
  · rw [List.countP_set hj]
    split <;> simp
  · rw [List.set_eq_of_length_le (by omega)]
    exact Nat.le_succ _

theorem kept_storeIn (n : Nat) (seg : TextSegment) (hfree : 0 < s.freeBlocks) : Kept quiet s (s.storeIn n seg) := by
  refine kept_store s hfree (sum_map_modify_le slotBlocks fun o _ => ?_)
  cases o with
  | none => exact Nat.zero_le _
  | some sl => exact countP_isSome_set_le _ _ _

theorem kept_joinSlot (n : Nat) (seg : TextSegment) : Kept quiet s (s.joinSlot n seg) := by
  unfold State.joinSlot
  split
  · exact .refl s
  · refine .ite (fun _ => kept_setMalformed s) fun _ => .ite (fun _ => .refl s) fun _ => ?_
    split
    · exact kept_setPoolExhausted s
    · next t ht =>
      have hfree := (internal_obtainBlock s ht).2
      exact ((kept_obtainBlock s ht).trans (kept_storeIn t n seg hfree)).trans (kept_afterStore _ n)

theorem State.freeSlot_some {n : Nat} (h : s.freeSlot = some n) : s.sa.slots[n]? = some none := by
  obtain ⟨hn, hnone, -⟩ := List.findIdx?_eq_some_iff_getElem.1 h
  rw [List.getElem?_eq_getElem hn, Option.isNone_iff_eq_none.1 hnone]

theorem kept_reserveSlot {precedence : Nat} {t : State} (h : s.reserveSlot precedence = some t) :
    Kept quiet s t := by
  unfold State.reserveSlot at h
  split at h
  · cases h
    exact .refl s
  · exact kept_takeLowestSlot s h

/-- What obtaining a block does to a free slot number: nothing. -/
theorem State.discardSlot_free {n k : Nat} (h : s.sa.slots[n]? = some none) :
    (s.discardSlot k).sa.slots[n]? = some none := by
  unfold State.discardSlot
  split
  · exact h
  · dsimp only
    have hset : (s.sa.slots.set k none)[n]? = some none := by
      rw [List.getElem?_set]
      split
      · next hkn =>
        subst hkn
        rw [if_pos (List.getElem?_eq_some_iff.1 h).1]
      · exact h
    split
    · unfold State.textLost
      split <;> exact hset
    · exact hset

theorem State.obtainBlock_free {precedence n : Nat} {t : State} (h : s.obtainBlock precedence = some t)
    (hn : s.sa.slots[n]? = some none) : t.sa.slots[n]? = some none := by
  unfold State.obtainBlock at h
  split at h
  · cases h
    exact hn
  · have hreclaim := (Option.filter_eq_some_iff.1 h).1
    unfold State.reclaim at hreclaim
    split at hreclaim
    · next hr =>
      cases hreclaim
      unfold State.reclaimText at hr
      split at hr
      · cases hr
      · obtain ⟨x, -, rfl⟩ := Option.map_eq_some_iff.1 hr
        exact hn
    · unfold State.takeLowestSlot at hreclaim
      split at hreclaim
      · split at hreclaim
        · cases hreclaim
          exact s.discardSlot_free hn
        · cases hreclaim
      · cases hreclaim

theorem newSlotFor_blocks_le (seg : TextSegment) (bound : Bool) (precedence : Nat) (now : Micros) :
    slotBlocks (some (newSlotFor seg bound precedence now)) ≤ 1 := by
  have hempty : (List.replicate seg.count (none : Option Block)).countP Option.isSome = 0 := by
    simp [List.countP_replicate]
  have := countP_isSome_set_le (List.replicate seg.count none) seg.index ⟨seg.payload⟩
  rw [hempty] at this
  exact this

theorem kept_openSlot (seg : TextSegment) (bound : Bool) (precedence : Nat) :
    Kept quiet s (s.openSlot seg bound precedence) := by
  unfold State.openSlot
  split
  · exact .refl s
  · next s1 hs1 =>
    have hreserve : Kept quiet s s1 := kept_reserveSlot s hs1
    split
    · exact .refl s
    · next n hn =>
      split
      · exact hreserve.trans (kept_setPoolExhausted s1)
      · next s2 hs2 =>
        have hslot := s1.obtainBlock_free hs2 (s1.freeSlot_some hn)
        have hopen (sl : Slot) (h : slotBlocks (some sl) ≤ 1) :
            Kept quiet s (s2.withSlots (s2.sa.slots.set n (some sl))) := by
          refine (hreserve.trans (kept_obtainBlock s1 hs2)).trans
            (kept_store s2 (internal_obtainBlock s1 hs2).2 ?_)
          have := sum_map_set slotBlocks hslot (some sl)
          have hnone : slotBlocks none = 0 := rfl
          omega
        dsimp only
        refine Kept.trans ?_ (kept_afterStore _ n)
        exact .ite (fun _ => (hopen _ (newSlotFor_blocks_le _ _ _ _)).trans (kept_textStarted _ _))
          fun _ => hopen _ (newSlotFor_blocks_le _ _ _ _)

theorem kept_toUnbound (seg : TextSegment) : Kept quiet s (s.toUnbound seg) := by
  unfold State.toUnbound
  split
  · exact kept_joinSlot s _ seg
  · exact kept_openSlot s seg _ _

theorem kept_toCollecting (e : Entry) (seg : TextSegment) : Kept quiet s (s.toCollecting e seg) := by
  unfold State.toCollecting
  split
  · exact kept_setMalformed s
  · split
    · exact .refl s
    · exact .refl s
    · split
      · exact kept_joinSlot s _ seg
      · exact .refl s
    · exact .ite (fun _ => kept_openSlot s seg _ _) fun _ => kept_setMalformed s

theorem kept_takeText (seg : TextSegment) : Kept quiet s (s.takeText seg) := by
  unfold State.takeText
  split
  · exact kept_toUnbound s seg
  · exact .ite (fun _ => .refl s) fun _ => .ite (fun _ => kept_toUnbound s seg) fun _ =>
      .ite (fun _ => kept_toCollecting s _ seg) fun _ => .refl s

theorem kept_bindSlot (i n : Nat) : Kept quiet s (State.bindSlot i s n) := by
  unfold State.bindSlot
  split
  · next sl e hsl he =>
    refine .ite (fun _ => .ite (fun _ => ?_) fun _ => ?_) fun _ => .refl s
    · refine Kept.trans (kept_setSlot s (s.slotAt_some.1 hsl) ?_)
        (kept_withText _ i fun e => .inr ⟨_, _, rfl, nofun⟩)
      exact Nat.le_refl _
    · exact (kept_closeSlot s hsl).trans (kept_setMalformed _)
  · exact .refl s

theorem kept_completeBound (i text : Nat) : Kept quiet s (State.completeBound i s text) := by
  unfold State.completeBound
  split
  · exact .refl s
  · split
    · exact .refl s
    · split
      · exact .refl s
      · next sl hsl => exact .ite (fun _ => kept_completeSlot s i hsl) fun _ => .refl s

theorem kept_bindSlots (i : Nat) : Kept quiet s (s.bindSlots i) := by
  have hbound : Kept quiet s ((List.range s.sa.slots.length).foldl (State.bindSlot i) s) :=
    Kept.foldl (fun s n => kept_bindSlot s i n) _ s
  exact (hbound.trans (Kept.foldl (fun s n => kept_completeBound s i n) _ _)).trans (kept_leaveIfComplete _ i)

end

end Sys2Proof.Machine
end

section
/-! Re-evaluation and position changes (R72, R78) as one equation: every entry re-evaluated, the PRESENT notices
queued in slot order. -/

namespace Sys2Proof.Machine

/-! ### One slot -/

/-- The rows of R75 written out are those of `decision`. -/
theorem State.qualifies_iff {s : State} {e : Entry} :
    s.qualifies e = true ↔ e.state = .held ∧ s.outcomeFor e = .present := by
  unfold State.qualifies State.outcomeFor decision
  rw [Bool.and_eq_true, beq_iff_eq]
  refine and_congr_right fun _ => ?_
  cases (s.category e.category).presentation <;> cases e.area <;> cases s.atc.optIn.getLsbD e.category <;> simp

/-- The PRESENT notice that the re-evaluation of a slot queues, if it queues one. -/
def State.presentNotice (s : State) (i : Nat) : Option Notice :=
  (s.entryAt i).bind fun e => if s.qualifies e then some (.present (s.handleAt i)) else none

theorem State.qualifies_congr {s t : State} (hmap : t.atc.map = s.atc.map) (hopt : t.atc.optIn = s.atc.optIn) :
    t.qualifies = s.qualifies := by
  funext e
  unfold State.qualifies State.category
  rw [hmap, hopt]

theorem State.reevaluated_congr {s t : State} (hmap : t.atc.map = s.atc.map) (hopt : t.atc.optIn = s.atc.optIn) :
    t.reevaluated = s.reevaluated := by
  funext e
  unfold State.reevaluated
  rw [State.qualifies_congr hmap hopt]

/-- An entry changed to what it is. -/
theorem State.modifyEntry_self {s : State} {i : Nat} {f : Entry → Entry}
    (h : ∀ e, s.entryAt i = some e → f e = e) : s.modifyEntry i f = s := by
  have hid : s.modifyEntry i f = s.modifyEntry i id := State.modifyEntry_congr h
  rw [hid, State.modifyEntry_eq, State.modifyEntry_atc_table]
  have hslot : (fun sl : TableSlot => { sl with entry := sl.entry.map id }) = id := by
    funext sl
    rw [Option.map_id]
    rfl
  rw [hslot, List.modify_id]
  rfl

theorem State.reevaluateSlot_eq (s : State) (i : Nat) :
    s.reevaluateSlot i =
      { s.modifyEntry i s.reevaluated with al := (s.presentNotice i).elim s.al s.al.queued } := by
  unfold State.reevaluateSlot State.presentNotice
  cases he : s.entryAt i with
  | none =>
    rw [State.modifyEntry_self fun e h => by rw [he] at h; cases h]
    rfl
  | some e =>
    dsimp only [Option.bind_some]
    by_cases hq : s.qualifies e = true
    · have hsame : s.modifyEntry i s.reevaluated =
          s.modifyEntry i fun e => { e with state := .presenting, presented := true } :=
        State.modifyEntry_congr fun f hf => by
          rw [he] at hf
          cases hf
          exact if_pos hq
      rw [if_pos (State.qualifies_iff.1 hq), if_pos hq, hsame]
      exact State.queueNotice_eq _ _
    · have hsame : s.modifyEntry i s.reevaluated = s :=
        State.modifyEntry_self fun f hf => by
          rw [he] at hf
          cases hf
          exact if_neg hq
      rw [if_neg (mt State.qualifies_iff.2 hq), if_neg hq, hsame]
      rfl

/-! ### Every slot -/

/-- The table with the entries of the listed slots re-evaluated. -/
def State.reevaluatedTable (s : State) (l : List Nat) : List TableSlot :=
  s.atc.table.mapIdx fun k sl => if k ∈ l then { sl with entry := sl.entry.map s.reevaluated } else sl

theorem State.presentNotice_of_ne {s : State} {i k : Nat} (h : i ≠ k) (al : Al) :
    State.presentNotice { s.modifyEntry i s.reevaluated with al := al } k = s.presentNotice k := by
  unfold State.presentNotice
  have hentry : State.entryAt { s.modifyEntry i s.reevaluated with al := al } k = s.entryAt k := by
    show (s.modifyEntry i s.reevaluated).entryAt k = s.entryAt k
    rw [State.entryAt_modifyEntry, if_neg h]
  have hhandle : State.handleAt { s.modifyEntry i s.reevaluated with al := al } k = s.handleAt k :=
    s.handleAt_modifyEntry i k _
  rw [hentry, hhandle]
  rfl

theorem State.foldl_reevaluateSlot {l : List Nat} (hl : l.Nodup) (s : State) :
    l.foldl State.reevaluateSlot s =
      { s with
        atc := { s.atc with table := s.reevaluatedTable l }
        al := (l.filterMap s.presentNotice).foldl Al.queued s.al } := by
  induction l generalizing s with
  | nil =>
    have htable : s.reevaluatedTable [] = s.atc.table := by
      unfold State.reevaluatedTable
      exact List.ext_getElem? fun k => by simp
    rw [htable]
    rfl
  | cons i l ih =>
    obtain ⟨hi, hl⟩ := List.nodup_cons.1 hl
    rw [List.foldl_cons, ih hl, State.reevaluateSlot_eq]
    generalize hal : (s.presentNotice i).elim s.al s.al.queued = al
    have hnotices : l.filterMap (State.presentNotice { s.modifyEntry i s.reevaluated with al := al }) =
        l.filterMap s.presentNotice :=
      List.filterMap_congr fun k hk => State.presentNotice_of_ne (by rintro rfl; exact hi hk) al
    have htable : State.reevaluatedTable { s.modifyEntry i s.reevaluated with al := al } l =
        s.reevaluatedTable (i :: l) := by
      have hsame : State.reevaluated { s.modifyEntry i s.reevaluated with al := al } = s.reevaluated :=
        State.reevaluated_congr rfl rfl
      refine List.ext_getElem? fun k => ?_
      unfold State.reevaluatedTable
      rw [hsame]
      simp only [List.getElem?_mapIdx, State.modifyEntry_atc_table, List.getElem?_modify, Option.map_eq_map,
        Option.map_map]
      refine Option.map_congr fun sl _ => ?_
      by_cases hik : i = k
      · subst hik
        simp [hi]
      · simp [hik, Ne.symm hik]
    rw [hnotices, htable]
    simp only [List.filterMap_cons, ← hal]
    cases s.presentNotice i <;> rfl

/-- Re-evaluation of the whole table. -/
theorem State.reevaluate_eq (s : State) :
    s.reevaluate =
      { s.mapEntries s.reevaluated with
        al := ((List.range s.atc.table.length).filterMap s.presentNotice).foldl Al.queued s.al } := by
  unfold State.reevaluate
  rw [State.foldl_reevaluateSlot List.nodup_range]
  have htable : s.reevaluatedTable (List.range s.atc.table.length) = (s.mapEntries s.reevaluated).atc.table := by
    refine List.ext_getElem? fun k => ?_
    unfold State.reevaluatedTable
    simp only [List.getElem?_mapIdx, State.mapEntries_atc_table, List.getElem?_map]
    refine Option.map_congr fun sl hsl => ?_
    rw [if_pos (List.mem_range.2 (List.getElem?_eq_some_iff.1 hsl).1)]
  rw [htable]
  rfl

/-! ### Position changes -/

/-- An entry after a position change to `p` by which the part `s` re-evaluates it. -/
def State.moved (s : State) (p : Option Position) (e : Entry) : Entry :=
  s.reevaluated { e with area := areaTest (p.map Position.zone) e.zones }

/-- The PRESENT notices that a position change to `p` queues. -/
def State.movedNotices (s : State) (p : Option Position) : List Notice :=
  (List.range s.atc.table.length).filterMap fun i =>
    (s.entryAt i).bind fun e =>
      if s.qualifies { e with area := areaTest (p.map Position.zone) e.zones } then
        some (.present (s.handleAt i))
      else none

theorem State.changePosition_eq (s : State) (p : Option Position) :
    s.changePosition p =
      { s with
        atc := { s.atc with position := p, table := (s.mapEntries (s.moved p)).atc.table }
        al := (s.movedNotices p).foldl Al.queued s.al } := by
  unfold State.changePosition
  dsimp only
  rw [State.reevaluate_eq]
  generalize hu : State.mapEntries { s with atc := { s.atc with position := p } }
    (fun e => { e with area := areaTest (State.positionZone { s with atc := { s.atc with position := p } }) e.zones })
    = u
  have hsame : u.reevaluated = s.reevaluated := by
    subst hu
    exact State.reevaluated_congr rfl rfl
  have htable : (u.mapEntries u.reevaluated).atc.table = (s.mapEntries (s.moved p)).atc.table := by
    rw [hsame]
    subst hu
    simp only [State.mapEntries_atc_table, List.map_map, Function.comp_def, Option.map_map]
    rfl
  have hnotices : (List.range u.atc.table.length).filterMap u.presentNotice = s.movedNotices p := by
    subst hu
    unfold State.movedNotices State.presentNotice
    rw [State.mapEntries_atc_table, List.length_map]
    refine List.filterMap_congr fun i _ => ?_
    have hentry : State.entryAt { s with atc := { s.atc with position := p } } i = s.entryAt i := rfl
    rw [State.entryAt_mapEntries, hentry, Option.bind_map]
    refine Option.bind_congr fun e _ => ?_
    unfold State.handleAt
    rw [State.genAt_mapEntries]
    rfl
  have hmap : u.mapEntries u.reevaluated = u.withTable (u.mapEntries u.reevaluated).atc.table := rfl
  rw [hmap, htable, hnotices]
  subst hu
  rfl

variable (s : State) (p : Option Position)

@[simp] theorem State.changePosition_now : (s.changePosition p).now = s.now := by rw [State.changePosition_eq]
@[simp] theorem State.changePosition_choice : (s.changePosition p).choice = s.choice := by
  rw [State.changePosition_eq]
@[simp] theorem State.changePosition_pending : (s.changePosition p).pending = s.pending := by
  rw [State.changePosition_eq]
@[simp] theorem State.changePosition_out : (s.changePosition p).out = s.out := by rw [State.changePosition_eq]
@[simp] theorem State.changePosition_sa : (s.changePosition p).sa = s.sa := by rw [State.changePosition_eq]
@[simp] theorem State.changePosition_slc : (s.changePosition p).slc = s.slc := by rw [State.changePosition_eq]
@[simp] theorem State.changePosition_pwc : (s.changePosition p).pwc = s.pwc := by rw [State.changePosition_eq]
@[simp] theorem State.changePosition_fp : (s.changePosition p).fp = s.fp := by rw [State.changePosition_eq]
@[simp] theorem State.changePosition_tu : (s.changePosition p).tu = s.tu := by rw [State.changePosition_eq]
@[simp] theorem State.changePosition_position : (s.changePosition p).atc.position = p := by
  rw [State.changePosition_eq]
@[simp] theorem State.changePosition_map : (s.changePosition p).atc.map = s.atc.map := by
  rw [State.changePosition_eq]
@[simp] theorem State.changePosition_optIn : (s.changePosition p).atc.optIn = s.atc.optIn := by
  rw [State.changePosition_eq]

@[simp] theorem State.changePosition_entryAt (i : Nat) :
    (s.changePosition p).entryAt i = (s.entryAt i).map (s.moved p) := by
  rw [State.changePosition_eq]
  exact s.entryAt_mapEntries i (s.moved p)

@[simp] theorem State.changePosition_genAt (i : Nat) : (s.changePosition p).genAt i = s.genAt i := by
  rw [State.changePosition_eq]
  exact s.genAt_mapEntries i (s.moved p)

/-- Queuing notices touches nothing of the Application Link but the notices and NOTICE-OVERFLOW. -/
theorem Al.foldl_queued (al : Al) (l : List Notice) :
    l.foldl Al.queued al = { al with
      notices := (l.foldl Al.queued al).notices, flags := (l.foldl Al.queued al).flags } := by
  induction l generalizing al with
  | nil => rfl
  | cons n l ih => exact ih (al.queued n)

@[simp] theorem State.changePosition_config : (s.changePosition p).al.config = s.al.config := by
  rw [State.changePosition_eq, Al.foldl_queued]
@[simp] theorem State.changePosition_response : (s.changePosition p).al.response = s.al.response := by
  rw [State.changePosition_eq, Al.foldl_queued]
@[simp] theorem State.changePosition_participation :
    (s.changePosition p).al.participation = s.al.participation := by
  rw [State.changePosition_eq, Al.foldl_queued]
@[simp] theorem State.changePosition_resetLine : (s.changePosition p).al.resetLine = s.al.resetLine := by
  rw [State.changePosition_eq, Al.foldl_queued]

/-- Only a HELD entry changes its state at a position change. -/
theorem State.moved_state {e : Entry} (h : e.state ≠ .held) : (s.moved p e).state = e.state := by
  unfold State.moved State.reevaluated
  split
  · next hq => exact absurd (State.qualifies_iff.1 hq).1 h
  · rfl

/-- A position that is dropped on the way leaves the state of every entry that is not HELD. -/
theorem State.dropStale_state {i : Nat} {e' : Entry} (he : s.dropStale.entryAt i = some e') :
    ∃ e, s.entryAt i = some e ∧ (e.state ≠ .held → e'.state = e.state) := by
  rcases s.dropStale_cases with ⟨-, h⟩ | ⟨-, h⟩ <;> rw [h] at he
  · exact ⟨e', he, fun _ => rfl⟩
  · rw [State.changePosition_entryAt, Option.map_eq_some_iff] at he
    obtain ⟨e, he, rfl⟩ := he
    exact ⟨e, he, s.moved_state none⟩

theorem State.advancePast_state {t : Micros} {i : Nat} {e' : Entry} (he : (s.advancePast t).entryAt i = some e') :
    ∃ e, s.entryAt i = some e ∧ (e.state ≠ .held → e'.state = e.state) := by
  rcases s.advancePast_cases t with ⟨-, h⟩ | ⟨-, h⟩ <;> rw [h] at he
  · exact ⟨e', he, fun _ => rfl⟩
  · rw [State.changePosition_entryAt, Option.map_eq_some_iff] at he
    obtain ⟨e, he, rfl⟩ := he
    exact ⟨e, he, State.moved_state _ none⟩

end Sys2Proof.Machine
end

section
/-! The Alert Table controller's operations keep the forms: each slot keeps its entry, evolved, or is turned over to
a newcomer (`Stepped`). -/

namespace Sys2Proof.Machine

/-! ### Slots that keep or turn over their entry -/

/-- A slot gave its entry up, which was not PRESENTING: it is empty, or holds the next generation's. -/
def State.TurnedOver (s t : State) (k : Nat) : Prop :=
  (∀ e, s.entryAt k = some e → e.state ≠ .presenting)
    ∧ (t.genAt k = s.genAt k + 1 ∨ t.entryAt k = none)

/-- Each slot keeps its entry, evolved, or is turned over. -/
def State.SlotsEvolve (s t : State) : Prop :=
  ∀ k, t.genAt k = s.genAt k ∧ Option.Rel Entry.Evolves (s.entryAt k) (t.entryAt k) ∨ s.TurnedOver t k

theorem State.SlotsEvolve.trans_entries {s t u : State} (h : s.SlotsEvolve t) (k : t.EntriesEvolve u) :
    s.SlotsEvolve u := by
  intro i
  obtain ⟨kgen, kentry⟩ := k i
  rcases h i with ⟨hgen, hentry⟩ | ⟨hshown, hnext⟩
  · refine .inl ⟨kgen.trans hgen, ?_⟩
    generalize hx : s.entryAt i = x at *
    generalize hy : t.entryAt i = y at *
    cases hentry with
    | none => exact kentry
    | some he =>
      generalize u.entryAt i = z at *
      cases kentry with
      | some ke => exact .some (he.trans ke)
  · refine .inr ⟨hshown, hnext.imp (fun hg => kgen.trans hg) fun hnone => ?_⟩
    rw [hnone] at kentry
    generalize u.entryAt i = z at *
    cases kentry
    rfl

/-- Nothing leaves PRESENTING. -/
def State.StaysShown (s t : State) : Prop :=
  ∀ k e e', s.entryAt k = some e → t.entryAt k = some e' → e.state = .presenting → e'.state = .presenting

theorem State.SlotsEvolve.after_entries {s t u : State} (h : s.EntriesEvolve t) (hshown : s.StaysShown t)
    (k : t.SlotsEvolve u) : s.SlotsEvolve u := by
  intro i
  obtain ⟨hgen, hentry⟩ := h i
  rcases k i with ⟨kgen, kentry⟩ | ⟨kshown, knext⟩
  · refine .inl ⟨kgen.trans hgen, ?_⟩
    generalize hx : s.entryAt i = x at *
    generalize hy : t.entryAt i = y at *
    cases hentry with
    | none => exact kentry
    | some he =>
      generalize u.entryAt i = z at *
      cases kentry with
      | some ke => exact .some (he.trans ke)
  · refine .inr ⟨fun e he hp => ?_, knext.imp_left fun hg => hgen ▸ hg⟩
    obtain ⟨e', he', -⟩ := h.some he
    exact kshown e' he' (hshown i e e' he he' hp)

/-- `t` has every form that `s` has, the pool is not overdrawn, and each slot keeps its entry or is turned over. -/
structure Stepped (quiet : Prop) (s t : State) : Prop extends Sound quiet s t where
  pool : s.poolOk → t.poolOk
  slots : s.SlotsEvolve t

variable {quiet : Prop}

theorem Kept.stepped {s t : State} (h : Kept quiet s t) : Stepped quiet s t :=
  ⟨h.toSound, h.pool, fun k => .inl (h.entries k)⟩

theorem Stepped.refl (s : State) : Stepped quiet s s := (Kept.refl s).stepped

theorem Stepped.trans_kept {s t u : State} (h : Stepped quiet s t) (k : Kept quiet t u) : Stepped quiet s u :=
  ⟨h.toSound.trans k.toSound, k.pool ∘ h.pool, h.slots.trans_entries k.entries⟩

theorem Stepped.after_kept {s t u : State} (h : Kept quiet s t) (hshown : s.StaysShown t) (k : Stepped quiet t u) :
    Stepped quiet s u :=
  ⟨h.toSound.trans k.toSound, k.pool ∘ h.pool, .after_entries h.entries hshown k.slots⟩

theorem Stepped.ite {s t u : State} {p : Prop} [Decidable p] (h : p → Stepped quiet s t)
    (k : ¬ p → Stepped quiet s u) : Stepped quiet s (if p then t else u) := by
  split
  · next hp => exact h hp
  · next hp => exact k hp

section
variable (s : State)

/-! ### Removal -/

theorem State.removeEntry_entryAt (i k : Nat) :
    (s.removeEntry i).entryAt k = if i = k then none else s.entryAt k := by
  unfold State.removeEntry
  rw [State.entryAt_modifySlot]
  split
  · cases (s.removeElement i).atc.table[k]? <;> rfl
  · rfl

theorem State.removeEntry_genAt (i k : Nat) : (s.removeEntry i).genAt k = s.genAt k := by
  unfold State.removeEntry
  rw [State.genAt_modifySlot]
  split <;> rfl

theorem State.removeEntry_pool (i : Nat) (h : s.poolOk) : (s.removeEntry i).poolOk := by
  have htable : ((s.removeEntry i).atc.table.map entryBlocks).sum ≤ (s.atc.table.map entryBlocks).sum :=
    sum_map_modify_le (d := 0) entryBlocks fun sl _ => Nat.zero_le _
  have hslots : (s.removeEntry i).sa = s.sa := rfl
  rw [State.poolOk_iff] at h ⊢
  rw [hslots]
  omega

theorem stepped_removeEntry (i : Nat) (h : ∀ e, s.entryAt i = some e → e.state ≠ .presenting) :
    Stepped quiet s (s.removeEntry i) where
  toSound := sound_removeEntry s i
  pool := s.removeEntry_pool i
  slots k := by
    rw [State.TurnedOver, s.removeEntry_entryAt, s.removeEntry_genAt]
    split
    · next hik => exact .inr ⟨hik ▸ h, .inr rfl⟩
    · exact .inl ⟨rfl, optionRel_refl _⟩

/-! ### A slot for a newcomer -/

theorem State.evict_eq (i : Nat) (e : Entry) :
    s.evict i e = ((((s.endJob e.id .relay).endJob e.id .tally).discardSlots
      fun sl => sl.bound && sl.key.id == e.id).removeEntry i) := rfl

theorem State.emptySlot_spec {i : Nat} (h : s.emptySlot = some i) :
    i < s.atc.table.length ∧ s.entryAt i = none := by
  obtain ⟨hi, hnone, -⟩ := List.findIdx?_eq_some_iff_getElem.1 h
  refine ⟨hi, ?_⟩
  rw [State.entryAt_def, List.getElem?_eq_getElem hi]
  exact Option.isNone_iff_eq_none.1 hnone

theorem State.entryAt_lt {i : Nat} {e : Entry} (h : s.entryAt i = some e) : i < s.atc.table.length := by
  obtain ⟨sl, hsl, -⟩ := Option.bind_eq_some_iff.1 h
  exact (List.getElem?_eq_some_iff.1 hsl).1

theorem State.findVictim_not_presenting {newcomer i : Nat} {e : Entry} (h : s.findVictim newcomer = some i)
    (he : s.entryAt i = some e) : e.state ≠ .presenting := by
  obtain ⟨⟨k, key⟩, hpick, rfl⟩ := Option.map_eq_some_iff.1 h
  obtain ⟨⟨j, f⟩, hmem, hkey⟩ := List.mem_filterMap.1 (pickLeast_mem _ hpick)
  obtain ⟨key', hkey', hpair⟩ := Option.map_eq_some_iff.1 hkey
  cases hpair
  rw [State.mem_entries] at hmem
  rw [he] at hmem
  cases hmem
  intro hp
  unfold victimKey at hkey'
  rw [hp] at hkey'
  cases hkey'

/-- A slot was found for a newcomer: an empty one, whose last entry, if it was evicted, was not PRESENTING; nothing
else of the table changed but for the relay and tally-send records. -/
structure RoomMade (quiet : Prop) (s u : State) (i : Nat) : Prop extends Sound quiet s u where
  pool : s.poolOk → u.poolOk
  lt : i < u.atc.table.length
  empty : u.entryAt i = none
  victim : ∀ e, s.entryAt i = some e → e.state ≠ .presenting
  gen : u.genAt i = s.genAt i
  others : ∀ k, k ≠ i → u.genAt k = s.genAt k ∧ Option.Rel Entry.Evolves (s.entryAt k) (u.entryAt k)

theorem roomMade_makeRoom {newcomer : Nat} {u : State} {i : Nat} (h : s.makeRoom newcomer = some (u, i)) :
    RoomMade quiet s u i := by
  unfold State.makeRoom at h
  split at h
  · next k hempty =>
    cases h
    obtain ⟨hlt, hnone⟩ := s.emptySlot_spec hempty
    exact ⟨.refl s, id, hlt, hnone, (fun e he => by rw [hnone] at he; cases he), rfl,
      fun _ _ => ⟨rfl, optionRel_refl _⟩⟩
  · split at h
    · cases h
    · next k hvictim =>
      obtain ⟨e, he, hpair⟩ := Option.map_eq_some_iff.1 h
      cases hpair
      rw [s.evict_eq]
      have hfirst : Kept quiet s (((s.endJob e.id .relay).endJob e.id .tally).discardSlots
          fun sl => sl.bound && sl.key.id == e.id) :=
        ((kept_endJob s _ _).trans (kept_endJob _ _ _)).trans (kept_discardSlots _ _)
      generalize ((s.endJob e.id .relay).endJob e.id .tally).discardSlots _ = v at *
      obtain ⟨f, hf, -⟩ := hfirst.entries.some he
      refine ⟨hfirst.toSound.trans (sound_removeEntry v i), v.removeEntry_pool i ∘ hfirst.pool, ?_, ?_, ?_, ?_, ?_⟩
      · exact lt_of_lt_of_eq (v.entryAt_lt hf) (by simp [State.removeEntry, State.removeElement])
      · rw [State.removeEntry_entryAt, if_pos rfl]
      · intro g hg
        exact s.findVictim_not_presenting hvictim hg
      · rw [State.removeEntry_genAt]
        exact (hfirst.entries i).1
      · intro k hk
        rw [State.removeEntry_genAt, State.removeEntry_entryAt, if_neg (Ne.symm hk)]
        exact hfirst.entries k

/-! ### Creation -/

/-- The entry that a header creates, before its relay is started (R19). -/
def State.newEntry (s : State) (h : HeaderSegment) (origin : Origin) (rssi : Option Int) (st : EntryState) : Entry :=
  { (blankEntry h origin rssi).fill h origin (s.category h.category).precedence (areaTest s.positionZone h.zones)
      s.now with state := st }

theorem State.createEntry_eq (i : Nat) (h : HeaderSegment) (origin : Origin) (rssi : Option Int) (st : EntryState) :
    s.createEntry i h origin rssi st =
      s.modifySlot i fun sl => ⟨sl.gen + 1, some (s.newEntry h origin rssi st)⟩ := by
  have htable (g : TableSlot → TableSlot) (f : TableSlot → TableSlot) :
      (s.modifySlot i g).modifySlot i f = s.modifySlot i (f ∘ g) := by
    unfold State.modifySlot
    rw [State.withTable_atc_table, List.modify_modify_eq]
    rfl
  exact htable _ _

theorem State.createEntry_entryAt {i : Nat} (hi : i < s.atc.table.length) (h : HeaderSegment) (origin : Origin)
    (rssi : Option Int) (st : EntryState) (k : Nat) :
    (s.createEntry i h origin rssi st).entryAt k =
      if i = k then some (s.newEntry h origin rssi st) else s.entryAt k := by
  rw [State.createEntry_eq, State.entryAt_modifySlot]
  split
  · next hik => rw [← hik, List.getElem?_eq_getElem hi, Option.bind_some]
  · rfl

theorem State.createEntry_genAt {i : Nat} (hi : i < s.atc.table.length) (h : HeaderSegment) (origin : Origin)
    (rssi : Option Int) (st : EntryState) (k : Nat) :
    (s.createEntry i h origin rssi st).genAt k = if i = k then s.genAt k + 1 else s.genAt k := by
  rw [State.createEntry_eq, State.genAt_modifySlot]
  split
  · next hik =>
    unfold State.genAt
    rw [← hik, List.getElem?_eq_getElem hi]
    rfl
  · rfl

theorem sum_map_const_zero {α β : Type} (f : β → Nat) {g : α → β} (h : ∀ a, f (g a) = 0) (l : List α) :
    ((l.map g).map f).sum = 0 := by
  rw [List.map_map]
  simp [Function.comp_def, h]

/-- An entry with every text ABSENT holds no block. -/
theorem State.newEntry_blocks (h : HeaderSegment) (origin : Origin) (rssi : Option Int) (st : EntryState) :
    (s.newEntry h origin rssi st).blocks = 0 := sum_map_const_zero textBlocks (fun _ => rfl) h.texts

/-- An entry created for an identity the table does not hold. -/
theorem sound_createEntry {i : Nat} {h : HeaderSegment} (origin : Origin) (rssi : Option Int) (st : EntryState)
    (hi : i < s.atc.table.length)
    (hnew : ∀ k e, s.entryAt k = some e → e.id ≠ h.id) : Sound quiet s (s.createEntry i h origin rssi st) :=
  have hentry := s.createEntry_entryAt hi h origin rssi st
  have heq := s.createEntry_eq i h origin rssi st
  have hfrom {k : Nat} {e : Entry} (he : (s.createEntry i h origin rssi st).entryAt k = some e) :
      (k = i ∧ e = s.newEntry h origin rssi st) ∨ s.entryAt k = some e := by
    rw [hentry] at he
    split at he
    · next hik =>
      cases he
      exact .inl ⟨hik.symm, rfl⟩
    · exact .inr he
  { pending := by rw [heq]; rfl
    choice := by rw [heq]; rfl
    fixed := fun cfg hcfg => by rw [heq]; exact ⟨hcfg, rfl⟩
    tag := by unfold State.tagOk; rw [heq]; exact id
    notices := by unfold State.noticesOk; rw [heq]; exact id
    fifos := by unfold State.fifosOk; rw [heq]; exact id
    queue := by unfold State.queueOk; rw [heq]; exact id
    table := fun hs => by
      obtain ⟨hlength, hinj⟩ := State.tableOk_iff.1 hs
      refine State.tableOk_iff.2 ⟨by rw [heq]; simpa using hlength, fun k j e f he hf hid => ?_⟩
      rcases hfrom he with ⟨hk, he⟩ | hk <;> rcases hfrom hf with ⟨hj, hf⟩ | hj
      · exact hk.trans hj.symm
      · subst he
        exact absurd hid.symm (hnew j f hj)
      · subst hf
        exact absurd hid (hnew k e hk)
      · exact hinj k j e f hk hj hid
    tallies := fun _ hs => State.talliesOk_iff.2 fun k e he => by
      rcases hfrom he with ⟨-, rfl⟩ | he
      · rfl
      · exact State.talliesOk_iff.1 hs k e he
    reports := State.reportsOk_of_entries (by rw [heq]; rfl) fun k hk => by
      rw [hentry]
      split
      · rfl
      · exact hk
    modes := by unfold State.modesOk; rw [heq]; exact id
    sidelink := by unfold State.sidelinkOk; rw [heq]; exact id
    silent := fun _ => by unfold State.Silent; rw [heq]; exact id }

theorem State.createEntry_pool {i : Nat} (h : HeaderSegment) (origin : Origin) (rssi : Option Int)
    (st : EntryState) (hs : s.poolOk) : (s.createEntry i h origin rssi st).poolOk := by
  rw [State.createEntry_eq]
  have htable : ((s.modifySlot i fun sl => ⟨sl.gen + 1, some (s.newEntry h origin rssi st)⟩).atc.table.map
      entryBlocks).sum ≤ (s.atc.table.map entryBlocks).sum :=
    sum_map_modify_le (d := 0) entryBlocks fun sl _ => by
      rw [entryBlocks_eq]
      exact (s.newEntry_blocks h origin rssi st).le.trans (Nat.zero_le _)
  have hslots : (s.modifySlot i fun sl => ⟨sl.gen + 1, some (s.newEntry h origin rssi st)⟩).sa = s.sa := rfl
  rw [State.poolOk_iff] at hs ⊢
  rw [hslots]
  omega

/-- A newcomer's entry in the slot made for it. -/
theorem stepped_create {u : State} {i : Nat} {h : HeaderSegment} (origin : Origin) (rssi : Option Int)
    (st : EntryState) (hroom : RoomMade quiet s u i) (hnew : s.slotOf h.id = none) :
    Stepped quiet s (u.createEntry i h origin rssi st) where
  toSound := by
    refine hroom.toSound.trans (sound_createEntry u origin rssi st hroom.lt fun k e he hid => ?_)
    by_cases hk : k = i
    · rw [hk, hroom.empty] at he
      cases he
    · obtain ⟨-, hrel⟩ := hroom.others k hk
      rw [he] at hrel
      generalize hx : s.entryAt k = x at hrel
      cases hrel with
      | some hev => exact s.slotOf_none hnew hx (hev.id.symm.trans hid)
  pool := u.createEntry_pool h origin rssi st ∘ hroom.pool
  slots k := by
    rw [State.TurnedOver, State.createEntry_entryAt u hroom.lt, State.createEntry_genAt u hroom.lt]
    by_cases hik : i = k
    · subst hik
      rw [if_pos rfl, hroom.gen]
      exact .inr ⟨hroom.victim, .inl rfl⟩
    · rw [if_neg hik, if_neg hik]
      exact .inl (hroom.others k (Ne.symm hik))

theorem kept_dropNewcomer (id : Identity) : Kept quiet s (s.dropNewcomer id) :=
  ((kept_discardSlots s _).trans (kept_setTableFull _)).trans (kept_queueNotice _ _)

theorem stepped_newAlert {h : HeaderSegment} (origin : Origin) (rssi : Option Int) (hnew : s.slotOf h.id = none) :
    Stepped quiet s (s.newAlert h origin rssi) := by
  unfold State.newAlert
  split
  · exact (kept_dropNewcomer s _).stepped
  · next u i hroom =>
    dsimp only
    exact ((stepped_create s origin rssi _ (roomMade_makeRoom s hroom) hnew).trans_kept
      (kept_discardSlots _ _)).trans_kept (kept_bindSlots _ i)

theorem stepped_newCancel {h : HeaderSegment} (origin : Origin) (rssi : Option Int) (hnew : s.slotOf h.id = none) :
    Stepped quiet s (s.newCancel h origin rssi) := by
  unfold State.newCancel
  split
  · exact (kept_dropNewcomer s _).stepped
  · next u i hroom =>
    dsimp only
    exact (((stepped_create s origin rssi _ (roomMade_makeRoom s hroom) hnew).trans_kept
      (kept_discardSlots _ _)).trans_kept (kept_startRelay _ i)).trans_kept (kept_testReportDue _ i)

/-! ### Supersede and cancel -/

theorem classify_supersede {e : Entry} {h : HeaderSegment} (hc : classify e h = .supersede) :
    e.update < h.update ∧ h.action = .alert := by
  unfold classify at hc
  split at hc
  · next hlt =>
    split at hc
    · next ha => exact ⟨hlt, ha⟩
    · cases hc
  · split at hc
    · cases hc
    · split at hc
      · cases hc
      · split at hc <;> cases hc

theorem classify_cancel {e : Entry} {h : HeaderSegment} (hc : classify e h = .cancel) :
    e.update ≤ h.update ∧ h.action = .cancel := by
  unfold classify at hc
  split at hc
  · next hlt =>
    split at hc
    · cases hc
    · next ha => exact ⟨hlt.le, ha⟩
  · split at hc
    · cases hc
    · next hnot =>
      split at hc
      · cases hc
      · split at hc
        · cases hc
        · next ha => exact ⟨Nat.le_of_not_lt fun hlt => hnot (.inr hlt), ha⟩

/-- The fields of an accepted header fill the entry of its identity. -/
theorem kept_fillEntry {i : Nat} {h : HeaderSegment} (origin : Origin) {st : EntryState}
    (hentry : ∀ e, s.entryAt i = some e →
      e.id = h.id ∧ (e.update < h.update ∨ e.update = h.update ∧ st.lasting = true)) :
    Kept quiet s (s.fillEntry i h origin st) := by
  refine kept_modifyEntry s i (fun _ _ _ hok => hok) (fun e _ => ?_) fun e he => ?_
  · exact (sum_map_const_zero textBlocks (fun _ => rfl) h.texts).le.trans (Nat.zero_le _)
  · obtain ⟨hid, hup⟩ := hentry e he
    exact ⟨hid.symm, hup.elim Nat.le_of_lt fun hu => hu.1.le,
      fun _ => hup.symm.imp And.right fun hlt => hlt⟩

theorem sidelinkOnly_restartTallyWait (i : Nat) : SidelinkOnly s (s.restartTallyWait i) := by
  unfold State.restartTallyWait
  split
  · exact .refl s
  · exact .ite (sidelinkOnly_startTallyWait s i) (.refl s)

theorem SidelinkOnly.entry_fields {s t : State} (h : SidelinkOnly s t) {i : Nat} {e e' : Entry}
    (he : s.entryAt i = some e) (he' : t.entryAt i = some e') :
    e'.id = e.id ∧ e'.update = e.update ∧ e'.state = e.state ∧ e'.texts = e.texts := by
  obtain ⟨f, hf, hunsent⟩ := h.entryAt_some he'
  rw [he] at hf
  cases hf
  have hid : e'.unsent.id = e.unsent.id := congrArg Entry.id hunsent
  have hupdate : e'.unsent.update = e.unsent.update := congrArg Entry.update hunsent
  have hstate : e'.unsent.state = e.unsent.state := congrArg Entry.state hunsent
  have htexts : e'.unsent.texts = e.unsent.texts := congrArg Entry.texts hunsent
  exact ⟨hid, hupdate, hstate, htexts⟩

theorem kept_supersede {i : Nat} {e : Entry} {h : HeaderSegment} (origin : Origin) (rssi : Option Int)
    (he : s.entryAt i = some e) (hid : e.id = h.id) (hup : e.update < h.update) :
    Kept quiet s (s.supersede i e h origin rssi) := by
  unfold State.supersede
  dsimp only
  have hdiscard : Kept quiet s (s.discardSlots fun sl => sl.key.id == e.id && decide (sl.key.update < h.update)) :=
    kept_discardSlots s _
  have hentry : (s.discardSlots fun sl => sl.key.id == e.id && decide (sl.key.update < h.update)).entryAt i =
      some e := he
  generalize s.discardSlots _ = v at *
  have hends : SidelinkOnly v (((v.endJob e.id .relay).resetRelay i h origin rssi).restartTallyWait i) :=
    ((sidelinkOnly_endJob v _ _).trans (sidelinkOnly_modifyRelay _ i _)).trans (sidelinkOnly_restartTallyWait _ i)
  have hkept := hdiscard.trans
    (((kept_endJob v e.id .relay).trans (kept_modifyRelay _ i fun _ => freshRelay h.update origin h.hop rssi)).trans
      (kept_restartTallyWait _ i))
  refine Kept.trans ?_ (kept_bindSlots _ i)
  have hfill (t : Micros) := hkept.trans (kept_fillEntry _ origin (st := .collecting t) fun f hf =>
    have ⟨hfid, hfup, _, _⟩ := hends.entry_fields hentry hf
    ⟨hfid.trans hid, .inl (hfup ▸ hup)⟩)
  exact .ite (fun _ => (hfill _).trans (kept_queueNotice _ _)) fun _ => hfill _

theorem kept_cancelEntry {i : Nat} {e : Entry} {h : HeaderSegment} (origin : Origin) (rssi : Option Int)
    (he : s.entryAt i = some e) (hid : e.id = h.id) (hup : e.update ≤ h.update) :
    Kept quiet s (s.cancelEntry i e h origin rssi) := by
  unfold State.cancelEntry
  dsimp only
  have hdiscard : Kept quiet s (s.discardSlots fun sl => sl.key.id == e.id && decide (sl.key.update ≤ h.update)) :=
    kept_discardSlots s _
  have hentry : (s.discardSlots fun sl => sl.key.id == e.id && decide (sl.key.update ≤ h.update)).entryAt i =
      some e := he
  generalize s.discardSlots _ = v at *
  have hends : SidelinkOnly v ((v.endJob e.id .relay).resetRelay i h origin rssi) :=
    (sidelinkOnly_endJob v _ _).trans (sidelinkOnly_modifyRelay _ i _)
  have hkept := hdiscard.trans
    ((kept_endJob v e.id .relay).trans (kept_modifyRelay _ i fun _ => freshRelay h.update origin h.hop rssi))
  have hfill := hkept.trans (kept_fillEntry _ origin (st := .cancelled) fun f hf =>
    have ⟨hfid, hfup, _, _⟩ := hends.entry_fields hentry hf
    ⟨hfid.trans hid, hfup ▸ (Nat.lt_or_eq_of_le hup).imp_right fun hu => ⟨hu, rfl⟩⟩)
  refine Kept.trans (Kept.trans ?_ (kept_startRelay _ i)) (kept_testReportDue _ i)
  exact .ite (fun _ => hfill.trans (kept_queueNotice _ _)) fun _ => hfill

theorem stepped_takeHeader (h : HeaderSegment) (origin : Origin) (rssi : Option Int) :
    Stepped quiet s (s.takeHeader h origin rssi) := by
  unfold State.takeHeader
  split
  · next hnew =>
    split
    · exact stepped_newAlert s origin rssi hnew
    · exact stepped_newCancel s origin rssi hnew
  · next i hi =>
    split
    · exact .refl s
    · next e he =>
      obtain ⟨f, hf, hid⟩ := s.slotOf_spec hi
      rw [he] at hf
      cases hf
      split
      · exact .refl s
      · split
        · exact .refl s
        · exact (kept_countDuplicate s _ _).stepped
      · next hc => exact (kept_supersede s origin rssi he hid (classify_supersede hc).1).stepped
      · next hc => exact (kept_cancelEntry s origin rssi he hid (classify_cancel hc).1).stepped

/-! ### The collect limit and expiry -/

theorem kept_abandonTexts (i : Nat) (id : Identity) : Kept quiet s (s.abandonTexts i id) := by
  refine (kept_discardSlots s _).trans
    (kept_modifyEntry _ i (fun _ _ _ hok => hok) (fun e _ => ?_) fun _ _ => .of_eq rfl rfl rfl)
  unfold Entry.blocks Entry.dropCollecting
  rw [List.map_map]
  refine sum_map_le_of_le fun x _ => ?_
  simp only [Function.comp_apply]
  split
  · exact Nat.zero_le _
  · exact Nat.le_refl _

theorem kept_reachCollectLimit {i : Nat} {e : Entry} (he : s.entryAt i = some e) (hc : e.state.lasting = false) :
    Kept quiet s (s.reachCollectLimit i e) := by
  refine Kept.trans (Kept.trans (kept_abandonTexts s i e.id) ?_) (kept_leaveCollecting _ i fun f hf => ?_)
  · exact kept_modifyEntry_same _ i (fun _ => rfl) (fun _ => rfl) (fun _ => rfl) (fun _ => rfl) fun _ => rfl
  · unfold State.abandonTexts at hf
    simp only [State.entryAt_modifyEntry, if_true, Option.map_map, Option.map_eq_some_iff] at hf
    obtain ⟨g, hg, rfl⟩ := hf
    have hge : s.entryAt i = some g := hg
    rw [he] at hge
    cases hge
    exact hc

theorem kept_expireEntry (i : Nat) (e : Entry) : Kept quiet s (s.expireEntry i e) := by
  unfold State.expireEntry
  dsimp only
  have hstart : Kept quiet s (if e.collecting = true then s.abandonTexts i e.id else s) :=
    .ite (fun _ => kept_abandonTexts s i e.id) fun _ => .refl s
  have hexpired (t : Micros) := (hstart.trans (kept_stopSends _ i e.id)).trans
    (kept_enterState _ i (f := fun x => { x with state := .expired t }) (fun _ => rfl) (fun _ => rfl)
      (fun _ => rfl) (fun _ => rfl) fun _ _ _ => rfl)
  exact (Kept.ite (fun _ => (hexpired _).trans (kept_queueNotice _ _)) fun _ => hexpired _).trans
    (kept_testReportDue _ i)

end

end Sys2Proof.Machine
end

section
/-! Every command and event keeps the forms: its effect row by row, then the end of its event. -/

namespace Sys2Proof.Machine

section
variable {quiet : Prop} (s : State)

/-! ### The end of an event -/

theorem kept_takeHead : Kept quiet s s.takeHead := .of_sidelinkOnly (sound_takeHead s) (sidelinkOnly_takeHead s)

theorem kept_sendReportOf (i : Nat) (e : Entry) {rest : List Nat} (h : rest.Sublist s.tu.reportQueue) :
    Kept quiet s (s.sendReportOf i e rest) := by
  unfold State.sendReportOf
  dsimp only
  have hqueue (o : Option Outstanding) : Kept quiet s (s.withTu { reportQueue := rest, outstanding := o }) :=
    kept_withTu s fun ⟨hnodup, hmem⟩ => ⟨hnodup.sublist h, fun k hk => hmem k (h.subset hk)⟩
  have hsent (o : Option Outstanding) (bytes : List Byte) : Kept quiet s
      { s.withTu { reportQueue := rest, outstanding := o } with out := { s.out with feed := some bytes } } :=
    (hqueue o).trans (.of_sound (sound_of_eq rfl rfl rfl rfl rfl rfl rfl rfl rfl rfl rfl rfl) rfl rfl)
  split
  · exact (hsent _ _).trans (kept_restartHold _)
  · exact hsent _ _

theorem kept_sendFrom {l : List Nat} (h : l.Sublist s.tu.reportQueue) : Kept quiet s (s.sendFrom l) := by
  induction l with
  | nil => exact kept_withTu s fun _ => ⟨List.nodup_nil, nofun⟩
  | cons i rest ih =>
    have hrest : rest.Sublist s.tu.reportQueue := (List.sublist_cons_self i rest).trans h
    unfold State.sendFrom
    split
    · exact ih hrest
    · exact kept_sendReportOf s i _ hrest

theorem kept_sendReport : Kept quiet s s.sendReport :=
  .ite (fun _ => kept_sendFrom s (List.Sublist.refl _)) fun _ => .refl s

/-- A part that may doze has no job and no stage. -/
theorem kept_enterDoze (h : s.mayDoze = true) : Kept quiet s s.enterDoze := by
  have hconfig : s.al.config ≠ none := by
    rintro hnone
    simp [State.mayDoze, State.configured, hnone] at h
  refine .of_sound { Sound.refl (quiet := quiet) s with modes := fun _ => ?_, sidelink := ?_, silent := fun _ => ?_ } rfl rfl
  · exact ⟨iff_of_false nofun hconfig, iff_of_true rfl rfl, nofun⟩
  · rintro ⟨hstage, -, -⟩
    exact ⟨hstage, (by rintro (hm | hm) <;> cases hm), nofun⟩
  · rintro ⟨hpart, ⟨hstage, -, -⟩, hcurrent, hair⟩
    exact ⟨hpart, ⟨hstage, (by rintro (hm | hm) <;> cases hm), nofun⟩, hcurrent, hair⟩

theorem kept_settlePower : Kept quiet s s.settlePower := by
  rcases s.settlePower_cases with ⟨hdoze, h⟩ | ⟨-, -, h⟩ | ⟨-, -, h⟩ <;> rw [h]
  · exact kept_enterDoze s hdoze
  · exact .refl s
  · exact kept_wakeCause s

theorem kept_finish : Kept quiet s s.finish :=
  ((kept_takeHead s).trans (kept_sendReport _)).trans (kept_settlePower _)

/-! ### The clock brought forward -/

@[simp] theorem State.advancePast_slc (t : Micros) : (s.advancePast t).slc = s.slc := by
  rcases s.advancePast_cases t with ⟨-, h⟩ | ⟨-, h⟩ <;> rw [h]
  · rfl
  · exact State.changePosition_slc _ _

@[simp] theorem State.advancePast_pwc (t : Micros) : (s.advancePast t).pwc = s.pwc := by
  rcases s.advancePast_cases t with ⟨-, h⟩ | ⟨-, h⟩ <;> rw [h]
  · rfl
  · exact State.changePosition_pwc _ _

/-- A timed event keeps what its effect keeps once the clock stands at its instant. -/
theorem kept_onTime {due : Option Micros} {f : State → State}
    (h : ∀ t, due = some t → Kept quiet (s.advancePast t) (f (s.advancePast t))) :
    Kept quiet s (s.onTime due f) := by
  unfold State.onTime
  split
  · exact .refl s
  · exact (kept_advancePast s _).trans (h _ rfl)

theorem kept_forEntry {i : Nat} {f : State → Entry → State}
    (h : ∀ e, s.entryAt i = some e → Kept quiet s (f s e)) : Kept quiet s (s.forEntry i f) := by
  unfold State.forEntry
  split
  · next e he => exact h e he
  · exact .refl s

/-! ### The application link -/

theorem kept_respond (r : Response) : Kept quiet s (s.respond r) := kept_withResponse s _

theorem kept_transfer {f : State → State} (h : Kept quiet s.activity (f s.activity)) :
    Kept quiet s (transfer f s) :=
  (kept_activity s).trans (.ite (fun _ => .refl _) fun _ => .ite (fun _ => kept_answer _ _) fun _ => h)

theorem kept_whenConfigured {f : State → State} (h : Kept quiet s (f s)) : Kept quiet s (whenConfigured f s) :=
  .ite (fun _ => h) fun _ => kept_respond s _

theorem kept_withHandle {h : Handle} {f : Entry → State → State} (hf : ∀ e, Kept quiet s (f e s)) :
    Kept quiet s (withHandle h f s) := by
  unfold withHandle
  refine .ite (fun _ => kept_respond s _) fun _ => ?_
  split
  · exact kept_respond s _
  · exact .ite (fun _ => hf _) fun _ => kept_respond s _

theorem takenRecord_tag_ne_zero {r : ConfigRecord} {cfg : Settings} {map : List CategoryEntry}
    (h : takenRecord r = some (cfg, map)) : cfg.tag ≠ 0 := by
  unfold takenRecord at h
  split at h
  · split at h
    · cases h
    · next htag =>
      cases h
      exact htag
  · cases h

/-- A configuration taken by an unconfigured part: the medium leaves OFF, the part is AWAKE. -/
theorem kept_takeConfig {cfg : Settings} (map : List CategoryEntry) (hnone : s.al.config = none) (htag : cfg.tag ≠ 0) :
    Kept quiet s (s.takeConfig cfg map) := by
  unfold State.takeConfig
  dsimp only
  refine Kept.trans ?_ ((kept_restartHold _).trans (kept_respond _ _))
  have hstage {x : Slc} (busy : Option Micros) (gap : Option Micros) (h : x.StageOk) :
      { x with medium := .idle, busyStart := busy, quietSince := gap }.StageOk :=
    Slc.stageOk_withMedium busy gap (fun _ => by rintro (hm | hm) <;> cases hm) rfl h
  have hsound (busy gap : Option Micros) : Kept quiet s { s with
      al := { s.al with config := some cfg }, atc := { s.atc with map := map }
      slc := { s.slc with medium := .idle, busyStart := busy, quietSince := gap } } :=
    .of_sound { Sound.refl (quiet := quiet) s with
      fixed := fun c hc => by rw [hnone] at hc; cases hc
      tag := fun _ c hc => by cases hc; exact htag
      modes := fun ⟨hoff, hdoze, hup⟩ => by
        have hm : s.slc.medium = .off := hoff.2 hnone
        have hpower : s.pwc.power ≠ .doze := fun hp => by rw [hdoze.2 hp] at hm; cases hm
        exact ⟨iff_of_false nofun nofun, iff_of_false nofun hpower, hup⟩
      sidelink := hstage busy gap
      silent := fun _ ⟨hpart, hok, hcurrent, hair⟩ => ⟨hpart, hstage busy gap hok, hcurrent, hair⟩ } rfl rfl
  unfold State.startMeasuring
  split <;> exact hsound _ _

theorem kept_configure (r : ConfigRecord) : Kept quiet s (s.configure r) := by
  unfold State.configure
  refine .ite (fun _ => kept_respond s _) fun hnone => ?_
  split
  · exact kept_respond s _
  · next cfg map htaken =>
    exact kept_takeConfig s map (by simpa [State.configured] using hnone) (takenRecord_tag_ne_zero htaken)

theorem kept_leaveContention : Kept quiet s s.leaveContention := by
  have hidle (hm : s.slc.medium.measures = true) : Kept quiet s (s.withMedium .idle) :=
    .of_sound (sound_withMedium s hm rfl rfl fun _ => by rintro (h | h) <;> cases h) rfl rfl
  unfold State.leaveContention
  split
  · next hm => exact hidle (by rw [hm]; rfl)
  · next hm => exact hidle (by rw [hm]; rfl)
  · exact .refl s

theorem kept_withQueue_nil : Kept quiet s (s.withQueue []) :=
  .of_sound (sound_withQueue s fun _ => ⟨Nat.zero_le _, List.nodup_nil, List.Pairwise.nil⟩) rfl rfl

theorem kept_goListenOnly : Kept quiet s s.goListenOnly := by
  have hset : Kept quiet s { s with al := { s.al with participation := .listenOnly } } :=
    .of_sound { Sound.refl (quiet := quiet) s with silent := fun _ ⟨_, hrest⟩ => ⟨rfl, hrest⟩ } rfl rfl
  unfold State.goListenOnly
  dsimp only
  refine Kept.trans ?_ (kept_leaveContention _)
  refine Kept.trans (Kept.trans (hset.trans ?_) (kept_withQueue_nil _)) (kept_mapEntries_same _ (f := withhold)
    (fun _ => rfl) (fun _ => rfl) (fun _ => rfl) (fun _ => rfl) fun _ => rfl)
  split
  · next c hc => exact .of_sidelinkOnly (sound_endCurrent _ hc) (sidelinkOnly_endCurrent _ c)
  · exact .refl _

theorem kept_setParticipation (p : ParticipationArg) : Kept (p ≠ .full) s (s.setParticipation p) := by
  unfold State.setParticipation
  split
  · exact kept_respond s _
  · have hset : Sound (ParticipationArg.full ≠ .full) s { s with al := { s.al with participation := .full } } :=
      { Sound.refl (quiet := ParticipationArg.full ≠ .full) s with silent := fun hne => absurd rfl hne }
    exact (Kept.of_sound hset rfl rfl).trans (kept_respond _ _)
  · exact (Kept.ite (fun _ => kept_goListenOnly s) fun _ => .refl s).trans (kept_respond _ _)

theorem kept_acknowledge (i : Nat) (e : Entry) : Kept quiet s (s.acknowledge i e) := by
  unfold State.acknowledge
  split
  · exact (kept_enterAcknowledged s i).trans (kept_respond _ _)
  · exact (kept_enterAcknowledged s i).trans (kept_respond _ _)
  all_goals exact kept_respond s _

theorem kept_respondSummary (i : Nat) : Kept quiet s (s.respondSummary i) := by
  unfold State.respondSummary
  dsimp only
  split <;> exact (kept_dropStale s).trans (kept_respond _ _)

theorem kept_withNotices {l : List Notice} (h : s.noticesOk → l.length ≤ 24 ∧ l.Nodup) :
    Kept quiet s (s.withNotices l) := .of_sound { Sound.refl (quiet := quiet) s with notices := h } rfl rfl

theorem kept_withFlags (flags : Flags) : Kept quiet s { s with al := { s.al with flags := flags } } :=
  .of_sound (sound_of_eq rfl rfl rfl rfl rfl rfl rfl rfl rfl rfl rfl rfl) rfl rfl

theorem kept_withResetLine (line : Bool) : Kept quiet s { s with al := { s.al with resetLine := line } } :=
  .of_sound (sound_of_eq rfl rfl rfl rfl rfl rfl rfl rfl rfl rfl rfl rfl) rfl rfl

theorem kept_presentAgain (i : Nat) : Kept quiet s (s.presentAgain i) := by
  unfold State.presentAgain
  split
  · exact .ite (fun _ => kept_queueNotice s _) fun _ => .refl s
  · exact .refl s

theorem kept_restartLink : Kept quiet s s.restartLink := by
  unfold State.restartLink
  refine Kept.trans ?_ (Kept.foldl kept_presentAgain _ _)
  exact ((kept_withNotices s fun _ => ⟨Nat.zero_le _, List.nodup_nil⟩).trans (kept_withResponse _ none)).trans
    (kept_withFlags _ _)

/-! ### The feed port -/

theorem kept_joinPage (p : Page) : Kept quiet s (s.joinPage p) := by
  refine .ite (fun hroom => kept_withFp s fun _ => ?_) fun _ => kept_setRxOverrun s
  rw [List.length_append]
  exact hroom

theorem kept_setCoverage (c : Bool) : Kept quiet s (s.setCoverage c) := by
  refine .ite (fun _ => .refl s) fun _ => Kept.trans ?_ (kept_queueNotice _ _)
  exact kept_withFp s id

theorem kept_answerReport (id : Identity) {f : State → Outstanding → State} (h : ∀ o, Kept quiet s (f s o)) :
    Kept quiet s (s.answerReport id f) := by
  unfold State.answerReport
  split
  · exact .ite (fun _ => h _) fun _ => .refl s
  · exact .refl s

theorem kept_takeFeed (m : FeedMessage) : Kept quiet s (s.takeFeed m) := by
  cases m with
  | page kind segment => exact kept_joinPage s _
  | coverageAbsent => exact kept_setCoverage s _
  | coveragePresent zone =>
    refine Kept.trans ((kept_setCoverage s true).trans ?_) (kept_applyServingZone _ zone)
    exact kept_withFp _ id
  | reportDone id => exact kept_answerReport s id fun o => kept_reportDone s o
  | reportRefused id => exact kept_answerReport s id fun o => kept_reportRefused s o

theorem kept_feedArrival (kind length : Byte) (body : List Byte) : Kept quiet s (s.feedArrival kind length body) := by
  unfold State.feedArrival
  refine .ite (fun _ => ?_) fun _ => .refl s
  split
  · exact (kept_activity s).trans (kept_setMalformed _)
  · exact (kept_activity s).trans (kept_takeFeed _ _)

theorem kept_loseModem : Kept quiet s s.loseModem := by
  unfold State.loseModem
  dsimp only
  have hlost : Kept quiet s (s.withFp { s.fp with modemReady := false, pageFifo := [] }) :=
    kept_withFp s fun _ => Nat.zero_le _
  refine Kept.trans (hlost.trans ?_) (kept_setCoverage _ false)
  split
  · exact kept_reportRefused _ _
  · exact .refl _

/-- Nothing that was shown stops being shown while a stale position is dropped. -/
theorem State.staysShown_dropStale : s.StaysShown s.dropStale := by
  intro k e e' he he' hp
  obtain ⟨f, hf, hstate⟩ := s.dropStale_state he'
  rw [he] at hf
  cases hf
  exact (hstate (by rw [hp]; nofun)).trans hp

theorem stepped_takePage (p : Page) : Stepped quiet s (s.takePage p) := by
  unfold State.takePage
  split
  · split
    · exact stepped_takeHeader s _ _ _
    · exact (kept_setMalformed s).stepped
  · split
    · exact (kept_takeText s _).stepped
    · exact (kept_setMalformed s).stepped

/-! ### The sidelink -/

theorem kept_frameArrives (f : Frame) (rssi : Int) : Kept quiet s (s.frameArrives f rssi) := by
  refine .ite (fun _ => .ite (fun hroom => ?_) fun _ => kept_setRxOverrun s) fun _ => kept_setDamaged s
  refine .of_sound { Sound.refl (quiet := quiet) s with fifos := fun ⟨hpages, _⟩ => ⟨hpages, ?_⟩ } rfl rfl
  show (s.slc.rxFifo ++ [_]).length ≤ 4
  rw [List.length_append]
  exact hroom

theorem readFrame_tally {f : Frame} {t : TallySegment} (h : readFrame f = some (.tally t)) :
    tallyOk t.tally = true := by
  unfold readFrame at h
  split at h
  · cases h
  · split at h
    · obtain ⟨x, -, hx⟩ := Option.map_eq_some_iff.1 h
      cases hx
    · split at h
      · obtain ⟨x, -, hx⟩ := Option.map_eq_some_iff.1 h
        cases hx
      · split at h
        · obtain ⟨x, hread, hx⟩ := Option.map_eq_some_iff.1 h
          cases hx
          exact readTally_tallyOk hread
        · cases h

theorem stepped_takeFrame (r : RxFrame) : Stepped quiet s (s.takeFrame r) := by
  unfold State.takeFrame
  split
  · exact (kept_setMalformed s).stepped
  · next seg hread =>
    refine .ite (fun _ => .refl s) fun _ => ?_
    unfold State.takeSegment
    split
    · exact stepped_takeHeader s _ _ _
    · exact (kept_takeText s _).stepped
    · exact (kept_takeTally s (readFrame_tally hread)).stepped

/-- The measured times and the carrier input are no part of any form. -/
theorem kept_measured (carrier quietSince busyStart lastActivity : Option Micros) (losses : Nat) :
    Kept quiet s (s.withSlc { s.slc with
      carrier := carrier, quietSince := quietSince, busyStart := busyStart, lastActivity := lastActivity
      losses := losses }) := kept_withSlc_carrier s ⟨id, rfl, .inl rfl, id, id⟩

theorem kept_withMedium {m : Medium} (hm : s.slc.medium.measures = true) (hm' : m.measures = true)
    (hair : m.onAir = false) (hwait : m ≠ .defer ∧ m.name ≠ .contend) : Kept quiet s (s.withMedium m) :=
  .of_sound (sound_withMedium s hm hm' hair fun _ h => (h.elim hwait.1 hwait.2).elim) rfl rfl

theorem kept_enterDefer (hm : s.slc.medium.measures = true) (hc : s.slc.StageOk → s.slc.current.isSome = true) :
    Kept quiet s s.enterDefer := .of_sidelinkOnly (sound_enterDefer s hm hc) (sidelinkOnly_enterDefer s)

theorem kept_beginContention (hm : s.slc.medium.measures = true)
    (hc : s.slc.StageOk → s.slc.current.isSome = true) : Kept quiet s s.beginContention :=
  .of_sidelinkOnly (sound_beginContention s hm hc) (sidelinkOnly_beginContention s)

theorem kept_enterJammed (hm : s.slc.medium.measures = true) : Kept quiet s s.enterJammed :=
  .of_sidelinkOnly (sound_enterJammed s hm) (sidelinkOnly_enterJammed s)

theorem Medium.contend_measures {m : Medium} {key : BitVec 16} {slot : Nat} {slotEnd : Micros}
    (h : m = .contend key slot slotEnd) : m.measures = true := by rw [h]; rfl

theorem kept_hearCarrier : Kept quiet s s.hearCarrier := by
  unfold State.hearCarrier
  dsimp only
  have hmeasured := kept_measured (quiet := quiet) s (some s.now) none (some (s.busySince.getD s.now))
    s.slc.lastActivity s.slc.losses
  generalize hv : s.withSlc _ = v at *
  refine (hmeasured.trans (kept_slcActivity v)).trans ?_
  generalize v.slcActivity = u
  split
  · next key slot slotEnd hm =>
    refine (kept_measured u u.slc.carrier u.slc.quietSince u.slc.busyStart u.slc.lastActivity
      (u.slc.losses + 1)).trans (kept_enterDefer _ (Medium.contend_measures hm) fun ⟨_, hwait, _⟩ => ?_)
    exact hwait (.inr (congrArg Medium.name hm))
  · exact .refl u

/-- A staged burst belongs to a current job. -/
theorem Slc.StageOk.current_of_stage {x : Slc} (h : x.StageOk) (hstage : ¬ x.stage.isEmpty = true) :
    x.current.isSome = true :=
  Option.isSome_iff_ne_none.2 fun hnone => hstage (by rw [h.1.2 hnone]; rfl)

theorem kept_endReception (unfinished : Nat) (hm : s.slc.medium = .receive) :
    Kept quiet s (s.endReception unfinished) := by
  unfold State.endReception
  dsimp only
  have hdamaged : Kept quiet s (if unfinished = 0 then s else s.setDamaged) :=
    .ite (fun _ => .refl s) fun _ => kept_setDamaged s
  have hslc : (if unfinished = 0 then s else s.setDamaged).slc = s.slc := by split <;> rfl
  generalize (if unfinished = 0 then s else s.setDamaged) = u at *
  have hmeasures : u.slc.medium.measures = true := by rw [hslc, hm]; rfl
  exact hdamaged.trans (.ite (fun _ => kept_withMedium u hmeasures rfl rfl ⟨nofun, nofun⟩)
    fun hstage => kept_enterDefer u hmeasures fun h => h.current_of_stage hstage)

theorem kept_loseCarrier (unfinished : Nat) : Kept quiet s (s.loseCarrier unfinished) := by
  unfold State.loseCarrier
  dsimp only
  have hmeasured := kept_measured (quiet := quiet) s none (some s.now) s.slc.busyStart (some s.now) s.slc.losses
  generalize hv : s.withSlc _ = v at *
  refine (hmeasured.trans (kept_slcActivity v)).trans ?_
  generalize v.slcActivity = u
  split
  · next hm => exact kept_endReception u _ hm
  · exact .refl u

theorem kept_syncToReceive (hm : s.slc.medium.measures = true) :
    Kept quiet s (s.withSlc { s.slc with medium := .receive, quietSince := none }) :=
  kept_withSlc s rfl ⟨id, rfl, .inr ⟨hm, rfl⟩,
    fun h => Slc.stageOk_withMedium s.slc.busyStart none (fun _ => by rintro (h | h) <;> cases h) rfl h, id⟩

theorem kept_completeGap : Kept quiet s s.completeGap := by
  unfold State.completeGap
  dsimp only
  refine (kept_measured s s.slc.carrier s.slc.quietSince none s.slc.lastActivity s.slc.losses).trans ?_
  generalize s.withSlc _ = u
  split
  · next hm =>
    have hmeasures : u.slc.medium.measures = true := by rw [hm]; rfl
    exact .ite (fun _ => kept_withMedium u hmeasures rfl rfl ⟨nofun, nofun⟩)
      fun hstage => kept_beginContention u hmeasures fun h => h.current_of_stage hstage
  · next hm =>
    have hnotice : Kept quiet u (u.queueNotice .mediumClear) := kept_queueNotice u _
    have hslc : (u.queueNotice .mediumClear).slc = u.slc := by rw [State.queueNotice_eq]
    have hmeasures : (u.queueNotice .mediumClear).slc.medium.measures = true := by rw [hslc, hm]; rfl
    exact hnotice.trans (.ite (fun _ => kept_withMedium _ hmeasures rfl rfl ⟨nofun, nofun⟩)
      fun hstage => kept_enterDefer _ hmeasures fun h => h.current_of_stage hstage)
  · exact .refl u

theorem State.jamDue_measures {s : State} {t : Micros} (h : s.jamDue = some t) : s.slc.medium.measures = true := by
  unfold State.jamDue at h
  split at h
  · next hm => rw [hm]; rfl
  · next hm => rw [hm]; rfl
  · next hm => rw [hm]; rfl
  · cases h

/-- The win puts a job that is current on the air, with its first burst won. -/
theorem kept_win {key : BitVec 16} {slot : Nat} {slotEnd : Micros} (hm : s.slc.medium = .contend key slot slotEnd) :
    Kept quiet s s.win := by
  unfold State.win
  dsimp only
  generalize hv : (s.withSlc _).emit _ = v
  have hslc : v.slc = { s.slc with medium := v.slc.medium, quietSince := none } := by subst hv; rfl
  have honly : SidelinkOnly s v := by
    subst hv
    refine SidelinkOnly.trans ?_ (sidelinkOnly_emit _ _)
    exact sidelinkOnly_withSlc s rfl rfl
  have hnotices : v.al = s.al := by subst hv; rfl
  have hpreamble : v.slc.medium.measures = true ∧ (v.slc.medium = .defer ∨ v.slc.medium.name = .contend → False) := by
    subst hv
    exact ⟨rfl, by rintro (h | h) <;> cases h⟩
  have hmeasures : s.slc.medium.measures = true := Medium.contend_measures hm
  have hcurrent (h : s.slc.StageOk) : s.slc.current.isSome = true := h.2.1 (.inr (congrArg Medium.name hm))
  have hsound {u : State} (hu : SidelinkOnly s u) (hal : u.al = s.al) (hqueue : u.slc.queue = s.slc.queue)
      (hmedium : u.slc.medium = v.slc.medium) (hstage : s.slc.StageOk → u.slc.StageOk) : Kept quiet s u := by
    refine .of_sidelinkOnly (sound_of_sidelinkOnly hu ?_ ?_ ?_ hstage ?_) hu
    · unfold State.noticesOk
      rw [hal]
      exact id
    · rw [hqueue]
      exact id
    · exact .inr ⟨hmeasures, hmedium ▸ hpreamble.1⟩
    · rintro ⟨-, hok, hnone, -⟩
      have := hcurrent hok
      simp [hnone] at this
  split
  · next c hc =>
    have hcs : s.slc.current = some c := by rw [hslc] at hc; exact hc
    split
    · next hwon =>
      refine hsound honly hnotices (by rw [hslc]) rfl fun ⟨hstage, _, _⟩ => ?_
      rw [hslc]
      exact ⟨hstage, fun h => (hpreamble.2 h).elim, fun _ => by rw [hcs]; exact hwon⟩
    · generalize hx : v.withCurrent (some { c with won := true }) = x
      have hxslc : x.slc = { s.slc with
          medium := v.slc.medium, quietSince := none, current := some { c with won := true } } := by
        subst hx
        show { v.slc with current := some { c with won := true } } = _
        rw [hslc]
      have hxonly : SidelinkOnly s x := by
        subst hx
        exact honly.trans (sidelinkOnly_withSlc v rfl rfl)
      refine (hsound hxonly (by subst hx; exact hnotices) (by rw [hxslc]) (by rw [hxslc])
        fun ⟨hstage, _, _⟩ => ?_).trans (.of_sidelinkOnly (sound_reportWon x _) (sidelinkOnly_reportWon x _))
      rw [hxslc]
      refine ⟨?_, fun _ => rfl, fun _ => rfl⟩
      rw [hstage, hcs]
      simp
  · next hc =>
    have hcs : s.slc.current = none := by rw [hslc] at hc; exact hc
    refine hsound honly hnotices (by rw [hslc]) rfl fun hok => ?_
    have := hcurrent hok
    simp [hcs] at this

theorem kept_endSlot : Kept quiet s s.endSlot := by
  unfold State.endSlot
  split
  · next key slot slotEnd hm =>
    refine .ite (fun _ => ?_) fun _ => kept_win s hm
    exact .of_sidelinkOnly (sound_beginSlot s _ _ (Medium.contend_measures hm)
      fun ⟨_, hwait, _⟩ => hwait (.inr (congrArg Medium.name hm))) (sidelinkOnly_beginSlot s _ _)
  · exact .refl s

/-- The burst goes on the air after its preamble. -/
theorem kept_sendBurst {kind : Preamble} {ends : Micros} (hm : s.slc.medium = .preamble kind ends) :
    Kept quiet s s.sendBurst := by
  have honly : SidelinkOnly s s.sendBurst := (sidelinkOnly_withMedium s _).trans (sidelinkOnly_emit _ _)
  have hair : s.slc.medium.onAir = true := by rw [hm]; rfl
  refine .of_sidelinkOnly (sound_of_sidelinkOnly honly id id (.inr ⟨by rw [hm]; rfl, rfl⟩) ?_ ?_) honly
  · rintro ⟨hstage, -, hwon⟩
    exact ⟨hstage, (by rintro (h | h) <;> cases h), fun _ => hwon hair⟩
  · rintro ⟨-, ⟨-, -, hwon⟩, hnone, -⟩
    have := hwon hair
    simp [hnone] at this

/-- What the completion of a burst leaves to `afterBurst`, with the activity reported first. -/
theorem State.completeBurst_eq : s.completeBurst =
    match s.slc.current with
    | some c => (s.slcActivity.withSlc { s.slc with
        stage := [], losses := 0, lastActivity := some s.now, quietSince := some s.now }).afterBurst c
    | none => (s.slcActivity.withSlc { s.slc with
        stage := [], losses := 0, lastActivity := some s.now, quietSince := some s.now }).withMedium .idle := by
  have hcommute (x : Slc) : (s.withSlc x).slcActivity = s.slcActivity.withSlc x := by
    unfold State.slcActivity
    rw [State.withSlc_pwc]
    split
    · unfold State.restartHold
      have hc : (s.withSlc x).configured = s.configured := rfl
      rw [hc]
      split <;> rfl
    · rfl
  unfold State.completeBurst
  dsimp only
  rw [hcommute]
  rfl

theorem kept_completeBurst {ends : Micros} (hm : s.slc.medium = .send ends) : Kept quiet s s.completeBurst := by
  rw [State.completeBurst_eq]
  have hactive : Kept quiet s s.slcActivity := kept_slcActivity s
  have hslc : s.slcActivity.slc = s.slc := by rw [State.slcActivity_eq]; rfl
  rw [← hslc] at hm ⊢
  generalize s.slcActivity = u at *
  have hmeasures : u.slc.medium.measures = true := by rw [hm]; rfl
  have hover {x : Slc} (hqueue : x.queue = u.slc.queue) (hrx : x.rxFifo = u.slc.rxFifo)
      (hcarrier : x.carrier = u.slc.carrier) (hmedium : x.medium = .idle) (hstage : x.stage = [])
      (hcurrent : x.current = none) : Kept quiet u (u.withSlc x) := by
    refine kept_withSlc u hcarrier ⟨by rw [hqueue]; exact id, hrx, .inr ⟨hmeasures, by rw [hmedium]; rfl⟩,
      fun _ => ⟨iff_of_true hstage hcurrent, ?_, ?_⟩, fun _ => hcurrent⟩
    · rw [hmedium]
      rintro (h | h) <;> cases h
    · rw [hmedium]
      nofun
  split
  · next c hc =>
    have hair : u.slc.medium.onAir = true := by rw [hm]; rfl
    have hclear : Kept quiet u (u.withSlc { u.slc with
        stage := [], losses := 0, lastActivity := some s.now, quietSince := some s.now }).clearCurrent :=
      hover rfl rfl rfl rfl rfl rfl
    unfold State.afterBurst
    refine hactive.trans (.ite (fun _ => ?_) fun _ => .ite (fun _ => ?_) fun hburst => ?_)
    · exact hclear.trans (.of_sidelinkOnly (sound_reportEnded _ _) (sidelinkOnly_reportEnded _ _))
    · exact hclear.trans (.of_sidelinkOnly (sound_reportCompleted _ _) (sidelinkOnly_reportCompleted _ _))
    · refine Kept.trans (kept_withSlc u (x := { u.slc with
        lastActivity := some s.now, quietSince := some s.now
        current := some { c with unstaged := c.unstaged.drop 6 }
        stage := (u.withSlc { u.slc with
          stage := [], losses := 0, lastActivity := some s.now, quietSince := some s.now }).buildBurst
            c.job.id (c.unstaged.take 6)
        losses := 0 }) rfl ⟨id, rfl, .inl rfl, fun ⟨_, _, hwon⟩ => ?_, fun hnone => ?_⟩)
        (kept_enterDefer _ hmeasures fun _ => rfl)
      · refine ⟨iff_of_false (by simpa using hburst) nofun, fun _ => rfl, fun _ => ?_⟩
        simpa [hc] using hwon hair
      · rw [hc] at hnone
        cases hnone
  · next hc => exact hactive.trans (hover rfl rfl rfl rfl rfl hc)

/-! ### Power Control -/

/-- The end of the warm-up: out of DOZE, so out of DOZE-SAMPLING, into IDLE. -/
theorem kept_wake (hwarm : s.pwc.warmUp.isSome = true) : Kept quiet s s.wake := by
  unfold State.wake
  dsimp only
  have hidle (hold : AwakeHold) (busy gap : Option Micros) : Kept quiet s { s with
      pwc := { s.pwc with power := .awake, warmUp := none, hold := hold }
      slc := { s.slc with medium := .idle, busyStart := busy, quietSince := gap } } := by
    have hstage (h : s.slc.StageOk) :
        { s.slc with medium := .idle, busyStart := busy, quietSince := gap }.StageOk :=
      Slc.stageOk_withMedium busy gap (fun _ => by rintro (hm | hm) <;> cases hm) rfl h
    refine .of_sound { Sound.refl (quiet := quiet) s with
      modes := fun ⟨hoff, hdoze, hup⟩ => ⟨?_, iff_of_false nofun nofun, nofun⟩
      sidelink := hstage
      silent := fun _ ⟨hpart, hok, hcurrent, hair⟩ => ⟨hpart, hstage hok, hcurrent, hair⟩ } rfl rfl
    have hsampling : s.slc.medium = .dozeSampling := hdoze.2 (hup hwarm)
    refine iff_of_false nofun fun hnone => ?_
    have := hoff.2 hnone
    rw [hsampling] at this
    cases this
  unfold State.restartHold
  split <;>
  · unfold State.startMeasuring
    split <;> exact hidle _ _ _

theorem kept_mapWindow (f : Window → Window) : Kept quiet s (s.mapWindow f) := kept_withPwc s rfl .inl

end

end Sys2Proof.Machine
end

section
/-! Every command and event is a step that keeps the forms and ends at rest; the statements that follow from it. -/

namespace Sys2Proof.Machine

/-! ### Every row -/

/-- `r` completes an event of `s` in a state of rest that keeps the forms. -/
def Completes (quiet : Prop) (s : State) (r : Result) : Prop :=
  ∃ t, r = .next t ∧ t.settled = true ∧ Stepped quiet s.begin t

theorem Completes.of_stepped {quiet : Prop} {s : State} {f : State → State}
    (h : Stepped quiet s.begin (f s.begin)) : Completes quiet s (event f s) :=
  ⟨_, event_eq f s, State.settled_finish _, h.trans_kept (kept_finish _)⟩

theorem Completes.of_kept {quiet : Prop} {s : State} {f : State → State} (h : ∀ s, Kept quiet s (f s)) :
    Completes quiet s (event f s) := .of_stepped (h _).stepped

theorem Completes.of_command {quiet : Prop} {s : State} {f : State → State} (h : ∀ s, Kept quiet s (f s)) :
    Completes quiet s (command f s) :=
  .of_kept fun s => kept_transfer s (kept_whenConfigured _ (h _))

theorem State.collectDue_lasting {s : State} {i : Nat} {t : Micros} (h : s.collectDue i = some t) {e : Entry}
    (he : s.entryAt i = some e) : e.state ≠ .held ∧ e.state.lasting = false := by
  unfold State.collectDue at h
  rw [he] at h
  dsimp only at h
  split at h
  · next hst =>
    rw [hst]
    exact ⟨nofun, rfl⟩
  · cases h

/-- The collect limit finds the entry still COLLECTING, whatever the clock's advance did to the position. -/
theorem kept_collectLimit {quiet : Prop} (i : Nat) (s : State) :
    Kept quiet s (s.onTime (s.collectDue i) fun s => s.dropStale.forEntry i fun s e => s.reachCollectLimit i e) := by
  refine kept_onTime s fun t ht => (kept_dropStale _).trans (kept_forEntry _ fun e he => ?_)
  refine kept_reachCollectLimit _ he ?_
  obtain ⟨f, hf, hstate⟩ := State.dropStale_state _ he
  obtain ⟨g, hg, hstate'⟩ := State.advancePast_state _ hf
  obtain ⟨hheld, hlasting⟩ := State.collectDue_lasting ht hg
  have hfg := hstate' hheld
  rw [hstate (hfg ▸ hheld), hfg]
  exact hlasting

theorem State.lingerDue_state {s : State} {i : Nat} {t : Micros} (h : s.lingerDue i = some t) {e : Entry}
    (he : s.entryAt i = some e) : e.state = .expired t := by
  unfold State.lingerDue at h
  rw [he] at h
  dsimp only at h
  split at h
  · next hst =>
    cases h
    exact hst
  · cases h

theorem State.staysShown_advancePast (s : State) (t : Micros) : s.StaysShown (s.advancePast t) := by
  intro k e e' he he' hp
  obtain ⟨f, hf, hstate⟩ := s.advancePast_state he'
  rw [he] at hf
  cases hf
  exact (hstate (by rw [hp]; nofun)).trans hp

/-- The end of a linger removes an EXPIRED entry. -/
theorem stepped_lingerExpiry {quiet : Prop} (i : Nat) (s : State) :
    Stepped quiet s (s.onTime (s.lingerDue i) fun s => s.removeEntry i) := by
  unfold State.onTime
  split
  · exact .refl s
  · next t ht =>
    refine .after_kept (kept_advancePast s t) (s.staysShown_advancePast t) (stepped_removeEntry _ i fun e he => ?_)
    obtain ⟨f, hf, hstate⟩ := s.advancePast_state he
    have hexpired := State.lingerDue_state ht hf
    rw [hstate (by rw [hexpired]; nofun), hexpired]
    nofun

theorem stepped_pageFifoProcess {quiet : Prop} (s : State) :
    Stepped quiet s (match s.fp.pageFifo with
      | [] => s
      | p :: rest => (s.withFp { s.fp with pageFifo := rest }).dropStale.takePage p) := by
  split
  · exact .refl s
  · next p rest hpages =>
    have htaken : Kept quiet s (s.withFp { s.fp with pageFifo := rest }) :=
      kept_withFp s fun h => by
        rw [hpages, List.length_cons] at h
        exact Nat.le_of_succ_le h
    exact .after_kept (htaken.trans (kept_dropStale _))
      (State.staysShown_dropStale (s.withFp { s.fp with pageFifo := rest })) (stepped_takePage _ p)

theorem stepped_rxFifoProcess {quiet : Prop} (s : State) :
    Stepped quiet s (if s.slc.medium.measures then
      match s.slc.rxFifo with
      | [] => s
      | r :: rest => (s.withSlc { s.slc with rxFifo := rest }).dropStale.takeFrame r
    else s) := by
  refine .ite (fun _ => ?_) fun _ => .refl s
  split
  · exact .refl s
  · next r rest hframes =>
    have htaken : Kept quiet s (s.withSlc { s.slc with rxFifo := rest }) :=
      .of_sound { Sound.refl (quiet := quiet) s with
        fifos := fun ⟨hpages, h⟩ => ⟨hpages, by
          rw [hframes, List.length_cons] at h
          exact Nat.le_of_succ_le h⟩ } rfl rfl
    exact .after_kept (htaken.trans (kept_dropStale _))
      (State.staysShown_dropStale (s.withSlc { s.slc with rxFifo := rest })) (stepped_takeFrame _ r)

theorem kept_carrierBegin {quiet : Prop} (s : State) :
    Kept quiet s (match s.slc.medium with
      | .off => s.withCarrier (some s.now)
      | .dozeSampling => (s.withCarrier (some s.now)).mapWindow fun w => w.markBegins s.now
      | m => if m.sending then s else s.hearCarrier) := by
  split
  · exact kept_withCarrier s _
  · exact (kept_withCarrier s _).trans (kept_mapWindow _ _)
  · exact .ite (fun _ => .refl s) fun _ => kept_hearCarrier s

theorem kept_carrierEnd {quiet : Prop} (unfinished : Nat) (s : State) :
    Kept quiet s (match s.slc.medium with
      | .off => s.withCarrier none
      | .dozeSampling => (s.withCarrier none).mapWindow fun w => w.markEnds s.now
      | m => if m.sending then s else s.loseCarrier unfinished) := by
  split
  · exact kept_withCarrier s _
  · exact (kept_withCarrier s _).trans (kept_mapWindow _ _)
  · exact .ite (fun _ => .refl s) fun _ => kept_loseCarrier s unfinished

/-- Every command and event but POWER_ON_RESET completes so. -/
theorem completes_exec {c : Instr} (h : ∀ m, c ≠ .powerOnReset m) (s : State) :
    Completes (c ≠ .setParticipation .full) s (exec c s) := by
  cases c with
  | powerOnReset m => exact absurd rfl (h m)
  | configure r =>
    show Completes _ s (execConfigure r s)
    exact .of_kept fun s => kept_transfer s (kept_configure _ r)
  | setPosition zone =>
    show Completes _ s (execSetPosition zone s)
    exact .of_command fun s => .ite (fun _ => (kept_changePosition s _).trans (kept_respond _ _))
      fun _ => kept_respond s _
  | clearPosition =>
    show Completes _ s (execClearPosition s)
    exact .of_command fun s => (Kept.ite (fun _ => kept_changePosition s _) fun _ => .refl s).trans (kept_respond _ _)
  | setOptIn marks =>
    show Completes _ s (execSetOptIn marks s)
    refine .of_command fun s => Kept.trans (Kept.trans ((kept_dropStale s).trans ?_) (kept_reevaluate _))
      (kept_respond _ _)
    exact .of_sound (sound_of_eq rfl rfl rfl rfl rfl rfl rfl rfl rfl rfl rfl rfl) rfl rfl
  | setParticipation p =>
    show Completes _ s (execSetParticipation p s)
    refine .of_command fun s => ?_
    have hkept := kept_setParticipation s p
    exact { hkept with silent := fun hne => hkept.silent fun heq => hne (congrArg _ heq) }
  | acknowledge handle =>
    show Completes _ s (execAcknowledge handle s)
    exact .of_command fun s => kept_withHandle s fun e => kept_acknowledge s _ e
  | readAlert handle =>
    show Completes _ s (execReadAlert handle s)
    exact .of_command fun s => kept_withHandle s fun _ => kept_respondSummary s _
  | readText handle index offset length =>
    show Completes _ s (execReadText handle index offset length s)
    exact .of_command fun s => .ite (fun _ => kept_respond s _) fun _ => kept_withHandle s fun _ => kept_respond s _
  | listAlerts =>
    show Completes _ s (execListAlerts s)
    exact .of_command fun s => kept_respond s _
  | fetchNotice =>
    show Completes _ s (execFetchNotice s)
    refine .of_command fun s => (kept_withNotices s fun ⟨hlength, hnodup⟩ => ⟨?_, ?_⟩).trans (kept_respond _ _)
    · exact (List.tail_sublist _).length_le.trans hlength
    · exact hnodup.sublist (List.tail_sublist _)
  | readStatus =>
    show Completes _ s (execReadStatus s)
    exact .of_kept fun s => kept_transfer s ((kept_dropStale _).trans (kept_respond _ _))
  | clearFlags marks =>
    show Completes _ s (execClearFlags marks s)
    exact .of_command fun s => (kept_withFlags s _).trans (kept_respond _ _)
  | restartLink =>
    show Completes _ s (execRestartLink s)
    exact .of_command fun s => (kept_restartLink s).trans (kept_respond _ _)
  | unknownCommand =>
    show Completes _ s (execUnknownCommand s)
    exact .of_kept fun s => kept_transfer s (kept_respond _ _)
  | responseRead =>
    show Completes _ s (execResponseRead s)
    refine .of_kept fun s => ?_
    split
    · exact (kept_withResponse s none).trans (kept_answer _ _)
    · exact kept_answer s _
  | linkResetLineAsserted =>
    show Completes _ s (execLinkResetLineAsserted s)
    exact .of_kept fun s => .ite (fun _ => .refl s) fun _ =>
      ((kept_activity s).trans (kept_withResetLine _ true)).trans (kept_restartLink _)
  | linkResetLineReleased =>
    show Completes _ s (execLinkResetLineReleased s)
    exact .of_kept fun s => kept_withResetLine s false
  | page kind length body =>
    show Completes _ s (execPage kind length body s)
    exact .of_kept fun s => kept_feedArrival s _ _ _
  | coverage length body =>
    show Completes _ s (execCoverage length body s)
    exact .of_kept fun s => kept_feedArrival s _ _ _
  | reportDone length body =>
    show Completes _ s (execReportDone length body s)
    exact .of_kept fun s => kept_feedArrival s _ _ _
  | reportRefused length body =>
    show Completes _ s (execReportRefused length body s)
    exact .of_kept fun s => kept_feedArrival s _ _ _
  | feedMessageOtherKind kind length body =>
    show Completes _ s (execFeedMessageOtherKind kind length body s)
    exact .of_kept fun s => kept_feedArrival s _ _ _
  | modemReadyDrop =>
    show Completes _ s (execModemReadyDrop s)
    refine .of_kept fun s => .ite (fun _ => (kept_activity s).trans (kept_loseModem _)) fun _ => ?_
    exact kept_withFp s id
  | modemReadyRise =>
    show Completes _ s (execModemReadyRise s)
    refine .of_kept fun s => ?_
    refine Kept.trans (t := if s.configured then s.activity else s) ?_ ?_
    · exact .ite (fun _ => kept_activity s) fun _ => .refl s
    · refine kept_withFp _ fun hpages => ?_
      split at hpages
      · simpa using hpages
      · exact hpages
  | pageFifoProcess =>
    show Completes _ s (execPageFifoProcess s)
    exact .of_stepped (stepped_pageFifoProcess _)
  | answerTimerExpiry =>
    show Completes _ s (execAnswerTimerExpiry s)
    refine .of_kept fun s => kept_onTime s fun t _ => ?_
    split
    · exact kept_reportRefused _ _
    · exact .refl _
  | frameReceived f rssi =>
    show Completes _ s (execFrameReceived f rssi s)
    refine .of_kept fun s => ?_
    split
    · exact kept_frameArrives s f rssi
    · exact .refl s
  | rxFifoProcess =>
    show Completes _ s (execRxFifoProcess s)
    exact .of_stepped (stepped_rxFifoProcess _)
  | carrierBegin =>
    show Completes _ s (execCarrierBegin s)
    exact .of_kept kept_carrierBegin
  | carrierEnd unfinished =>
    show Completes _ s (execCarrierEnd unfinished s)
    exact .of_kept (kept_carrierEnd unfinished)
  | syncDetected =>
    show Completes _ s (execSyncDetected s)
    refine .of_kept fun s => ?_
    dsimp only
    split
    · next hm => exact kept_syncToReceive s (by rw [hm]; rfl)
    · next hm => exact kept_syncToReceive s (by rw [hm]; rfl)
    · exact .refl s
  | quietGapComplete =>
    show Completes _ s (execQuietGapComplete s)
    exact .of_kept fun s => kept_onTime s fun t _ => kept_completeGap _
  | holdLimitReached =>
    show Completes _ s (execHoldLimitReached s)
    exact .of_kept fun s => kept_onTime s fun t ht =>
      kept_enterJammed _ (by rw [State.advancePast_slc]; exact State.jamDue_measures ht)
  | contentionSlotEnd =>
    show Completes _ s (execContentionSlotEnd s)
    exact .of_kept fun s => kept_onTime s fun t _ => kept_endSlot _
  | preambleEnd =>
    show Completes _ s (execPreambleEnd s)
    refine .of_kept fun s => kept_onTime s fun t ht => ?_
    unfold State.preambleDue at ht
    split at ht
    · next hm => exact kept_sendBurst _ ((congrArg Slc.medium (s.advancePast_slc t)).trans hm)
    · cases ht
  | burstCompletion =>
    show Completes _ s (execBurstCompletion s)
    refine .of_kept fun s => kept_onTime s fun t ht => ?_
    unfold State.burstDue at ht
    split at ht
    · next hm => exact kept_completeBurst _ ((congrArg Slc.medium (s.advancePast_slc t)).trans hm)
    · cases ht
  | collectLimit i =>
    show Completes _ s (execCollectLimit i s)
    exact .of_kept (kept_collectLimit i)
  | lifetimeExpiry i =>
    show Completes _ s (execLifetimeExpiry i s)
    exact .of_kept fun s => kept_onTime s fun t _ => kept_forEntry _ fun e _ => kept_expireEntry _ i e
  | lingerExpiry i =>
    show Completes _ s (execLingerExpiry i s)
    exact .of_stepped (stepped_lingerExpiry i _)
  | positionStale =>
    show Completes _ s (execPositionStale s)
    exact .of_kept fun s => kept_onTime s fun t _ => kept_dropStale _
  | assemblyLimit n =>
    show Completes _ s (execAssemblyLimit n s)
    exact .of_kept fun s => kept_onTime s fun t _ => kept_discardSlot _ n
  | relayWaitExpiry i =>
    show Completes _ s (execRelayWaitExpiry i s)
    refine .of_kept fun s => kept_onTime s fun t _ => kept_forEntry _ fun e _ =>
      Kept.trans (kept_modifyRelay _ i fun r => { r with state := .queued }) ?_
    exact .of_sidelinkOnly (sound_placeJob _ _) (sidelinkOnly_placeJob _ _)
  | tallyWaitExpiry i =>
    show Completes _ s (execTallyWaitExpiry i s)
    refine .of_kept fun s => kept_onTime s fun t _ => kept_forEntry _ fun e _ =>
      Kept.trans (kept_modifyTallySend _ i fun r => { r with state := .queued }) ?_
    exact .of_sidelinkOnly (sound_placeJob _ _) (sidelinkOnly_placeJob _ _)
  | awakeHoldRunOut =>
    show Completes _ s (execAwakeHoldRunOut s)
    exact .of_kept fun s => kept_onTime s fun t _ => kept_withHold _ _
  | sampleWindowOpen =>
    show Completes _ s (execSampleWindowOpen s)
    exact .of_kept fun s => kept_onTime s fun t _ => kept_withPwc _ rfl .inl
  | sampleWindowClose =>
    show Completes _ s (execSampleWindowClose s)
    exact .of_kept fun s => kept_onTime s fun t _ => kept_withPwc _ rfl .inl
  | wakePattern =>
    show Completes _ s (execWakePattern s)
    exact .of_kept fun s => kept_onTime s fun t _ => kept_wakeCause _
  | warmUpEnd =>
    show Completes _ s (execWarmUpEnd s)
    refine .of_kept fun s => kept_onTime s fun t ht => kept_wake _ ?_
    rw [State.advancePast_pwc]
    exact Option.isSome_of_eq_some ht

/-! ### Completion at rest -/

/-- Settles O18: POWER_ON_RESET by its state, every other command by the end of its event. -/
theorem everyCommandCompletesAtRest : Obligations.EveryCommandCompletesAtRest := by
  intro c s
  by_cases h : ∀ m, c ≠ .powerOnReset m
  · obtain ⟨t, hnext, hsettled, hstep⟩ := completes_exec h s
    exact ⟨t, hnext, hsettled, hstep.pending, hstep.choice⟩
  · push Not at h
    obtain ⟨m, rfl⟩ := h
    exact ⟨_, rfl, rfl, rfl, rfl⟩

/-! ### What a step of the machine keeps -/

/-- A property that the rows, a tick and POWER_ON_RESET keep, and that does not depend on the waiting commands, the
choice counter and the outputs, is kept by every step. -/
theorem step_keeps {p : State → Prop}
    (hmodel : ∀ (s : State) pending choice out, p s → p { s with pending := pending, choice := choice, out := out })
    (htick : ∀ s : State, s.dueTimers = [] → p s → p { s with now := s.now + 1 })
    (hreset : ∀ s t m, exec (.powerOnReset m) s = .next t → p t)
    (hstep : ∀ c s t, (∀ m, c ≠ .powerOnReset m) → exec c s = .next t → p s → p t) {s t : State}
    (hs : p s) (h : step s = .next t) : p t := by
  rcases step_cases h with ⟨c, u, hu, hexec⟩ | ⟨hdue, rfl⟩
  · have hpu : p u := by
      rw [hu]
      exact hmodel s _ _ s.out hs
    by_cases hc : ∀ m, c ≠ .powerOnReset m
    · exact hstep c u t hc hexec hpu
    · push Not at hc
      obtain ⟨m, rfl⟩ := hc
      exact hreset u t m hexec
  · exact hmodel _ s.pending (s.choice + 1) s.out (htick s hdue hs)

/-- The same for a property that the clock is no part of and that `Stepped` keeps. -/
theorem step_keeps_of_stepped {p : State → Prop}
    (hmodel : ∀ (s : State) pending choice out, p s → p { s with pending := pending, choice := choice, out := out })
    (hclock : ∀ (s : State) now, p s → p { s with now := now })
    (hreset : ∀ s t m, exec (.powerOnReset m) s = .next t → p t)
    (hstep : ∀ quiet s t, Stepped quiet s t → p s → p t) {s t : State} (hs : p s) (h : step s = .next t) : p t := by
  refine step_keeps hmodel (fun s _ => hclock s _) hreset (fun c s t hc hexec hps => ?_) hs h
  obtain ⟨u, hnext, -, hkeeps⟩ := completes_exec hc s
  cases hexec.symm.trans hnext
  exact hstep _ _ _ hkeeps (hmodel s s.pending s.choice Outputs.none hps)

/-- POWER_ON_RESET leaves the blocks of reset but for the input levels and the waiting commands. -/
theorem powerOnReset_state {s t : State} {m : Bool} (h : exec (.powerOnReset m) s = .next t) :
    t = { State.reset with
      pending := s.pending, choice := s.choice, fp := { State.reset.fp with modemReady := m }
      al := { State.reset.al with resetLine := s.al.resetLine }
      slc := { State.reset.slc with carrier := s.slc.carrier.map fun _ => 0 } } := by
  cases h
  rfl

/-- Settles O19. -/
theorem queuesAndFifosKept : Obligations.QueuesAndFifosKept := by
  obtain ⟨-, hnotices, hfifos, hqueue, -⟩ := resetMeetsTheInvariants
  refine ⟨fun s t h => ⟨fun hs => ?_, fun hs => ?_⟩, fun s t hs h => ?_⟩
  · exact step_keeps_of_stepped (fun _ _ _ _ => id) (fun _ _ => id)
      (fun s t m hr => by rw [powerOnReset_state hr]; exact hnotices) (fun _ _ _ k => k.notices) hs h
  · exact step_keeps_of_stepped (fun _ _ _ _ => id) (fun _ _ => id)
      (fun s t m hr => by rw [powerOnReset_state hr]; exact hfifos) (fun _ _ _ k => k.fifos) hs h
  · exact step_keeps_of_stepped (fun _ _ _ _ => id) (fun _ _ => id)
      (fun s t m hr => by rw [powerOnReset_state hr]; exact hqueue) (fun _ _ _ k => k.queue) hs h

/-- Settles O20. -/
theorem tableKept : Obligations.TableKept := by
  obtain ⟨-, -, -, -, htable, -⟩ := resetMeetsTheInvariants
  intro s t hs h
  exact step_keeps_of_stepped (fun _ _ _ _ => id) (fun _ _ => id)
    (fun s t m hr => by rw [powerOnReset_state hr]; exact htable) (fun _ _ _ k => k.table) hs h

/-- Settles O21. -/
theorem talliesKept : Obligations.TalliesKept := by
  obtain ⟨-, -, -, -, -, htallies, htag, -⟩ := resetMeetsTheInvariants
  intro s t hs hstag h
  exact step_keeps_of_stepped (p := fun s => s.talliesOk ∧ s.tagOk) (fun _ _ _ _ => id) (fun _ _ => id)
    (fun s t m hr => by rw [powerOnReset_state hr]; exact ⟨htallies, fun _ hc => by cases hc⟩)
    (fun _ _ _ k ⟨hk, hktag⟩ => ⟨k.tallies hktag hk, k.tag hktag⟩) ⟨hs, hstag⟩ h

/-- Settles O23. -/
theorem powerModesAndStageKept : Obligations.PowerModesAndStageKept := by
  obtain ⟨-, -, -, -, -, -, -, -, -, -, hmodes, hsidelink, -⟩ := resetMeetsTheInvariants
  refine ⟨fun s t hs h => ?_, fun s t hs h => ?_⟩
  · exact step_keeps_of_stepped (fun _ _ _ _ => id) (fun _ _ => id)
      (fun s t m hr => by rw [powerOnReset_state hr]; exact hmodes) (fun _ _ _ k => k.modes) hs h
  · exact step_keeps_of_stepped (fun _ _ _ _ => id) (fun _ _ => id)
      (fun s t m hr => by rw [powerOnReset_state hr]; exact hsidelink) (fun _ _ _ k => k.sidelink) hs h

/-! ### Rules of the whole part -/

/-- Settles O25. -/
theorem configurationFixedOnceTaken : Obligations.ConfigurationFixedOnceTaken := by
  intro c s t cfg hc hcfg hexec
  obtain ⟨u, hnext, -, hkeeps⟩ := completes_exec hc s
  cases hexec.symm.trans hnext
  exact hkeeps.fixed cfg hcfg

/-- A generation that was counted up is another one. -/
theorem gen_add_one_ne (g : BitVec 8) : g ≠ g + 1 := by
  intro h
  bv_omega

/-- Settles O26: a slot of one generation that holds an entry before and after was not turned over. -/
theorem updateNumberNeverDecreases : Obligations.UpdateNumberNeverDecreases := by
  intro c s t i e e' hc hexec he he' hgen
  obtain ⟨u, hnext, -, hkeeps⟩ := completes_exec hc s
  cases hexec.symm.trans hnext
  have heb : s.begin.entryAt i = some e := he
  rcases hkeeps.slots i with ⟨-, hrel⟩ | ⟨-, hnew | hnone⟩
  · rw [heb, he'] at hrel
    cases hrel with
    | some hev => exact ⟨hev.update, hev.id⟩
  · exact absurd (hgen.trans hnew) (gen_add_one_ne _)
  · rw [hnone] at he'
    cases he'

/-- Settles O27: a slot whose entry is PRESENTING is not turned over. -/
theorem presentingEntryStaysInTheTable : Obligations.PresentingEntryStaysInTheTable := by
  intro c s t i e hc hexec he hp
  obtain ⟨u, hnext, -, hkeeps⟩ := completes_exec hc s
  cases hexec.symm.trans hnext
  have heb : s.begin.entryAt i = some e := he
  rcases hkeeps.slots i with ⟨hgen, hrel⟩ | ⟨hshown, -⟩
  · refine ⟨hgen, ?_⟩
    rw [heb] at hrel
    generalize hx : t.entryAt i = x at hrel
    cases hrel with
    | some hev =>
      refine ⟨_, rfl, hev.id, ?_⟩
      rcases hev.lasting (by rw [hp]; rfl) with hlasting | hup
      · unfold EntryState.lasting at hlasting
        split at hlasting
        · next h => exact .inl h
        · next h => exact .inr (.inl h)
        · next h => exact .inr (.inr (.inl h))
        · next l h => exact .inr (.inr (.inr (.inl ⟨l, h⟩)))
        · cases hlasting
        · cases hlasting
      · exact .inr (.inr (.inr (.inr hup)))
  · exact absurd hp (hshown e heb)

/-- A setting to FULL that is carried out leaves FULL; one that is not taken keeps the forms. -/
theorem setFull_cases (s : State) :
    Kept True s (transfer (whenConfigured fun s => s.setParticipation .full) s)
      ∨ (transfer (whenConfigured fun s => s.setParticipation .full) s).al.participation = .full := by
  unfold transfer whenConfigured
  dsimp only
  split
  · exact .inl (kept_activity s)
  · split
    · exact .inl ((kept_activity s).trans (kept_answer _ _))
    · split
      · exact .inr rfl
      · exact .inl ((kept_activity s).trans (kept_respond _ _))

theorem State.finish_participation (s : State) : s.finish.al.participation = s.al.participation := by
  simp [State.finish, (sidelinkOnly_takeHead s).participation]

/-- Settles O28: only a setting to FULL that is carried out ends the silence. -/
theorem listenOnlyPartStaysSilent : Obligations.ListenOnlyPartStaysSilent := by
  intro c s t hstage hpart hcurrent hexec htpart
  have hsilent : s.begin.Silent := ⟨hpart, hstage, hcurrent, rfl⟩
  have hend : t.Silent → t.slc.current = none ∧ t.slc.stage = [] ∧ t.out.air = [] :=
    fun ⟨_, hok, hnone, hair⟩ => ⟨hnone, hok.1.2 hnone, hair⟩
  by_cases hc : ∀ m, c ≠ .powerOnReset m
  · by_cases hfull : c = .setParticipation .full
    · subst hfull
      have hnext : exec (.setParticipation .full) s =
          .next (transfer (whenConfigured fun s => s.setParticipation .full) s.begin).finish := rfl
      cases hexec.symm.trans hnext
      rcases setFull_cases s.begin with hkept | hset
      · exact hend ((hkept.trans (kept_finish _)).silent trivial hsilent)
      · rw [State.finish_participation, hset] at htpart
        cases htpart
    · obtain ⟨u, hnext, -, hkeeps⟩ := completes_exec hc s
      cases hexec.symm.trans hnext
      exact hend (hkeeps.silent hfull hsilent)
  · push Not at hc
    obtain ⟨m, rfl⟩ := hc
    rw [powerOnReset_state hexec]
    exact ⟨rfl, rfl, rfl⟩

end Sys2Proof.Machine
end

section
/-! The byte layouts of chapter 1: what was built is read back. -/

namespace Sys2Proof.Machine

/-! ### Numbers in bytes -/

theorem extractLsb'_append_extractLsb' {w a b : Nat} (v : BitVec w) (h : w = a + b) :
    v.extractLsb' b a ++ v.extractLsb' 0 b = v.cast h := by
  subst h
  refine BitVec.eq_of_getLsbD_eq fun i hi => ?_
  rw [BitVec.getLsbD_append]
  by_cases hlow : i < b
  · simp [hlow]
  · simp only [hlow, decide_false, if_false, BitVec.getLsbD_extractLsb', BitVec.getLsbD_cast]
    have hshift : b + (i - b) = i := by omega
    have hhigh : i - b < a := by omega
    simp [hshift, hhigh]

theorem append_bytes16 (w : BitVec 16) : w.extractLsb' 8 8 ++ w.extractLsb' 0 8 = w :=
  extractLsb'_append_extractLsb' w rfl

theorem append_bytes24 (w : BitVec 24) :
    w.extractLsb' 16 8 ++ w.extractLsb' 8 8 ++ w.extractLsb' 0 8 = w := by
  have hhigh : w.extractLsb' 16 8 ++ w.extractLsb' 8 8 = w.extractLsb' 8 16 := by
    refine BitVec.eq_of_getLsbD_eq fun i hi => ?_
    rw [BitVec.getLsbD_append]
    simp only [BitVec.getLsbD_extractLsb']
    by_cases hlow : i < 8
    · simp [hlow, hi]
    · have : 16 + (i - 8) = 8 + i := by omega
      have : i - 8 < 8 := by omega
      simp [*]
  rw [hhigh]
  exact extractLsb'_append_extractLsb' w rfl

theorem append_bytes32 (w : BitVec 32) :
    w.extractLsb' 24 8 ++ w.extractLsb' 16 8 ++ w.extractLsb' 8 8 ++ w.extractLsb' 0 8 = w := by
  have hhigh : w.extractLsb' 24 8 ++ w.extractLsb' 16 8 ++ w.extractLsb' 8 8 = w.extractLsb' 8 24 := by
    refine BitVec.eq_of_getLsbD_eq fun i hi => ?_
    simp only [BitVec.getLsbD_append, BitVec.getLsbD_extractLsb']
    by_cases hlow : i < 8
    · simp [hlow, hi]
    · by_cases hmid : i - 8 < 8
      · have : 16 + (i - 8) = 8 + i := by omega
        simp [*]
      · have : 24 + (i - 8 - 8) = 8 + i := by omega
        have : i - 8 - 8 < 8 := by omega
        simp [*]
  rw [hhigh]
  exact extractLsb'_append_extractLsb' w rfl

theorem nibbles_toNat {hi lo : Nat} (hhi : hi < 16) (hlo : lo < 16) : (nibbles hi lo).toNat = hi * 16 + lo := by
  unfold nibbles
  rw [BitVec.toNat_ofNat]
  omega

theorem hiNibble_nibbles {hi lo : Nat} (hhi : hi < 16) (hlo : lo < 16) : hiNibble (nibbles hi lo) = hi := by
  unfold hiNibble
  rw [nibbles_toNat hhi hlo]
  omega

theorem loNibble_nibbles {hi lo : Nat} (hhi : hi < 16) (hlo : lo < 16) : loNibble (nibbles hi lo) = lo := by
  unfold loNibble
  rw [nibbles_toNat hhi hlo]
  omega

/-! ### Header segments -/

theorem readZones_flatMap (zones : List ZoneCode) (rest : List Byte) :
    readZones zones.length (zones.flatMap bytes24 ++ rest) = some (zones, rest) := by
  induction zones with
  | nil => rfl
  | cons z zones ih =>
    simp only [List.flatMap_cons, bytes24, List.cons_append, List.nil_append, List.length_cons, readZones]
    rw [append_bytes24]
    exact congrArg _ ih

theorem readTextSpecs_flatMap {texts : List TextSpec} (h : ∀ t ∈ texts, t.count < 256) (rest : List Byte) :
    readTextSpecs texts.length (texts.flatMap textSpecBytes ++ rest) = some (texts, rest) := by
  induction texts with
  | nil => rfl
  | cons t texts ih =>
    obtain ⟨ht, htexts⟩ := List.forall_mem_cons.1 h
    simp only [List.flatMap_cons, textSpecBytes, bytes16, List.cons_append, List.nil_append, List.length_cons,
      readTextSpecs]
    have hcount : (BitVec.ofNat 8 t.count).toNat = t.count := by
      rw [BitVec.toNat_ofNat]
      exact Nat.mod_eq_of_lt ht
    rw [append_bytes16, hcount, ih htexts]
    rfl

theorem readAction_actionBits (a : Action) : readAction (actionBits a) = some a := by cases a <;> rfl

theorem headerOk_iff (h : HeaderSegment) : headerOk h = true ↔
    originatorOk h.id = true ∧ h.lifetime ≠ 0 ∧ 1 ≤ h.zones.length ∧ h.zones.length ≤ 8 ∧ h.texts.length ≤ 4
      ∧ (h.action = .cancel ∨ h.texts.length ≠ 0) ∧ (∀ z ∈ h.zones, zoneOk z = true)
      ∧ ∀ t ∈ h.texts, 1 ≤ t.count ∧ t.count ≤ 8 := by
  simp [headerOk, and_assoc]

/-- A header that passes R4's checks is read back as it was built. -/
theorem readHeader_headerBytes {h : HeaderSegment} (hok : headerOk h = true) (hupdate : h.update < 16)
    (hcategory : h.category < 16) (hhop : h.hop < 8) (hlife : h.lifetime < 65536) :
    readHeader (headerBytes h) = some h := by
  obtain ⟨-, -, -, hzones, htexts, -, -, hcounts⟩ := (headerOk_iff h).1 hok
  have haction : actionBits h.action < 16 := by cases h.action <;> decide
  have hread : readTextSpecs h.texts.length (h.texts.flatMap textSpecBytes) = some (h.texts, []) := by
    have := readTextSpecs_flatMap (texts := h.texts) (fun t ht => by have := hcounts t ht; omega) []
    rwa [List.append_nil] at this
  have hlifetime : (BitVec.ofNat 16 h.lifetime).toNat = h.lifetime := by
    rw [BitVec.toNat_ofNat]
    exact Nat.mod_eq_of_lt hlife
  have hhops : (nibbles h.category h.hop).toNat % 8 = h.hop := by
    rw [nibbles_toNat hcategory (by omega)]
    omega
  simp only [headerBytes, bytes16, List.cons_append, List.nil_append, readHeader]
  simp only [hiNibble_nibbles haction hupdate, loNibble_nibbles haction hupdate,
    hiNibble_nibbles hcategory (show h.hop < 16 by omega),
    hiNibble_nibbles (show h.zones.length < 16 by omega) (show h.texts.length < 16 by omega),
    loNibble_nibbles (show h.zones.length < 16 by omega) (show h.texts.length < 16 by omega),
    readAction_actionBits, readZones_flatMap, hread, append_bytes16, hlifetime, hhops]
  exact if_pos hok

theorem flatMap_length_const {α β : Type} {f : α → List β} {n : Nat} (h : ∀ a, (f a).length = n) (l : List α) :
    (l.flatMap f).length = n * l.length := by
  induction l with
  | nil => rfl
  | cons a l ih =>
    rw [List.flatMap_cons, List.length_append, h, ih, List.length_cons]
    ring

theorem headerBytes_length (h : HeaderSegment) :
    (headerBytes h).length = 9 + 3 * h.zones.length + 3 * h.texts.length := by
  simp only [headerBytes, List.length_append, bytes16, List.length_cons, List.length_nil,
    flatMap_length_const (f := bytes24) (n := 3) fun _ => rfl,
    flatMap_length_const (f := textSpecBytes) (n := 3) fun _ => rfl]

/-- Settles O5. -/
theorem headerSegmentRoundTrip : Obligations.HeaderSegmentRoundTrip := fun h hok hupdate hcategory hhop hlife =>
  ⟨readHeader_headerBytes hok hupdate hcategory hhop hlife, headerBytes_length h⟩

/-! ### Text segments -/

theorem textOk_iff (t : TextSegment) : textOk t = true ↔
    originatorOk t.id = true ∧ 1 ≤ t.count ∧ t.count ≤ 8 ∧ t.index < t.count ∧ 1 ≤ t.payload.length
      ∧ t.payload.length ≤ 96 ∧ (t.index + 1 = t.count ∨ t.payload.length = 96) := by
  simp [textOk, and_assoc]

theorem readText_textBytes {t : TextSegment} (hok : textOk t = true) (hupdate : t.update < 16) (htext : t.text < 4) :
    readText (textBytes t) = some t := by
  obtain ⟨-, -, hcount, hindex, -, hlength, -⟩ := (textOk_iff t).1 hok
  have hlen : (BitVec.ofNat 8 t.payload.length).toNat = t.payload.length := by
    rw [BitVec.toNat_ofNat]
    exact Nat.mod_eq_of_lt (by omega)
  simp only [textBytes, bytes16, List.cons_append, List.nil_append, readText]
  simp only [append_bytes16, hiNibble_nibbles (show t.text < 16 by omega) hupdate,
    loNibble_nibbles (show t.text < 16 by omega) hupdate,
    hiNibble_nibbles (show t.index < 16 by omega) (show t.count < 16 by omega),
    loNibble_nibbles (show t.index < 16 by omega) (show t.count < 16 by omega), Nat.mod_eq_of_lt htext, hlen]
  exact if_pos ⟨trivial, hok⟩

/-! ### Tally segments -/

theorem readTags_flatMap (tags : List Tag) (rest : List Byte) :
    readTags tags.length (tags.flatMap bytes32 ++ rest) = some (tags, rest) := by
  induction tags with
  | nil => rfl
  | cons t tags ih =>
    simp only [List.flatMap_cons, bytes32, List.cons_append, List.nil_append, List.length_cons, readTags]
    rw [append_bytes32]
    exact congrArg _ ih

theorem fromDigits_append (base : Nat) (ds : List Nat) (d : Nat) :
    fromDigits base (ds ++ [d]) = fromDigits base ds * base + d := by
  unfold fromDigits
  rw [List.foldl_append]
  rfl

theorem fromDigits_lt {base : Nat} {ds : List Nat} (h : ∀ d ∈ ds, d < base) :
    fromDigits base ds < base ^ ds.length := by
  induction ds using List.reverseRecOn with
  | nil => exact Nat.one_pos
  | append_singleton ds d ih =>
    have hds := ih fun x hx => h x (List.mem_append_left _ hx)
    have hd : d < base := h d (by simp)
    rw [fromDigits_append, List.length_append, List.length_singleton, pow_succ]
    nlinarith

theorem toDigits_fromDigits {base : Nat} {ds : List Nat} (h : ∀ d ∈ ds, d < base) :
    toDigits base ds.length (fromDigits base ds) = ds := by
  induction ds using List.reverseRecOn with
  | nil => rfl
  | append_singleton ds d ih =>
    have hd : d < base := h d (by simp)
    have hdiv : (fromDigits base ds * base + d) / base = fromDigits base ds := by
      rw [Nat.add_comm, Nat.add_mul_div_right _ _ (by omega), Nat.div_eq_of_lt hd, Nat.zero_add]
    have hmod : (fromDigits base ds * base + d) % base = d := by
      rw [Nat.add_comm, Nat.add_mul_mod_self_right, Nat.mod_eq_of_lt hd]
    rw [fromDigits_append, List.length_append, List.length_singleton, toDigits, hdiv, hmod,
      ih fun x hx => h x (List.mem_append_left _ hx)]

theorem toDigits_length (base k n : Nat) : (toDigits base k n).length = k := by
  induction k generalizing n with
  | zero => rfl
  | succ k ih => rw [toDigits, List.length_append, ih, List.length_singleton]

theorem toDigits_lt {base : Nat} (hbase : 0 < base) {k n d : Nat} (h : d ∈ toDigits base k n) : d < base := by
  induction k generalizing n with
  | zero => cases h
  | succ k ih =>
    rcases List.mem_append.1 h with h | h
    · exact ih h
    · rw [List.mem_singleton.1 h]
      exact Nat.mod_lt _ hbase

theorem fromDigits_toDigits {base : Nat} {k n : Nat} (h : n < base ^ k) :
    fromDigits base (toDigits base k n) = n := by
  induction k generalizing n with
  | zero =>
    rw [pow_zero] at h
    exact (Nat.lt_one_iff.1 h).symm
  | succ k ih =>
    rw [toDigits, fromDigits_append, ih (Nat.div_lt_of_lt_mul (by rwa [pow_succ'] at h))]
    exact Nat.div_add_mod' n base

theorem map_ofNat_toNat {l : List Nat} (h : ∀ d ∈ l, d < 256) : (l.map (BitVec.ofNat 8)).map BitVec.toNat = l := by
  rw [List.map_map]
  conv_rhs => rw [← List.map_id l]
  refine List.map_congr_left fun d hd => ?_
  rw [Function.comp_apply, BitVec.toNat_ofNat]
  exact Nat.mod_eq_of_lt (h d hd)

/-- 32 ranks of 5 bits each lie in 20 bytes. -/
theorem readRanks_rankBytes {ranks : List Nat} (hlength : ranks.length = 32) (h : ∀ r ∈ ranks, r ≤ 16) :
    readRanks (rankBytes ranks) = ranks := by
  have hsmall : ∀ r ∈ ranks, r < 32 := fun r hr => by have := h r hr; omega
  have hlt : fromDigits 32 ranks < 256 ^ 20 := by
    have := fromDigits_lt hsmall
    rw [hlength] at this
    norm_num at this ⊢
    exact this
  unfold readRanks rankBytes
  rw [map_ofNat_toNat fun d hd => toDigits_lt (by decide) hd, fromDigits_toDigits hlt]
  have := toDigits_fromDigits hsmall
  rwa [hlength] at this

theorem readTally_tallyBytes {t : TallySegment} (hid : originatorOk t.id = true) (hok : tallyOk t.tally = true) :
    readTally (tallyBytes t) = some t := by
  obtain ⟨id, tally⟩ := t
  dsimp only at hid hok
  cases tally with
  | list tags =>
    have hlength : tags.length ≤ 24 := by
      simp only [tallyOk, Bool.and_eq_true, decide_eq_true_eq] at hok
      exact hok.1.1
    have hcount : (BitVec.ofNat 8 tags.length).toNat = tags.length := by
      rw [BitVec.toNat_ofNat]
      exact Nat.mod_eq_of_lt (by omega)
    have hread : readTags tags.length (tags.flatMap bytes32) = some (tags, []) := by
      have := readTags_flatMap tags []
      rwa [List.append_nil] at this
    simp only [tallyBytes, bytes16, List.cons_append, List.nil_append, readTally, append_bytes16, hcount,
      if_pos (show tags.length < 128 by omega), Nat.mod_eq_of_lt (show tags.length < 32 by omega), hread, hid, hok,
      Bool.and_self, if_true]
  | sketch ranks floor =>
    obtain ⟨⟨hfloor, hlength⟩, hranks⟩ : (floor ≤ 25 ∧ ranks.length = 32) ∧ ∀ r ∈ ranks, r ≤ 16 := by
      simpa [tallyOk] using hok
    have hcount : (BitVec.ofNat 8 (128 + floor)).toNat = 128 + floor := by
      rw [BitVec.toNat_ofNat]
      exact Nat.mod_eq_of_lt (by omega)
    have hbytes : (rankBytes ranks).length = 20 := by
      unfold rankBytes
      rw [List.length_map, toDigits_length]
    have hmod : (128 + floor) % 32 = floor := by omega
    simp only [tallyBytes, bytes16, List.cons_append, List.nil_append, readTally, append_bytes16, hcount,
      if_neg (show ¬ 128 + floor < 128 by omega), hbytes, if_true, hmod, readRanks_rankBytes hlength hranks, hid, hok,
      Bool.and_self]

/-- Settles O6. -/
theorem textAndTallySegmentRoundTrip : Obligations.TextAndTallySegmentRoundTrip :=
  ⟨fun t hok hupdate htext => ⟨readText_textBytes hok hupdate htext, by
    simp [textBytes, bytes16]
    omega⟩, fun _ hid hok => readTally_tallyBytes hid hok⟩

/-! ### The relayed header (R133) -/

/-- Settles O8: the fields are the entry's, and at least a minute remains. -/
theorem relayedHeaderIsWellFormed : Obligations.RelayedHeaderIsWellFormed := by
  intro e now hid hupdate hcategory hhop hhop' hzones hzones' hzonesOk htexts haction hcounts hleft hend h
  have hlifetime : h.lifetime = e.remaining now / 60 := rfl
  have hremaining : e.remaining now ≤ 86400 := by
    unfold Entry.remaining
    split
    · exact Nat.zero_le _
    · have : (seconds 86400 : Nat) = 86400 * 1000000 := rfl
      have hend' : (e.lifetimeEnd : Nat) ≤ now + 86400 * 1000000 := hend
      show (e.lifetimeEnd - now : Nat) / 1000000 ≤ 86400
      simp only [Micros] at *
      omega
  have hok : headerOk h = true := by
    refine (headerOk_iff h).2 ⟨hid, by omega, hzones, hzones', ?_, ?_, hzonesOk, ?_⟩
    · exact (List.length_map _).trans_le htexts
    · show e.action = .cancel ∨ (e.texts.map _).length ≠ 0
      rw [List.length_map]
      cases ha : e.action with
      | alert => exact .inr (by simpa using haction ha)
      | cancel => exact .inl rfl
    · intro t ht
      obtain ⟨x, hx, rfl⟩ := List.mem_map.1 ht
      exact hcounts x hx
  have hhops : h.hop = e.relay.hop - 1 := rfl
  refine ⟨readHeader_headerBytes hok hupdate hcategory ?_ ?_, ?_, ?_, ?_, ?_, ?_, rfl, rfl, rfl, rfl, rfl, rfl⟩ <;>
    omega

end Sys2Proof.Machine
end

section
/-! The frame check (R10): it is linear, so that a difference of one byte is never lost, and it shifts itself out. -/

namespace Sys2Proof.Machine

/-! ### One bit and one byte -/

theorem crcBit_eq (r : BitVec 16) (b : Bool) :
    crcBit r b = (r <<< 1) ^^^ if (r.msb ^^ b) = true then 0x1021#16 else 0#16 := by
  unfold crcBit
  split
  · rfl
  · exact (BitVec.xor_zero).symm

/-- The register is linear in register and bit. -/
theorem crcBit_xor (r r' : BitVec 16) (b b' : Bool) :
    crcBit (r ^^^ r') (b ^^ b') = crcBit r b ^^^ crcBit r' b' := by
  have hshift : (r ^^^ r') <<< 1 = (r <<< 1) ^^^ (r' <<< 1) := BitVec.shiftLeft_xor_distrib r r' 1
  have hmask : (if ((r ^^^ r').msb ^^ (b ^^ b')) = true then 0x1021#16 else 0#16) =
      (if (r.msb ^^ b) = true then 0x1021#16 else 0#16) ^^^ if (r'.msb ^^ b') = true then 0x1021#16 else 0#16 := by
    rw [BitVec.msb_xor]
    cases r.msb <;> cases r'.msb <;> cases b <;> cases b' <;> rfl
  rw [crcBit_eq, crcBit_eq, crcBit_eq, hshift, hmask]
  ac_rfl

theorem crcBits_xor (l : List Nat) (r r' : BitVec 16) (b b' : Byte) :
    l.foldl (fun x i => crcBit x ((b ^^^ b').getLsbD i)) (r ^^^ r') =
      l.foldl (fun x i => crcBit x (b.getLsbD i)) r ^^^ l.foldl (fun x i => crcBit x (b'.getLsbD i)) r' := by
  induction l generalizing r r' with
  | nil => rfl
  | cons i l ih => rw [List.foldl_cons, List.foldl_cons, List.foldl_cons, BitVec.getLsbD_xor, crcBit_xor, ih]

theorem crcByte_xor (r r' : BitVec 16) (b b' : Byte) :
    crcByte (r ^^^ r') (b ^^^ b') = crcByte r b ^^^ crcByte r' b' := crcBits_xor _ r r' b b'

/-- A register that a 0 bit clears was clear: the polynomial's lowest bit is 1. -/
theorem crcBit_false_eq_zero {r : BitVec 16} (h : crcBit r false = 0#16) : r = 0#16 := by
  have hlow : (crcBit r false).getLsbD 0 = r.msb := by
    rw [crcBit_eq, Bool.xor_false, BitVec.getLsbD_xor]
    cases r.msb <;> simp
  have hmsb : r.msb = false := by
    rw [← hlow, h]
    rfl
  rw [crcBit_eq, hmsb] at h
  have hshift : r <<< 1 = 0#16 := by simpa using h
  have hlt : r.toNat < 2 ^ 15 := by
    rw [BitVec.msb_eq_decide] at hmsb
    simpa using hmsb
  have htoNat := congrArg BitVec.toNat hshift
  rw [BitVec.toNat_shiftLeft, Nat.shiftLeft_eq, Nat.mod_eq_of_lt (by omega)] at htoNat
  exact BitVec.eq_of_toNat_eq (by simpa using htoNat)

theorem crcByte_zero_eq_zero {r : BitVec 16} (h : crcByte r 0 = 0#16) : r = 0#16 := by
  have hbits (l : List Nat) (r : BitVec 16) :
      l.foldl (fun x i => crcBit x ((0 : Byte).getLsbD i)) r = 0#16 → r = 0#16 := by
    induction l generalizing r with
    | nil => exact id
    | cons i l ih =>
      intro hfold
      rw [List.foldl_cons] at hfold
      have hbit := ih _ hfold
      rw [show (0 : Byte).getLsbD i = false from BitVec.getLsbD_zero] at hbit
      exact crcBit_false_eq_zero hbit
  exact hbits _ r h

/-- No byte but 0 clears a clear register. -/
theorem crcByte_of_zero_ne_zero : ∀ d : Byte, d ≠ 0 → crcByte 0 d ≠ 0#16 := by decide

/-! ### One wrong byte -/

theorem crcByte_ne_of_byte_ne (r : BitVec 16) {a b : Byte} (h : a ≠ b) : crcByte r a ≠ crcByte r b := by
  intro heq
  refine crcByte_of_zero_ne_zero (a ^^^ b) (fun hz => h (BitVec.xor_eq_zero_iff.1 hz)) ?_
  have := crcByte_xor r r a b
  rwa [heq, BitVec.xor_self, BitVec.xor_self] at this

theorem crcByte_ne_of_register_ne {r r' : BitVec 16} (c : Byte) (h : r ≠ r') : crcByte r c ≠ crcByte r' c := by
  intro heq
  refine h (BitVec.xor_eq_zero_iff.1 (crcByte_zero_eq_zero ?_))
  have := crcByte_xor r r' c c
  rwa [heq, BitVec.xor_self, BitVec.xor_self] at this

theorem foldl_crcByte_ne {r r' : BitVec 16} (l : List Byte) (h : r ≠ r') : l.foldl crcByte r ≠ l.foldl crcByte r' := by
  induction l generalizing r r' with
  | nil => exact h
  | cons c l ih => exact ih (crcByte_ne_of_register_ne c h)

theorem crc_ne_of_byte_ne (before after : List Byte) {a b : Byte} (h : a ≠ b) :
    crc (before ++ a :: after) ≠ crc (before ++ b :: after) := by
  unfold crc
  rw [List.foldl_append, List.foldl_append]
  exact foldl_crcByte_ne after (crcByte_ne_of_byte_ne _ h)

/-! ### The check behind its bytes -/

/-- The register's own highest bit is shifted out. -/
theorem crcBit_msb (r : BitVec 16) : crcBit r r.msb = r <<< 1 := by
  rw [crcBit_eq, Bool.xor_self]
  exact BitVec.xor_zero

theorem crcBit_shifted (r : BitVec 16) {k : Nat} (hk : k < 8) :
    crcBit (r <<< k) ((r.extractLsb' 8 8).getLsbD (7 - k)) = r <<< (k + 1) := by
  have hbit : (r.extractLsb' 8 8).getLsbD (7 - k) = (r <<< k).msb := by
    rw [BitVec.msb_eq_getLsbD_last, BitVec.getLsbD_shiftLeft, BitVec.getLsbD_extractLsb']
    have hindex : 8 + (7 - k) = 16 - 1 - k := by omega
    have h7 : 7 - k < 8 := by omega
    have h15 : ¬ 15 < k := by omega
    simp [hindex, h7, h15]
  rw [hbit, crcBit_msb, ← BitVec.shiftLeft_add]

/-- The register's own high byte is shifted out. -/
theorem crcByte_high (r : BitVec 16) : crcByte r (r.extractLsb' 8 8) = r <<< 8 := by
  have h0 := crcBit_shifted r (k := 0) (by decide)
  rw [BitVec.shiftLeft_zero] at h0
  have h1 := crcBit_shifted r (k := 1) (by decide)
  have h2 := crcBit_shifted r (k := 2) (by decide)
  have h3 := crcBit_shifted r (k := 3) (by decide)
  have h4 := crcBit_shifted r (k := 4) (by decide)
  have h5 := crcBit_shifted r (k := 5) (by decide)
  have h6 := crcBit_shifted r (k := 6) (by decide)
  have h7 := crcBit_shifted r (k := 7) (by decide)
  simp only [Nat.reduceSub, Nat.reduceAdd] at h0 h1 h2 h3 h4 h5 h6 h7
  simp only [crcByte, List.foldl_cons, List.foldl_nil, h0, h1, h2, h3, h4, h5, h6, h7]

theorem crc_append_check (bytes : List Byte) : crc (bytes ++ bytes16 (crc bytes)) = 0 := by
  have hlow : (crc bytes).extractLsb' 0 8 = ((crc bytes) <<< 8).extractLsb' 8 8 := by
    refine BitVec.eq_of_getLsbD_eq fun i hi => ?_
    simp only [BitVec.getLsbD_extractLsb', BitVec.getLsbD_shiftLeft]
    have h16 : 8 + i < 16 := by omega
    simp [h16]
  have happend : crc (bytes ++ bytes16 (crc bytes)) =
      crcByte (crcByte (crc bytes) ((crc bytes).extractLsb' 8 8)) ((crc bytes).extractLsb' 0 8) := by
    rw [crc, List.foldl_append]
    rfl
  rw [happend, crcByte_high, hlow, crcByte_high, ← BitVec.shiftLeft_add]
  exact BitVec.shiftLeft_eq_zero (by decide)

/-! ### Frames -/

theorem frameCovered_middle (kind : Byte) (sender : Tag) (before after : List Byte) (a : Byte) :
    frameCovered kind sender (before ++ a :: after) =
      (kind :: bytes32 sender ++ BitVec.ofNat 8 (before.length + (after.length + 1)) :: before) ++ a :: after := by
  unfold frameCovered
  rw [List.length_append, List.length_cons]
  simp

/-- Settles O7. -/
theorem frameCheckDetectsOneWrongByte : Obligations.FrameCheckDetectsOneWrongByte := by
  refine ⟨fun before after a b h => crc_ne_of_byte_ne before after h, crc_append_check,
    fun kind tag before after a b h => ⟨by simp [frameCheckOk, makeFrame], ?_⟩⟩
  unfold frameCheckOk makeFrame
  dsimp only
  rw [frameCovered_middle, frameCovered_middle, beq_eq_false_iff_ne]
  exact crc_ne_of_byte_ne _ after h

end Sys2Proof.Machine
end

section
/-! The end of an event as the statements describe it: R90 takes the head, R172 sends a report, R113 and R117 settle
the power state. -/

namespace Sys2Proof.Machine

/-! ### The entry that a job names -/

/-- The table with the entry of an identity changed. -/
def namedTable (table : List TableSlot) (id : Identity) (f : Entry → Entry) : List TableSlot :=
  match table.findIdx? fun sl => sl.entry.any fun e => e.id == id with
  | some i => table.modify i fun sl => { sl with entry := sl.entry.map f }
  | none => table

theorem State.modifyNamed_eq (s : State) (job : Job) (f : Entry → Entry) :
    s.modifyNamed job f = s.withTable (namedTable s.atc.table job.id f) := by
  unfold State.modifyNamed namedTable State.slotOf
  cases s.atc.table.findIdx? _ <;> rfl

theorem State.relayReport_eq_modifyNamed (s : State) (job : Job) (follows : RelayState → Bool) (next : RelayState) :
    s.relayReport job follows next = s.modifyNamed job fun e =>
      if job.update = some e.relay.update ∧ follows e.relay.state = true then
        { e with relay := { e.relay with state := next } }
      else e := by
  unfold State.relayReport State.modifyNamed
  cases s.slotOf job.id <;> rfl

theorem State.tallyReport_eq_modifyNamed (s : State) (job : Job) (follows : TallySendState → Bool)
    (f : TallySend → TallySend) :
    s.tallyReport job follows f = s.modifyNamed job fun e =>
      if follows e.tallySend.state = true then { e with tallySend := f e.tallySend } else e := by
  unfold State.tallyReport State.modifyNamed
  cases s.slotOf job.id <;> rfl

theorem State.reportStaged_eq (s : State) (job : Job) : s.reportStaged job = s.modifyNamed job (stagedBy job) := by
  unfold State.reportStaged
  cases hkind : job.kind with
  | relay =>
    dsimp only
    rw [State.relayReport_eq_modifyNamed]
    congr 1
    funext e
    simp only [stagedBy, hkind, beq_iff_eq]
  | tally =>
    dsimp only
    rw [State.tallyReport_eq_modifyNamed]
    congr 1
    funext e
    simp only [stagedBy, hkind, beq_iff_eq]

/-- A RELAY job whose entry has less than a minute left (R133). -/
theorem State.tooLate_iff {s : State} {job : Job} : s.tooLate job = true ↔
    job.kind = .relay ∧ ∃ i e, s.slotOf job.id = some i ∧ s.entryAt i = some e ∧ e.remaining s.now < 60 := by
  simp only [State.tooLate, Bool.and_eq_true, beq_iff_eq, Option.any_eq_true, State.entryOf,
    Option.bind_eq_some_iff, decide_eq_true_eq]
  refine and_congr_right fun _ => ⟨?_, ?_⟩
  · rintro ⟨e, ⟨i, hi, he⟩, hleft⟩
    exact ⟨i, e, hi, he, hleft⟩
  · rintro ⟨i, e, hi, he, hleft⟩
    exact ⟨e, ⟨i, hi, he⟩, hleft⟩

/-! ### DEFER entered (R92, R106) -/

theorem State.gapComplete_of_some {s : State} {q : Micros} (h : s.slc.quietSince = some q) :
    s.gapComplete = decide (q + 2000 ≤ s.now) := by
  unfold State.gapComplete
  rw [h]

theorem State.gapComplete_eq_false {s : State} (h : ∀ q, s.slc.quietSince = some q → s.now < q + 2000) :
    s.gapComplete = false := by
  cases hq : s.slc.quietSince with
  | none =>
    unfold State.gapComplete
    rw [hq]
  | some q =>
    rw [State.gapComplete_of_some hq]
    exact decide_eq_false (Nat.not_le_of_lt (h q hq))

theorem State.busySince_of_gap {s : State} (h : s.gapComplete = false) : s.busySince = s.slc.busyStart := by
  unfold State.busySince
  rw [h]
  rfl

theorem millis_eq (n : Nat) : millis n = 1000 * n := by
  show n * 1000 = 1000 * n
  exact Nat.mul_comm n 1000

theorem seconds_eq (n : Nat) : seconds n = 1000000 * n := by
  show n * 1000000 = 1000000 * n
  exact Nat.mul_comm n 1000000

theorem State.jamReached_iff {s : State} (h : s.gapComplete = false) :
    s.jamReached = true ↔ ∃ b, s.slc.busyStart = some b ∧ b + 1000 * s.settings.holdLimit ≤ s.now := by
  unfold State.jamReached
  rw [State.busySince_of_gap h]
  cases s.slc.busyStart with
  | none => simp
  | some b => simp [millis_eq]

/-- A contention slot whose key bit is 1 is a mark tone (R94). -/
theorem State.beginSlot_tone {s : State} {key : BitVec 16} {slot : Nat} (h : key.getLsbD (16 - slot) = true) :
    s.beginSlot key slot = { s with
      slc := { s.slc with medium := .contend key slot (s.now + 100), quietSince := none }
      out := { s.out with air := s.out.air ++ [.markTone slot] } } :=
  if_pos h

/-- A contention slot whose key bit is 0 is listened in (R94). -/
theorem State.beginSlot_listens {s : State} {key : BitVec 16} {slot : Nat} (h : key.getLsbD (16 - slot) = false) :
    s.beginSlot key slot = { s with
      slc := { s.slc with
        medium := .contend key slot (s.now + 100), quietSince := some (s.slc.quietSince.getD s.now) } } :=
  if_neg (by rw [Medium.sending, h]; nofun)

/-- Contention begins with its first slot (R92 to R94). -/
theorem State.beginContention_eq {s : State} {q : Micros} {c : CurrentJob} {f : Frame} {frames : List Frame}
    (hq : s.slc.quietSince = some q) (hcurrent : s.slc.current = some c) (hstage : s.slc.stage = f :: frames)
    {key : BitVec 16} (hkey : key = contentionKey s.settings.tag c.job.precedence (4 - f.kind.toNat) s.slc.losses) :
    s.beginContention = { s with
      slc := { s.slc with
        medium := .contend key 1 (s.now + 100), busyStart := none
        quietSince := if key.getLsbD 15 then none else some q }
      out := { s.out with air := s.out.air ++ if key.getLsbD 15 then [.markTone 1] else [] } } := by
  have hformed : contentionKey s.settings.tag ((s.slc.current.map fun c => c.job.precedence).getD 0)
      (stageClass s.slc.stage) s.slc.losses = key := by
    rw [hkey, hcurrent, hstage]
    rfl
  unfold State.beginContention
  dsimp only
  rw [hformed]
  cases hbit : key.getLsbD 15
  · rw [State.beginSlot_listens hbit]
    simp only [State.withSlc, hq, Option.getD_some, Bool.false_eq_true, if_false, List.append_nil]
  · rw [State.beginSlot_tone hbit]
    rfl

/-- After a complete gap contention begins (R92). -/
theorem State.enterDefer_of_gap {s : State} {q : Micros} {c : CurrentJob} {f : Frame} {frames : List Frame}
    (hq : s.slc.quietSince = some q) (hgap : q + 2000 ≤ s.now) (hcurrent : s.slc.current = some c)
    (hstage : s.slc.stage = f :: frames) {key : BitVec 16}
    (hkey : key = contentionKey s.settings.tag c.job.precedence (4 - f.kind.toNat) s.slc.losses) :
    s.enterDefer = { s with
      slc := { s.slc with
        medium := .contend key 1 (s.now + 100), busyStart := none
        quietSince := if key.getLsbD 15 then none else some q }
      out := { s.out with air := s.out.air ++ if key.getLsbD 15 then [.markTone 1] else [] } } := by
  have hcomplete : (s.withMedium .defer).gapComplete = true := by
    rw [State.gapComplete_of_some (s := s.withMedium .defer) hq]
    exact decide_eq_true hgap
  unfold State.enterDefer
  dsimp only
  rw [if_pos hcomplete, State.beginContention_eq (s := s.withMedium .defer) hq hcurrent hstage hkey]
  rfl

theorem State.enterDefer_waits {s : State} (hgap : ∀ q, s.slc.quietSince = some q → s.now < q + 2000)
    (hbusy : ∀ b, s.slc.busyStart = some b → s.now < b + 1000 * s.settings.holdLimit) :
    s.enterDefer = { s with slc := { s.slc with medium := .defer } } := by
  have hcomplete : (s.withMedium .defer).gapComplete = false := State.gapComplete_eq_false hgap
  have hjam : (s.withMedium .defer).jamReached = false := by
    rw [Bool.eq_false_iff, Ne, State.jamReached_iff hcomplete]
    rintro ⟨b, hb, hle⟩
    exact Nat.not_le_of_lt (hbusy b hb) hle
  unfold State.enterDefer
  dsimp only
  rw [hcomplete, hjam]
  rfl

theorem State.enterDefer_jams {s : State} {b : Micros} (hgap : ∀ q, s.slc.quietSince = some q → s.now < q + 2000)
    (hb : s.slc.busyStart = some b) (hle : b + 1000 * s.settings.holdLimit ≤ s.now) :
    s.enterDefer = State.queueNotice { s with slc := { s.slc with medium := .jammed } } .mediumJammed := by
  have hcomplete : (s.withMedium .defer).gapComplete = false := State.gapComplete_eq_false hgap
  have hjam : (s.withMedium .defer).jamReached = true := (State.jamReached_iff hcomplete).2 ⟨b, hb, hle⟩
  unfold State.enterDefer
  dsimp only
  rw [hcomplete, hjam]
  rfl

/-! ### The head taken (R90) -/

theorem State.mayTakeHead_iff {s : State} : s.mayTakeHead = true ↔
    s.slc.current = none ∧ s.slc.stage = [] ∧ s.al.participation = .full ∧ s.slc.medium ≠ .off
      ∧ s.slc.medium ≠ .dozeSampling := by
  have hmeasures : s.slc.medium.measures = true ↔ s.slc.medium ≠ .off ∧ s.slc.medium ≠ .dozeSampling := by
    cases s.slc.medium <;> simp [Medium.measures]
  simp only [State.mayTakeHead, Bool.and_eq_true, hmeasures, State.fullPart, beq_iff_eq, Option.isNone_iff_eq_none,
    List.isEmpty_iff]
  tauto

theorem State.withQueue_self {s : State} {q : List Job} (h : s.slc.queue = q) : s.withQueue q = s := by
  subst h
  rfl

theorem State.takeHead_of_noHeadTaken {m : State} (h : m.noHeadTaken) : m.takeHead = m := by
  unfold State.takeHead
  split
  · next hmay =>
    obtain ⟨hcurrent, hstage, hpart, hoff, hdoze⟩ := State.mayTakeHead_iff.1 hmay
    rcases h with h | h | h | h | h | h
    · simp [hcurrent] at h
    · exact absurd hstage h
    · rw [h]
      exact State.withQueue_self h
    · rw [hpart] at h
      cases h
    · exact absurd h hoff
    · exact absurd h hdoze
  · rfl

/-- The state in which `stageFirst` leaves the queue's head as the current job, before DEFER is entered. -/
theorem State.stageFirst_eq (s : State) (job : Job) : s.stageFirst job =
    (let u := (s.stageBurst ⟨job, job.frames, false, false⟩).modifyNamed job (stagedBy job)
    if s.slc.medium = .idle then u.enterDefer else u) := by
  unfold State.stageFirst
  dsimp only
  rw [State.reportStaged_eq, State.modifyNamed_eq]
  rfl

/-- The head with its first burst, as R90 makes it the current job of `m`. -/
def Slc.taken (slc : Slc) (job : Job) (rest : List Job) (stage : List Frame) : Slc :=
  { slc with queue := rest, current := some ⟨job, job.frames.drop 6, false, false⟩, stage := stage, losses := 0 }

/-- A head whose first burst can be built is staged (R90, R91). -/
theorem State.takeFrom_staged {m : State} {job : Job} {rest : List Job} {f : Frame} {frames : List Frame}
    (hlate : m.tooLate job = false) (hburst : m.buildBurst job.id (job.frames.take 6) = f :: frames) :
    m.takeFrom (job :: rest) =
      (let u := State.modifyNamed { m with slc := m.slc.taken job rest (f :: frames) } job (stagedBy job)
      if m.slc.medium = .idle then u.enterDefer else u) := by
  rw [State.takeFrom, hlate, hburst]
  show (m.withQueue rest).stageFirst job = _
  have hstage : (m.withQueue rest).stageBurst ⟨job, job.frames, false, false⟩ =
      { m with slc := m.slc.taken job rest (f :: frames) } := by
    rw [← hburst]
    rfl
  rw [State.stageFirst_eq, hstage]
  rfl

theorem State.takesHead_takeFrom (m : State) : m.TakesHead (.next (m.takeFrom m.slc.queue)) := by
  intro job rest hqueue late
  rw [hqueue]
  refine ⟨?_, ?_⟩
  · intro hlate hrest
    subst hrest
    have htoo : m.tooLate job = true := State.tooLate_iff.2 hlate
    rw [State.takeFrom, htoo]
    simp only [Bool.true_or, if_true, State.takeFrom, State.giveUpAtStaging, hlate.1]
    rw [State.relayReport_eq_modifyNamed, State.modifyNamed_eq, State.modifyNamed_eq]
    simp only [beq_iff_eq]
    rfl
  · intro f frames hnot hburst slc
    have htoo : m.tooLate job = false := Bool.eq_false_iff.2 (mt State.tooLate_iff.1 hnot)
    rw [State.takeFrom_staged htoo hburst]
    dsimp only
    refine ⟨?_, ?_, ?_⟩
    · intro hmedium
      rw [if_neg (by rcases hmedium with h | h <;> rw [h] <;> nofun)]
      rfl
    · intro q hidle hq hgap
      rw [if_pos hidle, State.modifyNamed_eq, State.modifyNamed_eq, State.enterDefer_of_gap]
      · rfl
      · exact hq
      · exact hgap
      · rfl
      · rfl
      · rfl
    · intro hidle hgap
      refine ⟨?_, ?_⟩
      · intro hbusy
        rw [if_pos hidle, State.modifyNamed_eq, State.modifyNamed_eq, State.enterDefer_waits]
        · rfl
        · exact hgap
        · exact hbusy
      · intro b hb hle
        rw [if_pos hidle, State.modifyNamed_eq, State.modifyNamed_eq, State.enterDefer_jams]
        · rfl
        · exact hgap
        · exact hb
        · exact hle

/-- R90 at the end of an event. -/
theorem State.endsWithHead_takeHead (m : State) : m.EndsWithHead (.next m.takeHead) := by
  refine ⟨fun h => by rw [State.takeHead_of_noHeadTaken h], fun hcurrent hstage hpart hoff hdoze => ?_⟩
  rw [State.takeHead, if_pos (State.mayTakeHead_iff.2 ⟨hcurrent, hstage, hpart, hoff, hdoze⟩)]
  exact m.takesHead_takeFrom

/-! ### The report sent (R172) -/

theorem State.maySendReport_iff {s : State} : s.maySendReport = true ↔
    s.tu.reportQueue ≠ [] ∧ s.fp.coverage = true ∧ s.fp.blocked = false ∧ s.fp.modemReady = true
      ∧ s.tu.outstanding = none := by
  simp only [State.maySendReport, Bool.and_eq_true, Bool.not_eq_true', Option.isNone_iff_eq_none,
    List.isEmpty_eq_false_iff]
  tauto

theorem State.sendReport_of_closed {u : State} (h : u.tu.reportQueue = [] ∨ u.fp.coverage = false
    ∨ u.fp.blocked = true ∨ u.fp.modemReady = false ∨ u.tu.outstanding.isSome = true) : u.sendReport = u := by
  refine if_neg fun hmay => ?_
  obtain ⟨hqueue, hcoverage, hblocked, hready, hnone⟩ := State.maySendReport_iff.1 hmay
  rcases h with h | h | h | h | h
  · exact hqueue h
  · simp [hcoverage] at h
  · simp [hblocked] at h
  · simp [hready] at h
  · simp [hnone] at h

/-- The state after the report of the entry `f` of slot `j` was sent. -/
def State.reported (u : State) (j : Nat) (f : Entry) (rest : List Nat) : State :=
  { u with
    pwc :=
      match u.pwc.power with
      | .awake => { u.pwc with hold := .running (u.now + 1000000 * u.settings.awakeHold) }
      | .doze => u.pwc
    tu := ⟨rest, some ⟨f.id, ⟨j, u.genAt j⟩, tallyCount f.tally, u.now + 10000000⟩⟩
    out := { u.out with feed := some (reportBytes (tallyCount f.tally) ⟨f.id, f.tally⟩) } }

theorem State.sendReport_of_open {u : State} {j : Nat} {f : Entry} {rest : List Nat} (hconfig : u.configured = true)
    (hqueue : u.tu.reportQueue = j :: rest) (hentry : u.entryAt j = some f) (hcoverage : u.fp.coverage = true)
    (hblocked : u.fp.blocked = false) (hready : u.fp.modemReady = true) (hnone : u.tu.outstanding = none) :
    u.sendReport = u.reported j f rest := by
  have hmay : u.maySendReport = true :=
    State.maySendReport_iff.2 ⟨by rw [hqueue]; nofun, hcoverage, hblocked, hready, hnone⟩
  rw [State.sendReport, if_pos hmay, hqueue, State.sendFrom, hentry]
  dsimp only
  unfold State.sendReportOf State.reported
  dsimp only [State.withTu]
  cases hpower : u.pwc.power with
  | awake =>
    have hconfig' {x : Tu} {o : Outputs} : State.configured { u with tu := x, out := o } = true := hconfig
    simp only [State.restartHold, hconfig', if_true, State.withHold, seconds_eq, hpower]
    rfl
  | doze => rfl

/-- The report goes out and its answer is waited for, whatever becomes of the awake hold (R172). -/
theorem State.sendReport_reports {u : State} {j : Nat} {f : Entry} {rest : List Nat}
    (hqueue : u.tu.reportQueue = j :: rest) (hentry : u.entryAt j = some f) (hcoverage : u.fp.coverage = true)
    (hblocked : u.fp.blocked = false) (hready : u.fp.modemReady = true) (hnone : u.tu.outstanding = none) :
    u.sendReport.tu = ⟨rest, some ⟨f.id, ⟨j, u.genAt j⟩, tallyCount f.tally, u.now + 10000000⟩⟩
      ∧ u.sendReport.out.feed = some (reportBytes (tallyCount f.tally) ⟨f.id, f.tally⟩) := by
  have hmay : u.maySendReport = true :=
    State.maySendReport_iff.2 ⟨by rw [hqueue]; nofun, hcoverage, hblocked, hready, hnone⟩
  rw [State.sendReport, if_pos hmay, hqueue, State.sendFrom, hentry]
  dsimp only
  unfold State.sendReportOf
  dsimp only
  split
  · rw [State.restartHold_eq]
    exact ⟨rfl, rfl⟩
  · exact ⟨rfl, rfl⟩

theorem State.endsWithHeadAndReport (m : State) (hconfig : m.configured = true) :
    m.EndsWithHeadAndReport (.next m.takeHead.sendReport) := by
  have honly := sidelinkOnly_takeHead m
  refine ⟨m.takeHead, m.endsWithHead_takeHead, fun hclosed => ?_,
    fun j f rest hqueue hentry hcoverage hblocked hready hnone => ?_⟩
  · rw [State.sendReport_of_closed (by rw [honly.tu, honly.fp]; exact hclosed)]
  · rw [State.sendReport_of_open (u := m.takeHead) (by rw [State.configured, honly.config]; exact hconfig)
      (by rw [honly.tu]; exact hqueue) hentry (by rw [honly.fp]; exact hcoverage) (by rw [honly.fp]; exact hblocked)
      (by rw [honly.fp]; exact hready) (by rw [honly.tu]; exact hnone)]
    rfl

/-! ### The power state settled (R113, R117) -/

theorem State.mayDoze_of_keepsPower {m : State} (h : m.keepsPower) : m.mayDoze = false := by
  rcases h with ⟨-, hhold⟩ | ⟨hpower, -⟩
  · simp [State.mayDoze, hhold]
  · simp [State.mayDoze, hpower]

theorem State.settlePower_of_keepsPower {m : State} (h : m.keepsPower) : m.settlePower = m := by
  rcases m.settlePower_cases with ⟨hdoze, -⟩ | ⟨-, -, hs⟩ | ⟨-, -, hs⟩
  · rw [State.mayDoze_of_keepsPower h] at hdoze
    cases hdoze
  · exact hs
  · rw [hs, State.wakeCause_self]
    exact h.imp And.left And.right

/-- Power Control that rests stays at rest when a report is sent. -/
theorem State.keepsPower_sendReport {u : State} (h : u.keepsPower) : u.sendReport.keepsPower := by
  have hfrom (l : List Nat) : (u.sendFrom l).keepsPower := by
    induction l with
    | nil => exact h
    | cons i rest ih =>
      unfold State.sendFrom
      split
      · exact ih
      · unfold State.sendReportOf
        dsimp only
        split
        · next hpower =>
          rcases h with ⟨-, hhold⟩ | ⟨hdoze, -⟩
          · unfold State.restartHold
            split
            · exact .inl ⟨hpower, nofun⟩
            · exact .inl ⟨hpower, hhold⟩
          · have hawake : u.pwc.power = .awake := hpower
            rw [hdoze] at hawake
            cases hawake
        · exact h
  unfold State.sendReport
  split
  · exact hfrom _
  · exact h

theorem State.keepsPower_congr {s t : State} (h : t.pwc = s.pwc) (hs : s.keepsPower) : t.keepsPower := by
  unfold State.keepsPower
  rw [h]
  exact hs

theorem State.finish_of_keepsPower {m : State} (h : m.keepsPower) : m.finish = m.takeHead.sendReport :=
  State.settlePower_of_keepsPower
    (State.keepsPower_sendReport (State.keepsPower_congr (sidelinkOnly_takeHead m).pwc h))

/-- The end of an event of a configured part. -/
theorem State.endsEvent_finish (m : State) (hconfig : m.configured = true) : m.EndsEvent (.next m.finish) := by
  refine ⟨m.takeHead.sendReport, m.finish, m.endsWithHeadAndReport hconfig, rfl, State.finish_of_keepsPower, ?_⟩
  unfold State.finish
  simp only [State.settlePower_atc, State.settlePower_sa, State.settlePower_al, State.settlePower_tu,
    State.settlePower_fp, State.settlePower_now, State.settlePower_out, State.settlePower_pending,
    State.settlePower_queue, State.settlePower_current, State.settlePower_stage, State.settlePower_rxFifo, and_self]

/-! ### States of rest after an effect -/

/-- Where Power Control rests, an effect that leaves no head to take and no report to send is at rest. -/
theorem State.settled_of_keepsPower {m : State} (h : m.keepsPower) (hhead : m.noHeadTaken)
    (hreport : m.maySendReport = false) : m.settled = true := by
  refine State.settled_iff.2 ⟨?_, hreport, State.mayDoze_of_keepsPower h, h.imp And.left fun hd => .inr hd.2⟩
  rcases hhead with hc | hc | hc | hc | hc | hc
  · exact .inl (Bool.eq_false_iff.2 fun hmay => by simp [(State.mayTakeHead_iff.1 hmay).1] at hc)
  · exact .inl (Bool.eq_false_iff.2 fun hmay => hc (State.mayTakeHead_iff.1 hmay).2.1)
  · exact .inr hc
  · exact .inl (Bool.eq_false_iff.2 fun hmay => by simp [(State.mayTakeHead_iff.1 hmay).2.2.1] at hc)
  · exact .inl (Bool.eq_false_iff.2 fun hmay => (State.mayTakeHead_iff.1 hmay).2.2.2.1 hc)
  · exact .inl (Bool.eq_false_iff.2 fun hmay => (State.mayTakeHead_iff.1 hmay).2.2.2.2 hc)

theorem State.noHeadTaken_of_settled {s : State} (h : s.settled = true) : s.noHeadTaken := by
  obtain ⟨hhead, -⟩ := State.settled_iff.1 h
  rcases hhead with hmay | hqueue
  · by_contra hno
    simp only [State.noHeadTaken, not_or, Bool.not_eq_true, Option.isSome_eq_false_iff, Option.isNone_iff_eq_none, ne_eq,
      not_not] at hno
    obtain ⟨hcurrent, hstage, -, hpart, hoff, hdoze⟩ := hno
    have hfull : s.al.participation = .full := by
      cases hp : s.al.participation with
      | full => rfl
      | listenOnly => exact absurd hp hpart
    rw [State.mayTakeHead_iff.2 ⟨hcurrent, hstage, hfull, hoff, hdoze⟩] at hmay
    cases hmay
  · exact .inr (.inr (.inl hqueue))

/-- A part at rest stays at rest where only what R90, R172, R113 and R117 do not look at changes. -/
theorem State.settled_congr {s t : State} (h : s.settled = true) (hk : t.keepsPower) (hslc : t.slc = s.slc)
    (hpart : t.al.participation = s.al.participation) (hfp : t.fp = s.fp) (htu : t.tu = s.tu) :
    t.settled = true := by
  refine State.settled_of_keepsPower hk ?_ ?_
  · unfold State.noHeadTaken
    rw [hslc, hpart]
    exact State.noHeadTaken_of_settled h
  · obtain ⟨-, hreport, -⟩ := State.settled_iff.1 h
    unfold State.maySendReport at hreport ⊢
    rw [hfp, htu]
    exact hreport

/-- Activity of a configured part leaves Power Control at rest (R112, R117). -/
theorem State.keepsPower_activity {s : State} {cfg : Settings} (hconfig : s.al.config = some cfg) :
    s.activity.keepsPower := by
  cases hpower : s.pwc.power with
  | awake =>
    rw [State.activity_awake hpower hconfig]
    exact .inl ⟨hpower, nofun⟩
  | doze =>
    cases hwarm : s.pwc.warmUp with
    | none =>
      rw [State.activity_doze hpower hwarm]
      exact .inr ⟨hpower, rfl⟩
    | some t =>
      rw [State.activity_warming hpower (by simp [hwarm])]
      exact .inr ⟨hpower, by rw [hwarm]; rfl⟩

/-- Activity touches Power Control only, whatever was put out before. -/
theorem State.activity_begin (s : State) : s.begin.activity = s.activity.begin := by
  rw [State.activity_eq s.begin, State.activity_eq s]
  have hpwc : s.begin.activity.pwc = s.activity.pwc := by
    unfold State.activity State.restartHold State.wakeCause
    cases hp : s.pwc.power with
    | awake =>
      simp only [State.begin_pwc, hp]
      have hc : s.begin.configured = s.configured := rfl
      rw [hc]
      split <;> rfl
    | doze =>
      simp only [State.begin_pwc, hp]
      split <;> rfl
  rw [hpwc]
  rfl

end Sys2Proof.Machine
end

section
/-! What the reports and tests of one entry do, in the terms of the statements: the dirty report, the report-due test,
the own tag and the start of a relay. -/

namespace Sys2Proof.Machine

/-! ### One entry changed -/

theorem State.modifyEntry_of_entryAt {s : State} {i : Nat} {e : Entry} (he : s.entryAt i = some e)
    (f : Entry → Entry) : s.modifyEntry i f = s.modifyEntry i fun _ => f e :=
  State.modifyEntry_congr fun x hx => by rw [Option.some.inj (hx.symm.trans he)]

theorem State.modifyEntry_modifyEntry (s : State) (i : Nat) (f g : Entry → Entry) :
    (s.modifyEntry i f).modifyEntry i g = s.modifyEntry i fun e => g (f e) := by
  have htable : ((s.modifyEntry i f).modifyEntry i g).atc.table = (s.modifyEntry i fun e => g (f e)).atc.table := by
    refine List.ext_getElem? fun k => ?_
    simp only [State.modifyEntry_atc_table, List.getElem?_modify]
    by_cases hik : i = k
    · simp [hik, Function.comp_def]
    · simp [hik]
  show s.withTable ((s.modifyEntry i f).modifyEntry i g).atc.table = _
  rw [htable]
  rfl

theorem State.entryAt_modifyEntry_same {s : State} {i : Nat} {e : Entry} (he : s.entryAt i = some e)
    (f : Entry → Entry) : (s.modifyEntry i f).entryAt i = some (f e) := by
  rw [State.entryAt_modifyEntry, if_pos rfl, he]
  rfl

theorem State.entryAt_modifyEntry_ne {s : State} {i k : Nat} (h : k ≠ i) (f : Entry → Entry) :
    (s.modifyEntry i f).entryAt k = s.entryAt k := by
  rw [State.entryAt_modifyEntry, if_neg (Ne.symm h)]

theorem Entry.isExpired_iff {e : Entry} : e.isExpired = true ↔ e.state.name = .expired := by
  unfold Entry.isExpired EntryState.name
  cases e.state <;> simp

/-! ### The dirty report (R139) -/

/-- A tally wait starts under FULL for an entry that is not EXPIRED. -/
theorem State.startTallyWait_of_entryAt {s : State} {i : Nat} {e : Entry} (he : s.entryAt i = some e) :
    s.startTallyWait i = s.modifyEntry i fun _ => { e with
      tallySend :=
        if s.al.participation = .full ∧ e.state.name ≠ .expired then
          { e.tallySend with
            state := .waiting (tallyWaitExpiry s.settings.tag e.id.serial e.tallySend.lastSent s.now) }
        else e.tallySend } := by
  have hkeep : (s.modifyEntry i fun _ => e) = s :=
    State.modifyEntry_self fun f hf => (Option.some.inj (hf.symm.trans he)).symm
  unfold State.startTallyWait State.fullPart
  cases hpart : s.al.participation with
  | full =>
    rw [if_pos (by rfl), State.modifyEntry_of_entryAt he]
    by_cases hexp : e.isExpired = true
    · rw [if_pos hexp, if_neg fun h => h.2 (Entry.isExpired_iff.1 hexp)]
    · rw [if_neg hexp, if_pos ⟨rfl, mt Entry.isExpired_iff.2 hexp⟩]
  | listenOnly =>
    rw [if_neg (by nofun), if_neg (by rintro ⟨h, -⟩; cases h)]
    exact hkeep.symm

theorem State.dirtyReport_eq {s : State} {i : Nat} {e : Entry} (he : s.entryAt i = some e) :
    s.dirtyReport i = s.modifyEntry i fun _ => { e with tallySend := s.dirtied s.now e } := by
  have hkeep : (s.modifyEntry i fun _ => e) = s :=
    State.modifyEntry_self fun f hf => (Option.some.inj (hf.symm.trans he)).symm
  have hmark (st : TallySendState) (hst : e.tallySend.state = st) :
      (s.modifyTallySend i fun r => { r with resend := true }) =
        s.modifyEntry i fun _ => { e with tallySend := ⟨st, e.tallySend.lastSent, true⟩ } := by
    subst hst
    exact State.modifyEntry_of_entryAt he _
  unfold State.dirtyReport State.dirtied
  rw [he]
  dsimp only
  cases hst : e.tallySend.state with
  | idle => exact State.startTallyWait_of_entryAt he
  | waiting w => exact hkeep.symm
  | queued => exact hkeep.symm
  | staged => exact hmark _ hst
  | sending => exact hmark _ hst

/-! ### The report-due test (R171) -/

theorem reportDue_iff {e : Entry} {step : Nat} : reportDue e step = true ↔
    step + e.lastReported ≤ tallyCount e.tally
      ∨ (e.state.name = .cancelled ∨ e.state.name = .expired) ∧ e.lastReported < tallyCount e.tally := by
  simp [reportDue]

theorem State.isOutstanding_eq_false {s : State} {i : Nat} :
    s.isOutstanding i = false ↔ ∀ o ∈ s.tu.outstanding, o.handle ≠ ⟨i, s.genAt i⟩ := by
  unfold State.isOutstanding State.handleAt
  cases s.tu.outstanding <;> simp

theorem State.testReportDue_eq {s : State} {i : Nat} {e : Entry} (he : s.entryAt i = some e) :
    s.testReportDue i = { s with tu := { s.tu with reportQueue := s.reportJoins i e } } := by
  unfold State.testReportDue State.reportJoins
  rw [he]
  simp only [reportDue_iff, State.isOutstanding_eq_false]
  split <;> rfl

/-- The test looks at the report step, the report queue, the outstanding report and the slot's generation. -/
theorem State.reportJoins_congr {s t : State} {i : Nat} {e : Entry} (hconfig : t.al.config = s.al.config)
    (htu : t.tu = s.tu) (hgen : t.genAt i = s.genAt i) : t.reportJoins i e = s.reportJoins i e := by
  unfold State.reportJoins State.settings
  rw [hconfig, htu, hgen]

/-- The test of an entry that was changed first. -/
theorem State.testReportDue_modifyEntry {s : State} {i : Nat} {e : Entry} (he : s.entryAt i = some e)
    (f : Entry → Entry) : (s.modifyEntry i f).testReportDue i =
      { s.modifyEntry i f with tu := { s.tu with reportQueue := s.reportJoins i (f e) } } := by
  rw [State.testReportDue_eq (State.entryAt_modifyEntry_same he f),
    State.reportJoins_congr (s := s) (t := s.modifyEntry i f) rfl rfl (s.genAt_modifyEntry i i f)]
  rfl

theorem State.dirtied_congr {s t : State} (hal : t.al = s.al) : t.dirtied = s.dirtied := by
  unfold State.dirtied State.settings
  rw [hal]

/-! ### The own tag (R149) -/

/-- The entry with the own tag added and the tally found dirty. -/
def State.tagged (s : State) (e : Entry) : Entry :=
  { e with tally := addTag e.tally s.settings.tag, tallySend := s.dirtied s.now e }

theorem State.addOwnTag_same {s : State} {i : Nat} {e : Entry} (he : s.entryAt i = some e)
    (h : addTag e.tally s.settings.tag = e.tally) : s.addOwnTag i = s := by
  unfold State.addOwnTag
  rw [he]
  exact if_pos h

theorem State.addOwnTag_new {s : State} {i : Nat} {e : Entry} (he : s.entryAt i = some e)
    (h : addTag e.tally s.settings.tag ≠ e.tally) :
    s.addOwnTag i = { s.modifyEntry i fun _ => s.tagged e with
      tu := { s.tu with reportQueue := s.reportJoins i (s.tagged e) } } := by
  unfold State.addOwnTag
  rw [he]
  dsimp only
  rw [if_neg h]
  have hdirty := State.dirtyReport_eq (State.entryAt_modifyEntry_same he fun f =>
    { f with tally := addTag e.tally s.settings.tag })
  rw [hdirty, State.modifyEntry_modifyEntry]
  exact State.testReportDue_modifyEntry he _

/-! ### The start of a relay (R127) -/

theorem Entry.remaining_lt_sixty {e : Entry} {now : Micros} (h : e.isExpired = false) :
    e.remaining now < 60 ↔ e.lifetimeEnd < now + 60000000 := by
  unfold Entry.remaining
  rw [h]
  simp only [Micros] at *
  simp only [Bool.false_eq_true, if_false]
  omega

theorem relayStart_eq {cls : RelayClass} {cfg : Settings} {p : Participation} {now : Micros} {e : Entry}
    (h : e.isExpired = false) : relayStart cls cfg (p == .full) now e = startedRelay cls cfg p now e := by
  unfold relayStart startedRelay
  simp only [Entry.remaining_lt_sixty h, millis_eq]
  cases p <;> rfl

/-- The entry with its relay started in `s`. -/
def State.relayStarted (s : State) (e : Entry) : Entry :=
  { e with relay := { e.relay with
      state := startedRelay (s.category e.category).relay s.settings s.al.participation s.now e } }

theorem State.startRelay_eq {s : State} {i : Nat} {e : Entry} (he : s.entryAt i = some e)
    (h : e.isExpired = false) : s.startRelay i = s.modifyEntry i fun _ => s.relayStarted e := by
  unfold State.startRelay
  rw [State.modifyEntry_of_entryAt he]
  unfold State.fullPart State.relayStarted
  rw [relayStart_eq h]

/-! ### The report sent after a test (R172) -/

/-- The end of an event that tested an entry for a report sends the report of the queue's head where the uplink is
open. -/
theorem State.reportTested_finish {s m : State} {i : Nat} {e : Entry}
    (htu : m.tu = { s.tu with reportQueue := s.reportJoins i e }) (hfp : m.fp = s.fp) (hfeed : m.out.feed = none) :
    s.ReportTested m.finish i e := by
  have honly := sidelinkOnly_takeHead m
  have hnow : m.finish.now = m.takeHead.now := by simp [State.finish]
  have hfinishTu : m.finish.tu = m.takeHead.sendReport.tu := by simp [State.finish]
  have hfinishOut : m.finish.out = m.takeHead.sendReport.out := by simp [State.finish]
  have hentryAt (j : Nat) : m.finish.entryAt j = m.takeHead.entryAt j := by
    unfold State.entryAt State.finish
    simp
  have hgenAt (j : Nat) : m.finish.genAt j = m.takeHead.genAt j := by
    unfold State.genAt State.finish
    simp
  unfold State.ReportTested
  rw [hfinishTu, hfinishOut]
  refine ⟨fun hclosed => ?_, fun j f rest hqueue hentry hcoverage hblocked hready hnone => ?_⟩
  · rw [State.sendReport_of_closed (by rw [honly.tu, honly.fp, htu, hfp]; exact hclosed), honly.tu, honly.feed]
    exact ⟨htu, hfeed⟩
  · rw [hentryAt] at hentry
    rw [hnow, hgenAt]
    exact State.sendReport_reports (by rw [honly.tu, htu]; exact hqueue) hentry (by rw [honly.fp, hfp]; exact hcoverage)
      (by rw [honly.fp, hfp]; exact hblocked) (by rw [honly.fp, hfp]; exact hready) (by rw [honly.tu, htu]; exact hnone)

end Sys2Proof.Machine
end

section
/-! The commands of the application link: transfers that are not taken, refusals, and the commands that answer or
restart the link. -/

namespace Sys2Proof.Machine

/-! ### A command on a free link -/

/-- A command transfer on a free link whose effect is known to be a state of rest. -/
theorem transfer_eq {s t : State} {f : State → State} (hfree : s.linkFree = true)
    (heffect : f s.begin.activity = t) (ht : t.settled = true) : event (transfer f) s = .next t := by
  have htransfer : transfer f s.begin = t := by
    rw [transfer_of_linkFree (s := s.begin) hfree, heffect]
  rw [event_of_settled (by rw [htransfer]; exact ht), htransfer]

/-- A command of a configured part on a free link whose effect is known to be a state of rest. -/
theorem command_eq {s t : State} {cfg : Settings} {f : State → State} (hfree : s.linkFree = true)
    (hconfig : s.al.config = some cfg) (heffect : f s.begin.activity = t) (ht : t.settled = true) :
    command f s = .next t :=
  transfer_eq hfree
    ((whenConfigured_of_config (s := s.begin.activity) (by rw [State.activity_al]; exact hconfig) f).trans heffect) ht

/-- A command whose effect is a response alone, in both configured states. -/
theorem transfer_eq_answered {s : State} {f : State → State} {r : Response} (hsettled : s.settled = true)
    (hfree : s.linkFree = true) (heffect : f s.begin.activity = s.begin.activity.respond r) :
    event (transfer f) s = .next (s.answered r) :=
  transfer_eq hfree heffect (State.settled_answered hsettled r)

/-- A command's response joins what activity leaves at rest where the blocks that send stay as they were. -/
theorem settled_afterActivity {s t : State} {cfg : Settings} (h : s.settled = true) (hconfig : s.al.config = some cfg)
    (hpwc : t.pwc = s.begin.activity.pwc) (hslc : t.slc = s.slc)
    (hpart : t.al.participation = s.al.participation) (hfp : t.fp = s.fp) (htu : t.tu = s.tu) : t.settled = true :=
  State.settled_congr h (State.keepsPower_congr hpwc (State.keepsPower_activity (s := s.begin) hconfig)) hslc hpart
    hfp htu

theorem State.begin_activity_pwc (s : State) : s.begin.activity.pwc = s.activity.pwc := by
  rw [State.activity_begin]
  rfl

/-! ### Every command is a transfer (R179, R180) -/

/-- The rows that are command transfers: all but three need a configured part. -/
theorem command_cases {c : Instr} (h : isCommand c = true) :
    (∃ f, ∀ s, exec c s = command f s) ∨ (∃ r, c = .configure r) ∨ c = .readStatus ∨ c = .unknownCommand := by
  cases c
  case configure r => exact .inr (.inl ⟨r, rfl⟩)
  case readStatus => exact .inr (.inr (.inl rfl))
  case unknownCommand => exact .inr (.inr (.inr rfl))
  case setPosition zone => exact .inl ⟨_, fun _ => rfl⟩
  case clearPosition => exact .inl ⟨_, fun _ => rfl⟩
  case setOptIn marks => exact .inl ⟨_, fun _ => rfl⟩
  case setParticipation p => exact .inl ⟨_, fun _ => rfl⟩
  case acknowledge handle => exact .inl ⟨_, fun _ => rfl⟩
  case readAlert handle => exact .inl ⟨_, fun _ => rfl⟩
  case readText handle index offset length => exact .inl ⟨_, fun _ => rfl⟩
  case listAlerts => exact .inl ⟨_, fun _ => rfl⟩
  case fetchNotice => exact .inl ⟨_, fun _ => rfl⟩
  case clearFlags marks => exact .inl ⟨_, fun _ => rfl⟩
  case restartLink => exact .inl ⟨_, fun _ => rfl⟩
  all_goals cases h

theorem exists_transfer {c : Instr} (h : isCommand c = true) : ∃ f, ∀ s, exec c s = event (transfer f) s := by
  rcases command_cases h with ⟨f, hf⟩ | ⟨r, rfl⟩ | rfl | rfl
  · exact ⟨_, hf⟩
  · exact ⟨_, fun _ => rfl⟩
  · exact ⟨_, fun _ => rfl⟩
  · exact ⟨_, fun _ => rfl⟩

theorem transfer_of_reset {s : State} (h : s.al.resetLine = true) (f : State → State) :
    transfer f s = s.activity := by
  simp [transfer, h]

theorem transfer_of_pending {s : State} (hline : s.al.resetLine = false) (hresponse : s.al.response.isSome = true)
    (f : State → State) : transfer f s = s.activity.answer .busy := by
  simp [transfer, hline, hresponse]

/-- Settles O30: a transfer's effect is activity first, and nothing more where the link does not take it. -/
theorem commandTransferNotTaken : Obligations.CommandTransferNotTaken := by
  intro c s hcommand hsettled
  have hactive : s.begin.activity.settled = true := State.settled_activity hsettled
  refine ⟨fun hline => ?_, fun hline hresponse => ?_, fun hfree hconfig hconfigure hstatus hunknown => ?_,
    fun cfg hpower hconfig => ?_, fun hpower hwarm => ?_⟩
  · obtain ⟨f, hf⟩ := exists_transfer hcommand
    have heffect : transfer f s.begin = s.begin.activity := transfer_of_reset (s := s.begin) hline f
    rw [hf, event_of_settled (by rw [heffect]; exact hactive), heffect]
  · obtain ⟨f, hf⟩ := exists_transfer hcommand
    have heffect : transfer f s.begin = s.begin.activity.answer .busy :=
      transfer_of_pending (s := s.begin) hline hresponse f
    rw [hf, event_of_settled (by rw [heffect]; exact hactive), heffect, State.activity_begin]
    rfl
  · rcases command_cases hcommand with ⟨f, hf⟩ | ⟨r, rfl⟩ | rfl | rfl
    · rw [hf]
      refine transfer_eq_answered hsettled hfree (if_neg ?_)
      rw [State.activity_configured]
      show ¬ s.al.config.isSome = true
      rw [hconfig]
      nofun
    · exact absurd rfl (hconfigure r)
    · exact absurd rfl hstatus
    · exact absurd rfl hunknown
  · rw [State.activity_awake hpower hconfig]
    simp [State.withHold, seconds_eq]
  · rw [State.activity_doze hpower hwarm]
    simp [millis_eq]

/-! ### Refusals (R180) -/

/-- `f` changes nothing else where it refuses. -/
def RefusesOnly (f : State → State) : Prop :=
  ∀ s code, s.al.response = none → (f s).al.response = some (.refused code) → f s = s.refuse code

theorem refusesOnly_refuse (code : RefusalCode) : RefusesOnly fun s => s.refuse code := by
  intro s other _ h
  cases h
  rfl

/-- An effect that ends in an answer which is no refusal. -/
theorem refusesOnly_of_answer {f : State → State} (h : ∀ s, ∃ r, (f s).al.response = some r ∧ ∀ code, r ≠ .refused code) :
    RefusesOnly f := by
  intro s code _ hrefused
  obtain ⟨r, hr, hno⟩ := h s
  rw [hr] at hrefused
  exact absurd (Option.some.inj hrefused) (hno code)

/-- An effect that ends with DONE. -/
theorem refusesOnly_done (g : State → State) : RefusesOnly fun s => (g s).respond .done :=
  refusesOnly_of_answer fun _ => ⟨.done, rfl, nofun⟩

theorem refusesOnly_ite {p : State → Prop} [∀ s, Decidable (p s)] {f g : State → State} (hf : RefusesOnly f)
    (hg : RefusesOnly g) : RefusesOnly fun s => if p s then f s else g s := by
  intro s code hs h
  by_cases hp : p s
  · simp only [hp, if_true] at h ⊢
    exact hf s code hs h
  · simp only [hp, if_false] at h ⊢
    exact hg s code hs h

theorem refusesOnly_whenConfigured {f : State → State} (h : RefusesOnly f) : RefusesOnly (whenConfigured f) :=
  refusesOnly_ite h (refusesOnly_refuse _)

theorem refusesOnly_withHandle (h : Handle) {f : Entry → State → State}
    (hf : ∀ s e code, s.entryAt h.slot = some e → s.al.response = none →
      (f e s).al.response = some (.refused code) → f e s = s.refuse code) : RefusesOnly (withHandle h f) := by
  intro s code hs hrefused
  unfold withHandle at hrefused ⊢
  split
  · next hslot =>
    rw [if_pos hslot] at hrefused
    exact refusesOnly_refuse _ s code hs hrefused
  · next hslot =>
    rw [if_neg hslot] at hrefused
    cases he : s.entryAt h.slot with
    | none =>
      rw [he] at hrefused
      exact refusesOnly_refuse _ s code hs hrefused
    | some e =>
      rw [he] at hrefused
      dsimp only at hrefused ⊢
      split
      · next hgen =>
        rw [if_pos hgen] at hrefused
        exact hf s e code he hs hrefused
      · next hgen =>
        rw [if_neg hgen] at hrefused
        exact refusesOnly_refuse _ s code hs hrefused

theorem refusesOnly_configure (r : ConfigRecord) : RefusesOnly fun s => s.configure r := by
  unfold State.configure
  refine refusesOnly_ite (refusesOnly_refuse _) ?_
  cases takenRecord r with
  | none => exact refusesOnly_refuse _
  | some taken => exact refusesOnly_of_answer fun s => ⟨.configured taken.1 taken.2, rfl, nofun⟩

theorem refusesOnly_setParticipation (p : ParticipationArg) : RefusesOnly fun s => s.setParticipation p := by
  cases p with
  | full => exact refusesOnly_done _
  | listenOnly => exact refusesOnly_done _
  | other => exact refusesOnly_refuse _

theorem acknowledge_refuses {s : State} {i : Nat} {e : Entry} {code : RefusalCode}
    (h : (s.acknowledge i e).al.response = some (.refused code)) : s.acknowledge i e = s.refuse code := by
  unfold State.acknowledge at h ⊢
  split at h
  · cases h
  · cases h
  · cases h
  all_goals
    cases h
    rfl

theorem State.dropStale_entryAt_isSome (s : State) (i : Nat) :
    (s.dropStale.entryAt i).isSome = (s.entryAt i).isSome := by
  rcases s.dropStale_cases with ⟨-, h⟩ | ⟨-, h⟩ <;> rw [h]
  simp

/-- The summary of an entry that is there is no refusal. -/
theorem State.respondSummary_eq {s : State} {i : Nat} {e : Entry} (he : s.entryAt i = some e) :
    ∃ e', s.dropStale.entryAt i = some e'
      ∧ s.respondSummary i = s.dropStale.respond (.summary (s.dropStale.summary i e')) := by
  have hsome : (s.dropStale.entryAt i).isSome = true := by
    rw [State.dropStale_entryAt_isSome, he]
    rfl
  obtain ⟨e', he'⟩ := Option.isSome_iff_exists.1 hsome
  refine ⟨e', he', ?_⟩
  unfold State.respondSummary
  dsimp only
  rw [he']

/-- Every command that refuses changes nothing else. -/
theorem exists_refusesOnly {c : Instr} (h : isCommand c = true) :
    ∃ f, (∀ s, exec c s = event (transfer f) s) ∧ RefusesOnly f := by
  cases c
  case configure r => exact ⟨_, fun _ => rfl, refusesOnly_configure r⟩
  case readStatus =>
    exact ⟨_, fun _ => rfl, refusesOnly_of_answer fun s => ⟨.status s.dropStale.status, rfl, nofun⟩⟩
  case unknownCommand => exact ⟨_, fun _ => rfl, refusesOnly_refuse _⟩
  case setPosition zone =>
    exact ⟨_, fun _ => rfl, refusesOnly_whenConfigured
      (refusesOnly_ite (p := fun _ => zoneOk zone = true) (refusesOnly_done _) (refusesOnly_refuse _))⟩
  case clearPosition => exact ⟨_, fun _ => rfl, refusesOnly_whenConfigured (refusesOnly_done _)⟩
  case setOptIn marks => exact ⟨_, fun _ => rfl, refusesOnly_whenConfigured (refusesOnly_done _)⟩
  case setParticipation p =>
    exact ⟨_, fun _ => rfl, refusesOnly_whenConfigured (refusesOnly_setParticipation p)⟩
  case acknowledge handle =>
    exact ⟨_, fun _ => rfl, refusesOnly_whenConfigured
      (refusesOnly_withHandle handle fun _ _ _ _ _ hrefused => acknowledge_refuses hrefused)⟩
  case readAlert handle =>
    refine ⟨_, fun _ => rfl, refusesOnly_whenConfigured (refusesOnly_withHandle handle fun s e code he _ hrefused => ?_)⟩
    obtain ⟨e', -, heq⟩ := State.respondSummary_eq he
    rw [heq] at hrefused
    cases hrefused
  case readText handle index offset length =>
    refine ⟨_, fun _ => rfl, refusesOnly_whenConfigured
      (refusesOnly_ite (p := fun _ => 3 < index) (refusesOnly_refuse _)
        (refusesOnly_withHandle handle fun s e code _ _ hrefused => ?_))⟩
    have hresponse : textResponse e.texts[index]? offset length = .refused code := Option.some.inj hrefused
    show s.respond (textResponse e.texts[index]? offset length) = _
    rw [hresponse]
    rfl
  case listAlerts =>
    exact ⟨_, fun _ => rfl, refusesOnly_whenConfigured (refusesOnly_of_answer fun s => ⟨_, rfl, nofun⟩)⟩
  case fetchNotice =>
    exact ⟨_, fun _ => rfl, refusesOnly_whenConfigured (refusesOnly_of_answer fun s => ⟨_, rfl, nofun⟩)⟩
  case clearFlags marks => exact ⟨_, fun _ => rfl, refusesOnly_whenConfigured (refusesOnly_done _)⟩
  case restartLink => exact ⟨_, fun _ => rfl, refusesOnly_whenConfigured (refusesOnly_done _)⟩
  all_goals cases h

theorem State.finish_response (s : State) : s.finish.al.response = s.al.response := by
  simp [State.finish, (sidelinkOnly_takeHead s).response]

/-- Settles O29: a refusal is all a refused command leaves beside its activity. -/
theorem refusedCommandChangesNothing : Obligations.RefusedCommandChangesNothing := by
  intro c s t code hcommand hsettled hfree hexec hresponse
  obtain ⟨f, hf, honly⟩ := exists_refusesOnly hcommand
  have htransfer : transfer f s.begin = f s.begin.activity := transfer_of_linkFree (s := s.begin) hfree f
  rw [hf, event_eq, htransfer] at hexec
  cases hexec
  rw [State.finish_response] at hresponse
  have hnone : s.begin.activity.al.response = none := by
    rw [State.activity_al]
    exact (State.linkFree_iff.1 hfree).2
  rw [honly _ code hnone hresponse]
  exact State.finish_of_settled (State.settled_answered hsettled _)

end Sys2Proof.Machine
end

section
/-! The commands that read, and those that change the Application Link only. -/

namespace Sys2Proof.Machine

/-! ### States of rest -/

/-- An event whose effect is known to be a state of rest. -/
theorem event_rest {f : State → State} {s t : State} (heffect : f s.begin = t) (ht : t.settled = true) :
    event f s = .next t := by
  rw [event_of_settled (by rw [heffect]; exact ht), heffect]

/-- Notices, flags, the response and the reset line leave nothing to do at the end of an event. -/
theorem State.settled_withAl {s : State} {al : Al} (hconfig : al.config = s.al.config)
    (hpart : al.participation = s.al.participation) : State.settled { s with al := al } = s.settled := by
  unfold State.settled State.mayTakeHead State.fullPart State.mayDoze State.configured State.settings
  dsimp only
  rw [hconfig, hpart]
  rfl

/-! ### READ_STATUS (R188) -/

theorem State.entries_length (s : State) : s.entries.length = s.identities.length := by
  unfold State.entries State.identities
  have hgeneral (l : List TableSlot) (n : Nat) :
      ((l.zipIdx n).filterMap fun p => p.1.entry.map fun e => (p.2, e)).length =
        (l.filterMap fun sl => sl.entry.map Entry.id).length := by
    induction l generalizing n with
    | nil => rfl
    | cons sl l ih =>
      rw [List.zipIdx_cons, List.filterMap_cons, List.filterMap_cons]
      cases sl.entry with
      | none => exact ih _
      | some e => exact congrArg Nat.succ (ih _)
  exact hgeneral _ _

theorem State.freshAt_begin_activity {s : State} {t : Micros} (h : s.freshAt t) : s.begin.activity.freshAt t := by
  unfold State.freshAt at h ⊢
  rw [State.activity_atc, State.activity_settings]
  exact h

theorem State.dropStale_begin_activity {s : State} (h : s.freshAt s.now) :
    s.begin.activity.dropStale = s.begin.activity :=
  State.dropStale_of_freshAt (by rw [State.activity_now]; exact State.freshAt_begin_activity h)

theorem State.activity_power (s : State) : s.activity.pwc.power = s.pwc.power := by
  unfold State.activity State.restartHold State.wakeCause
  cases hp : s.pwc.power with
  | awake =>
    dsimp only
    split <;> exact hp
  | doze =>
    dsimp only
    split <;> exact hp

theorem State.status_begin_activity (s : State) : s.begin.activity.status = s.status := by
  unfold State.status State.entries State.freeBlocks State.usedBlocks
  rw [State.activity_configured, State.activity_power, State.activity_slc, State.activity_fp, State.activity_atc,
    State.activity_now, State.activity_al, State.activity_sa, State.activity_tu]
  rfl

/-- Settles O39: the command's effect is its response alone, whose record reads the state's own fields. -/
theorem readStatusCompletes : Obligations.ReadStatusCompletes := by
  intro s hsettled hfree hfresh
  have hexec : exec .readStatus s = .next (s.answered (.status s.status)) :=
    transfer_eq_answered hsettled hfree (by
      rw [State.dropStale_begin_activity hfresh]
      dsimp only
      rw [State.status_begin_activity])
  refine ⟨?_, fun hconfig hok => ?_⟩
  · rw [hexec, State.status, State.entries_length]
    rfl
  · obtain ⟨hatc, hsa, hpwc, htu, hslc, hfp, hal⟩ := hok hconfig
    have hstatus : s.status = ⟨false, .awake, .off, false, false, none, .full, 0, 128, 0, none,
        ⟨false, false, false, false, false, false, false⟩⟩ := by
      unfold State.status State.configured State.entries State.freeBlocks State.usedBlocks
      rw [hatc, hsa, hpwc, htu, hslc, hfp, hal]
      rfl
    rw [hexec, hstatus]

/-! ### FETCH_NOTICE, CLEAR_FLAGS and an unknown command (R189, R191, R180) -/

theorem clearMarked_eq (f m : Flags) : clearMarked f m =
    { rxOverrun := if m.rxOverrun then false else f.rxOverrun
      damaged := if m.damaged then false else f.damaged
      malformed := if m.malformed then false else f.malformed
      noticeOverflow := if m.noticeOverflow then false else f.noticeOverflow
      tableFull := if m.tableFull then false else f.tableFull
      poolExhausted := if m.poolExhausted then false else f.poolExhausted
      sendQueueFull := if m.sendQueueFull then false else f.sendQueueFull } := by
  have hbit (a b : Bool) : (a && !b) = if b then false else a := by cases a <;> cases b <;> rfl
  simp only [clearMarked, hbit]

/-- Settles O40: each command changes the Application Link only. -/
theorem fetchNoticeAndClearFlagsComplete : Obligations.FetchNoticeAndClearFlagsComplete := by
  intro s hsettled hfree
  refine ⟨transfer_eq_answered hsettled hfree rfl, fun cfg hconfig => ⟨?_, fun marks => ?_⟩⟩
  · cases hnotices : s.al.notices with
    | nil =>
      refine command_eq_answered hsettled hfree hconfig ?_
      rw [State.activity_al]
      show State.respond (State.withNotices _ s.al.notices.tail) (.notice s.al.notices.head?) = _
      have hsame : s.begin.activity.withNotices s.al.notices.tail = s.begin.activity := by
        unfold State.withNotices
        rw [State.activity_al, hnotices]
        show { s.begin.activity with al := { s.al with notices := [] } } = _
        rw [← hnotices, ← State.begin_al s, ← State.activity_al s.begin]
      rw [hsame, hnotices]
      rfl
    | cons n rest =>
      refine command_eq hfree hconfig ?_ (settled_afterActivity hsettled hconfig rfl ?_ rfl ?_ ?_)
      · rw [State.activity_al]
        show State.respond (State.withNotices _ s.al.notices.tail) (.notice s.al.notices.head?) = _
        rw [hnotices]
        unfold State.respond State.withResponse State.withNotices
        rw [State.activity_al]
        rfl
      · exact State.activity_slc _
      · exact State.activity_fp _
      · exact State.activity_tu _
  · refine command_eq hfree hconfig ?_ (settled_afterActivity hsettled hconfig rfl ?_ rfl ?_ ?_)
    · rw [State.activity_al, clearMarked_eq]
      rfl
    · exact State.activity_slc _
    · exact State.activity_fp _
    · exact State.activity_tu _

/-! ### The link restarted (R192) -/

/-- The PRESENT notice a link restart queues for a slot. -/
def State.presentOf (s : State) (i : Nat) : Option Notice :=
  (s.entryAt i).bind fun e => if e.state = .presenting then some (.present ⟨i, s.genAt i⟩) else none

theorem State.presentAgain_eq (s : State) (i : Nat) :
    s.presentAgain i = { s with al := (s.presentOf i).elim s.al s.al.queued } := by
  unfold State.presentAgain State.presentOf
  cases s.entryAt i with
  | none => rfl
  | some e =>
    dsimp only [Option.bind_some]
    split
    · exact State.queueNotice_eq _ _
    · rfl

theorem State.foldl_presentAgain (l : List Nat) (s : State) :
    l.foldl State.presentAgain s = { s with al := (l.filterMap s.presentOf).foldl Al.queued s.al } := by
  induction l generalizing s with
  | nil => rfl
  | cons i l ih =>
    rw [List.foldl_cons, ih, State.presentAgain_eq, List.filterMap_cons]
    have hsame : State.presentOf { s with al := (s.presentOf i).elim s.al s.al.queued } = s.presentOf := rfl
    rw [hsame]
    cases s.presentOf i <;> rfl

/-- Distinct notices join a queue until it is full; the rest are lost with NOTICE-OVERFLOW. -/
theorem Al.foldl_queued_of_nodup {l : List Notice} {al : Al} (hlength : al.notices.length ≤ 24)
    (hnodup : (al.notices ++ l).Nodup) :
    l.foldl Al.queued al = { al with
      notices := (al.notices ++ l).take 24
      flags := { al.flags with
        noticeOverflow := al.flags.noticeOverflow || decide (24 < (al.notices ++ l).length) } } := by
  induction l generalizing al with
  | nil =>
    have hover : decide (24 < (al.notices ++ []).length) = false := by
      rw [List.append_nil]
      exact decide_eq_false (Nat.not_lt.2 hlength)
    rw [hover, List.append_nil, List.take_of_length_le hlength, Bool.or_false]
    rfl
  | cons n l ih =>
    have hnew : n ∉ al.notices := by
      rw [List.nodup_append] at hnodup
      exact fun hn => hnodup.2.2 n hn n (List.mem_cons_self ..) rfl
    rw [List.foldl_cons]
    by_cases hroom : al.notices.length < 24
    · have hqueued : al.queued n = { al with notices := al.notices ++ [n] } := by
        unfold Al.queued joinNotice
        have hlost : decide (24 ≤ al.notices.length) = false := decide_eq_false (Nat.not_le_of_lt hroom)
        rw [if_neg hnew, if_pos hroom, hlost, Bool.and_false, Bool.or_false]
      rw [hqueued, ih (by simpa using hroom) (by simpa using hnodup)]
      simp [List.append_assoc]
    · have hfull : al.notices.length = 24 := Nat.le_antisymm hlength (Nat.not_lt.1 hroom)
      have hqueued : al.queued n = { al with flags := { al.flags with noticeOverflow := true } } := by
        unfold Al.queued joinNotice
        simp [hnew, hfull]
      have hsub : (al.notices ++ l).Nodup := hnodup.sublist (List.sublist_cons_self n l |>.append_left _)
      rw [hqueued, ih (al := { al with flags := { al.flags with noticeOverflow := true } }) hlength hsub]
      simp [hfull]

theorem State.presentOf_nodup (s : State) (n : Nat) : ((List.range n).filterMap s.presentOf).Nodup := by
  refine List.Nodup.filterMap (fun i j a hi hj => ?_) List.nodup_range
  have hslot (k : Nat) (hk : a ∈ s.presentOf k) : a = .present ⟨k, s.genAt k⟩ := by
    unfold State.presentOf at hk
    simp only [Option.mem_def, Option.bind_eq_some_iff, Option.ite_none_right_eq_some, Option.some.injEq] at hk
    obtain ⟨-, -, -, h⟩ := hk
    exact h.symm
  have hsame := (hslot i hi).symm.trans (hslot j hj)
  cases hsame
  rfl

/-- The Application Link after a link restart. -/
def State.restartedAl (s : State) : Al :=
  let present := (List.range s.atc.table.length).filterMap s.presentOf
  { s.al with
    notices := present.take 24
    response := none
    flags := { s.al.flags with noticeOverflow := decide (24 < present.length) } }

theorem State.restartLink_eq (s : State) : s.restartLink = { s with al := s.restartedAl } := by
  unfold State.restartLink
  rw [State.foldl_presentAgain]
  have hsame : State.presentOf (((s.withNotices []).withResponse none).clearNoticeOverflow) = s.presentOf := rfl
  rw [hsame, Al.foldl_queued_of_nodup (Nat.zero_le _) (s.presentOf_nodup _)]
  rfl

theorem State.restartedAl_congr {s t : State} (hatc : t.atc = s.atc) (hal : t.al = s.al) :
    t.restartedAl = s.restartedAl := by
  have hpresent : t.presentOf = s.presentOf := by
    unfold State.presentOf State.entryAt State.genAt
    rw [hatc]
  unfold State.restartedAl
  rw [hpresent, hatc, hal]

theorem linkLine_restarts {s : State} (hsettled : s.settled = true) (hline : s.al.resetLine = false) :
    exec .linkResetLineAsserted s = .next { s.begin.activity with al := { s.restartedAl with resetLine := true } } := by
  have hactive : s.begin.activity.settled = true := State.settled_activity hsettled
  show execLinkResetLineAsserted s = _
  unfold execLinkResetLineAsserted
  refine event_rest ?_ ((State.settled_withAl ?_ ?_).trans hactive)
  · rw [State.begin_al, hline, if_neg (by nofun), State.restartLink_eq]
    have hsame : State.restartedAl { s.begin.activity with al := { s.begin.activity.al with resetLine := true } } =
        { s.begin.activity.restartedAl with resetLine := true } := rfl
    rw [hsame,
      State.restartedAl_congr (s := s) (t := s.begin.activity) (State.activity_atc _) (State.activity_al _)]
  · rw [State.activity_al]
    rfl
  · rw [State.activity_al]
    rfl

theorem responseRead_eq {s : State} (hsettled : s.settled = true) :
    match s.al.response with
    | some r =>
      exec .responseRead s = .next
        { s with out := ⟨some (.response r), none, []⟩, al := { s.al with response := none } }
    | none => exec .responseRead s = .next { s with out := ⟨some .empty, none, []⟩ } := by
  have hrest (out : Outputs) (r : Option Response) :
      State.settled { s with out := out, al := { s.al with response := r } } = true :=
    (State.settled_withAl (s := { s with out := out }) rfl rfl).trans hsettled
  show match s.al.response with
    | some r => execResponseRead s = .next
        { s with out := ⟨some (.response r), none, []⟩, al := { s.al with response := none } }
    | none => execResponseRead s = .next { s with out := ⟨some .empty, none, []⟩ }
  unfold execResponseRead
  cases hresponse : s.al.response with
  | none =>
    refine event_rest ?_ hsettled
    rw [State.begin_al, hresponse]
    rfl
  | some r =>
    refine event_rest ?_ (hrest _ _)
    rw [State.begin_al, hresponse]
    rfl

/-- Settles O41: a restart refills the emptied queue with distinct notices, the first 24 of them. -/
theorem linkRestartAndResponseReadComplete : Obligations.LinkRestartAndResponseReadComplete := by
  refine ⟨?_, fun s hsettled => responseRead_eq hsettled⟩
  intro s hsettled present al
  have hal : s.restartedAl = { al with response := none } := rfl
  refine ⟨?_, ?_, ?_, ?_⟩
  · intro cfg hfree hconfig
    refine command_eq hfree hconfig ?_ (settled_afterActivity hsettled hconfig rfl ?_ rfl ?_ ?_)
    · rw [State.restartLink_eq,
        State.restartedAl_congr (s := s) (t := s.begin.activity) (State.activity_atc _) (State.activity_al _)]
      rfl
    · exact State.activity_slc _
    · exact State.activity_fp _
    · exact State.activity_tu _
  · intro hline
    rw [linkLine_restarts hsettled hline, hal]
  · intro hline
    show execLinkResetLineAsserted s = _
    unfold execLinkResetLineAsserted
    exact event_rest (if_pos hline) hsettled
  · show execLinkResetLineReleased s = _
    unfold execLinkResetLineReleased
    exact event_rest (by rw [State.begin_al]) ((State.settled_withAl rfl rfl).trans (s.settled_begin.trans hsettled))

/-! ### SET_OPT_IN (R74, R78) -/

/-- Re-evaluation of a part whose opt-in set or position was written first. -/
theorem State.reevaluation_of_eq {s t : State} {f : Entry → Entry} {table : List TableSlot} (r : Option Response)
    (htable : ∀ i, (table[i]?.bind TableSlot.entry) = (s.entryAt i).map fun e => t.reevaluated (f e))
    (hgen : ∀ i, ((table[i]?).map TableSlot.gen).getD 0 = s.genAt i) (hatc : t.atc.table = table)
    (hmap : t.atc.map = s.atc.map)
    (hal : t.al = { ((List.range s.atc.table.length).filterMap fun i =>
          (s.entryAt i).bind fun e =>
            if t.qualifies (f e) then some (Notice.present (s.handleAt i)) else none).foldl
          Al.queued s.al with response := r })
    (hsa : t.sa = s.sa) (hslc : t.slc = s.slc) (hfp : t.fp = s.fp) (htu : t.tu = s.tu)
    (hpending : t.pending = s.pending) : s.Reevaluation t f := by
  refine ⟨fun i => ?_, fun i => ?_, ?_, hmap, hsa, hslc, hfp, htu, hpending⟩
  · rw [← htable i, State.entryAt, hatc]
  · rw [← hgen i, State.genAt, hatc]
  · rw [hal, Al.foldl_queued]

/-- Settles O34: the fold over the slots that re-evaluates them is the statement's, entry by entry. -/
theorem setOptInCompletes : Obligations.SetOptInCompletes := by
  intro s marks cfg hsettled hfree hconfig hfresh
  let u : State := { s.begin.activity with atc := { s.atc with optIn := marks } }
  let t : State := u.reevaluate.respond .done
  have ht : t = ({ u.mapEntries u.reevaluated with
      al := ((List.range u.atc.table.length).filterMap u.presentNotice).foldl Al.queued u.al } : State).respond .done :=
    congrArg (State.respond · .done) u.reevaluate_eq
  have hal : t.al = { ((List.range u.atc.table.length).filterMap u.presentNotice).foldl Al.queued s.al with
      response := some .done } := by
    rw [ht]
    show { ((List.range u.atc.table.length).filterMap u.presentNotice).foldl Al.queued s.begin.activity.al with
      response := some .done } = _
    rw [State.activity_al]
    rfl
  have hpwc : t.pwc = s.begin.activity.pwc := by rw [ht]; rfl
  have hslc : t.slc = s.slc := by rw [ht]; exact State.activity_slc _
  have hfp : t.fp = s.fp := by rw [ht]; exact State.activity_fp _
  have htu : t.tu = s.tu := by rw [ht]; exact State.activity_tu _
  have hqualifies : t.qualifies = u.qualifies := State.qualifies_congr (by rw [ht]; rfl) (by rw [ht]; rfl)
  refine ⟨t, command_eq hfree hconfig ?_ (settled_afterActivity hsettled hconfig hpwc hslc ?_ hfp htu),
    by rw [ht]; rfl, by rw [ht]; rfl, ?_, by rw [hal], hpwc.trans s.begin_activity_pwc, ?_, ?_⟩
  · rw [State.dropStale_begin_activity hfresh]
    dsimp only
    rw [State.activity_atc]
    rfl
  · rw [hal, Al.foldl_queued]
  · refine State.reevaluation_of_eq (some .done) (table := (u.mapEntries t.reevaluated).atc.table) (fun i => ?_)
      (fun i => u.genAt_mapEntries i _) ?_ (by rw [ht]; rfl) ?_ ?_ hslc hfp htu ?_
    · exact u.entryAt_mapEntries i _
    · rw [ht]
      exact congrArg (fun f => (u.mapEntries f).atc.table) (State.reevaluated_congr (by rfl) (by rfl))
    · rw [hal, hqualifies]
      rfl
    · rw [ht]
      exact State.activity_sa _
    · rw [ht]
      exact State.activity_pending _
  · rw [ht]
    exact State.activity_now _
  · rw [ht]
    exact State.activity_out _

end Sys2Proof.Machine
end

section
/-! READ_ALERT, READ_TEXT and ACKNOWLEDGE, the commands that name an entry by its handle. -/

namespace Sys2Proof.Machine

/-! ### The bytes of a text (R65, R186) -/

/-- The bytes of a chain in order. -/
def chainBytes (chain : List Block) : List Byte := chain.flatMap Block.payload

/-- A chain as R55 leaves it: full blocks, but for the last one, which holds 1 to 96 bytes. -/
def chainOk (chain : List Block) : Prop :=
  (∀ b ∈ chain.dropLast, b.payload.length = 96) ∧ ∀ b ∈ chain.getLast?, b.payload.length ≤ 96

theorem chainOk_cons {b c : Block} {rest : List Block} (h : chainOk (b :: c :: rest)) :
    b.payload.length = 96 ∧ chainOk (c :: rest) := by
  obtain ⟨hfull, hlast⟩ := h
  refine ⟨hfull b (by simp), fun x hx => hfull x ?_, fun x hx => hlast x ?_⟩
  · rw [List.dropLast_cons_cons]
    exact List.mem_cons_of_mem _ hx
  · rw [List.getLast?_cons_cons]
    exact hx

theorem chainByte_eq {chain : List Block} (h : chainOk chain) (o : Nat) :
    chainByte chain o = (chainBytes chain)[o]? := by
  induction chain generalizing o with
  | nil => rfl
  | cons b rest ih =>
    have hcons : chainBytes (b :: rest) = b.payload ++ chainBytes rest := rfl
    rw [hcons, List.getElem?_append]
    unfold chainByte
    by_cases ho : o < 96
    · rw [Nat.div_eq_of_lt ho, Nat.mod_eq_of_lt ho]
      show b.payload[o]? = _
      cases rest with
      | nil =>
        split
        · rfl
        · next hlt => simp [chainBytes, Nat.not_lt.1 hlt]
      | cons c rest =>
        rw [(chainOk_cons h).1, if_pos ho]
    · have hdiv : o / 96 = (o - 96) / 96 + 1 := by omega
      have hmod : o % 96 = (o - 96) % 96 := by omega
      rw [hdiv, hmod, List.getElem?_cons_succ]
      cases rest with
      | nil =>
        have hlast : b.payload.length ≤ 96 := h.2 b rfl
        rw [if_neg (by omega)]
        simp [chainBytes]
      | cons c rest =>
        rw [(chainOk_cons h).1, if_neg ho]
        exact ih (chainOk_cons h).2 (o - 96)

theorem chainLength_eq {chain : List Block} (hne : chain ≠ []) (h : chainOk chain) :
    chainLength chain = (chainBytes chain).length := by
  induction chain with
  | nil => exact absurd rfl hne
  | cons b rest ih =>
    cases rest with
    | nil => simp [chainLength, chainBytes]
    | cons c rest =>
      obtain ⟨hb, hrest⟩ := chainOk_cons h
      have hlength := ih nofun hrest
      have hcons : chainBytes (b :: c :: rest) = b.payload ++ chainBytes (c :: rest) := rfl
      rw [hcons, List.length_append, ← hlength, hb]
      unfold chainLength
      rw [List.getLast?_cons_cons]
      simp only [List.length_cons, Nat.add_sub_cancel]
      omega

/-- Elements read one after another are the front of the list. -/
theorem filterMap_range_getElem? {α : Type} (l : List α) (n : Nat) :
    (List.range n).filterMap (fun k => l[k]?) = l.take n := by
  induction n with
  | zero => rfl
  | succ n ih =>
    rw [List.range_succ, List.filterMap_append, ih, List.take_add_one]
    cases hn : l[n]? <;> simp [hn]

theorem readChain_eq {chain : List Block} (hne : chain ≠ []) (h : chainOk chain) (offset length : Nat) :
    readChain chain offset length = ((chainBytes chain).drop offset).take (min length 96) := by
  have hread (k : Nat) : chainByte chain (offset + k) = ((chainBytes chain).drop offset)[k]? := by
    rw [chainByte_eq h, List.getElem?_drop]
  unfold readChain
  simp only [hread]
  rw [filterMap_range_getElem?, chainLength_eq hne h, ← List.length_drop, List.take_eq_take_iff]
  omega

/-! ### Handles (R2) -/

theorem withHandle_badSlot {h : Handle} (hslot : 31 < h.slot) (f : Entry → State → State) (s : State) :
    withHandle h f s = s.refuse .badArgument := if_pos hslot

theorem withHandle_stale {h : Handle} {s : State} (hslot : h.slot ≤ 31)
    (hstale : s.entryAt h.slot = none ∨ s.genAt h.slot ≠ h.gen) (f : Entry → State → State) :
    withHandle h f s = s.refuse .staleHandle := by
  unfold withHandle
  rw [if_neg (Nat.not_lt.2 hslot)]
  cases he : s.entryAt h.slot with
  | none => rfl
  | some e =>
    rcases hstale with hnone | hgen
    · rw [he] at hnone
      cases hnone
    · exact if_neg hgen

theorem withHandle_entry {h : Handle} {s : State} {e : Entry} (hslot : h.slot ≤ 31) (he : s.entryAt h.slot = some e)
    (hgen : s.genAt h.slot = h.gen) (f : Entry → State → State) : withHandle h f s = f e s := by
  unfold withHandle
  rw [if_neg (Nat.not_lt.2 hslot), he]
  exact if_pos hgen

/-- What the handle of a command finds after the arrival of its transfer. -/
theorem State.begin_activity_entryAt (s : State) (i : Nat) : s.begin.activity.entryAt i = s.entryAt i := by
  rw [State.activity_entryAt, State.begin_entryAt]

theorem State.begin_activity_genAt (s : State) (i : Nat) : s.begin.activity.genAt i = s.genAt i := by
  rw [State.activity_genAt, State.begin_genAt]

/-- The three outcomes of a command that names an entry by its handle. -/
theorem handleCommand {s : State} {cfg : Settings} {h : Handle} {f : Entry → State → State}
    (hsettled : s.settled = true) (hfree : s.linkFree = true) (hconfig : s.al.config = some cfg) :
    (31 < h.slot → command (withHandle h f) s = .next (s.answered (.refused .badArgument)))
      ∧ (h.slot ≤ 31 → (s.entryAt h.slot = none ∨ s.genAt h.slot ≠ h.gen) →
          command (withHandle h f) s = .next (s.answered (.refused .staleHandle))) := by
  refine ⟨fun hslot => ?_, fun hslot hstale => ?_⟩
  · exact command_eq_answered hsettled hfree hconfig (withHandle_badSlot hslot f _)
  · refine command_eq_answered hsettled hfree hconfig (withHandle_stale hslot ?_ f)
    rw [State.begin_activity_entryAt, State.begin_activity_genAt]
    exact hstale

/-! ### READ_ALERT and READ_TEXT (R185, R186) -/

theorem readText_eq {s : State} {cfg : Settings} {h : Handle} {e : Entry} {index : Nat} (offset length : Nat)
    (hsettled : s.settled = true) (hfree : s.linkFree = true) (hconfig : s.al.config = some cfg) (hslot : h.slot ≤ 31)
    (he : s.entryAt h.slot = some e) (hgen : s.genAt h.slot = h.gen) (hindex : index ≤ 3) :
    exec (.readText h index offset length) s =
      .next (s.answered (textResponse e.texts[index]? offset length)) := by
  refine command_eq_answered hsettled hfree hconfig ((if_neg (Nat.not_lt.2 hindex)).trans ?_)
  exact withHandle_entry hslot ((s.begin_activity_entryAt _).trans he) ((s.begin_activity_genAt _).trans hgen) _

theorem readText_refused {s : State} {cfg : Settings} {h : Handle} {index : Nat} (offset length : Nat)
    (hsettled : s.settled = true) (hfree : s.linkFree = true) (hconfig : s.al.config = some cfg)
    (hbad : 3 < index ∨ 31 < h.slot) :
    exec (.readText h index offset length) s = .next (s.answered (.refused .badArgument)) := by
  refine command_eq_answered hsettled hfree hconfig ?_
  split
  · rfl
  · next hindex =>
    rcases hbad with hbad | hbad
    · exact absurd hbad hindex
    · exact withHandle_badSlot hbad _ _

theorem readText_stale {s : State} {cfg : Settings} {h : Handle} {index : Nat} (offset length : Nat)
    (hsettled : s.settled = true) (hfree : s.linkFree = true) (hconfig : s.al.config = some cfg) (hslot : h.slot ≤ 31)
    (hstale : s.entryAt h.slot = none ∨ s.genAt h.slot ≠ h.gen) (hindex : index ≤ 3) :
    exec (.readText h index offset length) s = .next (s.answered (.refused .staleHandle)) := by
  refine command_eq_answered hsettled hfree hconfig ((if_neg (Nat.not_lt.2 hindex)).trans ?_)
  refine withHandle_stale hslot ?_ _
  rw [State.begin_activity_entryAt, State.begin_activity_genAt]
  exact hstale

theorem readAlert_eq {s : State} {cfg : Settings} {h : Handle} {e : Entry}
    (hsettled : s.settled = true) (hfree : s.linkFree = true) (hconfig : s.al.config = some cfg) (hslot : h.slot ≤ 31)
    (he : s.entryAt h.slot = some e) (hgen : s.genAt h.slot = h.gen) (hfresh : s.freshAt s.now) :
    exec (.readAlert h) s = .next (s.answered (.summary (s.summary h.slot e))) := by
  have he' : s.begin.activity.entryAt h.slot = some e := (s.begin_activity_entryAt _).trans he
  refine command_eq_answered hsettled hfree hconfig ?_
  refine (withHandle_entry hslot he' ((s.begin_activity_genAt _).trans hgen) _).trans ?_
  unfold State.respondSummary
  dsimp only
  rw [State.dropStale_begin_activity hfresh, he']
  dsimp only
  unfold State.summary State.handleAt
  rw [State.begin_activity_genAt, State.activity_now]
  rfl

/-- Settles O37: the answer is computed from the entry the handle names, and a text is read byte by byte of its
chain. -/
theorem readAlertAndReadTextComplete : Obligations.ReadAlertAndReadTextComplete := by
  intro s h cfg hsettled hfree hconfig
  refine ⟨(handleCommand hsettled hfree hconfig).1, fun hslot hstale =>
      ⟨(handleCommand hsettled hfree hconfig).2 hslot hstale, fun index hindex offset length =>
        readText_stale offset length hsettled hfree hconfig hslot hstale hindex⟩,
    fun index offset length hbad => readText_refused offset length hsettled hfree hconfig hbad,
    fun e hslot he hgen => ⟨fun hfresh => ?_, fun index hindex offset length => ?_⟩⟩
  · refine ⟨s.summary h.slot e, readAlert_eq hsettled hfree hconfig hslot he hgen hfresh, ?_, rfl, rfl, rfl, rfl, rfl, rfl,
      rfl, rfl, rfl, ?_, ?_, fun k t ht => ⟨t.state.report, ?_, ?_⟩, rfl, rfl, rfl, rfl, rfl⟩
    · show (⟨h.slot, s.genAt h.slot⟩ : Handle) = h
      rw [hgen]
    · show e.remaining s.now = _
      unfold Entry.remaining
      simp only [Entry.isExpired_iff]
    · show (e.texts.map fun t => (t.lang, t.state.report)).map Prod.fst = _
      rw [List.map_map]
      rfl
    · show (e.texts.map fun t => (t.lang, t.state.report))[k]? = _
      rw [List.getElem?_map, ht]
      rfl
    · cases t.state <;> rfl
  · have hexec := readText_eq offset length hsettled hfree hconfig hslot he hgen hindex
    cases ht : e.texts[index]? with
    | none =>
      rw [hexec, ht]
      rfl
    | some t =>
      rw [ht] at hexec
      unfold textResponse at hexec
      dsimp only at hexec ⊢
      split
      · next hstate => rw [hexec, hstate]
      · next hstate => rw [hexec, hstate]
      · next hstate => rw [hexec, hstate]
      · next chain hstate =>
        intro hne hfull hlast
        rw [hexec, hstate]
        dsimp only
        rw [readChain_eq hne ⟨hfull, fun b hb => (hlast b hb).2⟩]
        rfl

/-! ### ACKNOWLEDGE (R80, R81) -/

/-- The entry as it enters ACKNOWLEDGED at `now`, before the own tag. -/
def Entry.acknowledgedAt (e : Entry) (now : Micros) : Entry :=
  { e with state := .acknowledged, ownAck := true, acked := some now }

theorem State.enterAcknowledged_same {s : State} {i : Nat} {e : Entry} (he : s.entryAt i = some e)
    (h : addTag e.tally s.settings.tag = e.tally) :
    s.enterAcknowledged i = s.modifyEntry i fun _ => e.acknowledgedAt s.now := by
  have he' := State.entryAt_modifyEntry_same he fun e => e.acknowledgedAt s.now
  unfold State.enterAcknowledged
  rw [← State.modifyEntry_of_entryAt he fun e => e.acknowledgedAt s.now]
  exact State.addOwnTag_same he' h

theorem State.enterAcknowledged_frame (s : State) (i : Nat) :
    ∃ f tu, s.enterAcknowledged i = { s.modifyEntry i f with tu := tu } := by
  unfold State.enterAcknowledged
  generalize hf : (fun e : Entry => { e with state := .acknowledged, ownAck := true, acked := some s.now }) = f
  cases he : (s.modifyEntry i f).entryAt i with
  | none =>
    refine ⟨f, s.tu, ?_⟩
    unfold State.addOwnTag
    rw [he]
    rfl
  | some e =>
    by_cases h : addTag e.tally (s.modifyEntry i f).settings.tag = e.tally
    · exact ⟨f, s.tu, State.addOwnTag_same he h⟩
    · have hnew := State.addOwnTag_new he h
      rw [State.modifyEntry_modifyEntry] at hnew
      exact ⟨_, _, hnew⟩

/-- The dirty report finds an entry that is not EXPIRED by its state. -/
theorem State.tagged_acknowledgedAt (s : State) {e : Entry} (h : e.state.name ≠ .expired) :
    s.tagged (e.acknowledgedAt s.now) =
      { e.acknowledgedAt s.now with tally := addTag e.tally s.settings.tag, tallySend := s.dirtied s.now e } := by
  have hdirtied : s.dirtied s.now (e.acknowledgedAt s.now) = s.dirtied s.now e := by
    unfold State.dirtied Entry.acknowledgedAt
    dsimp only
    split
    · have hack : EntryState.acknowledged.name ≠ .expired := nofun
      simp only [ne_eq, h, hack]
    all_goals rfl
  unfold State.tagged
  rw [hdirtied]
  rfl

theorem State.enterAcknowledged_new {s : State} {i : Nat} {e : Entry} (he : s.entryAt i = some e)
    (h : addTag e.tally s.settings.tag ≠ e.tally) :
    s.enterAcknowledged i = { s.modifyEntry i fun _ => s.tagged (e.acknowledgedAt s.now) with
      tu := { s.tu with reportQueue := s.reportJoins i (s.tagged (e.acknowledgedAt s.now)) } } := by
  have he' := State.entryAt_modifyEntry_same he fun e => e.acknowledgedAt s.now
  have hadd := State.addOwnTag_new he' h
  have htagged : (s.modifyEntry i fun e => e.acknowledgedAt s.now).tagged (e.acknowledgedAt s.now) =
      s.tagged (e.acknowledgedAt s.now) := rfl
  have hjoins : (s.modifyEntry i fun e => e.acknowledgedAt s.now).reportJoins i (s.tagged (e.acknowledgedAt s.now)) =
      s.reportJoins i (s.tagged (e.acknowledgedAt s.now)) :=
    State.reportJoins_congr rfl rfl (s.genAt_modifyEntry i i _)
  rw [htagged, State.modifyEntry_modifyEntry, hjoins] at hadd
  exact hadd

/-- The end of an event that leaves the sidelink as it was, and Power Control at rest, is R172. -/
theorem State.finish_eq_sendReport {s m : State} (h : s.settled = true) (hk : m.keepsPower) (hslc : m.slc = s.slc)
    (hpart : m.al.participation = s.al.participation) : m.finish = m.sendReport := by
  have hhead : m.noHeadTaken := by
    unfold State.noHeadTaken
    rw [hslc, hpart]
    exact State.noHeadTaken_of_settled h
  rw [State.finish_of_keepsPower hk, State.takeHead_of_noHeadTaken hhead]

/-- What ACKNOWLEDGE leaves of a PRESENTING or HELD entry and of the rest of the part. -/
theorem acknowledged_completes {s u : State} {i : Nat} {e : Entry} (hsettled : s.settled = true)
    (hu : u = s.begin.activity) (hk : u.keepsPower) (he : s.entryAt i = some e)
    (hlive : e.state.name ≠ .expired) :
    ∃ e', (((u.enterAcknowledged i).respond .done).finish).entryAt i = some e'
      ∧ e' = { e with state := .acknowledged, ownAck := true, acked := some s.now
                      tally := addTag e.tally s.settings.tag, tallySend := e'.tallySend }
      ∧ (addTag e.tally s.settings.tag = e.tally →
          e'.tallySend = e.tallySend ∧ (((u.enterAcknowledged i).respond .done).finish).tu = s.tu)
      ∧ (addTag e.tally s.settings.tag ≠ e.tally →
          e'.tallySend = s.dirtied s.now e
            ∧ s.ReportTested (((u.enterAcknowledged i).respond .done).finish) i e')
      ∧ (((u.enterAcknowledged i).respond .done).finish).al = { s.al with response := some .done }
      ∧ (∀ k, k ≠ i → (((u.enterAcknowledged i).respond .done).finish).entryAt k = s.entryAt k) := by
  have huslc : u.slc = s.slc := by rw [hu, State.activity_slc, State.begin_slc]
  have hutu : u.tu = s.tu := by rw [hu, State.activity_tu, State.begin_tu]
  have hufp : u.fp = s.fp := by rw [hu, State.activity_fp, State.begin_fp]
  have hual : u.al = s.al := by rw [hu, State.activity_al, State.begin_al]
  have hupart : u.al.participation = s.al.participation := congrArg Al.participation hual
  have hunow : u.now = s.now := by rw [hu, State.activity_now, State.begin_now]
  have huout : u.out = Outputs.none := by rw [hu, State.activity_out]; rfl
  have hentries (k : Nat) : u.entryAt k = s.entryAt k := by rw [hu, State.begin_activity_entryAt]
  have hgens (k : Nat) : u.genAt k = s.genAt k := by rw [hu, State.begin_activity_genAt]
  have hsettings : u.settings = s.settings := by unfold State.settings; rw [hual]
  have hue : u.entryAt i = some e := (hentries i).trans he
  by_cases hsame : addTag e.tally s.settings.tag = e.tally
  · have hm := State.enterAcknowledged_same hue (by rw [hsettings]; exact hsame)
    rw [hm]
    have hrest : ((u.modifyEntry i fun _ => e.acknowledgedAt u.now).respond .done).settled = true :=
      State.settled_congr hsettled (State.keepsPower_congr (s := u) rfl hk) huslc
        hupart hufp hutu
    rw [State.finish_of_settled hrest]
    refine ⟨_, State.entryAt_modifyEntry_same hue _, ?_, fun _ => ⟨rfl, hutu⟩, fun hne => absurd hsame hne, ?_,
      fun k hk => (State.entryAt_modifyEntry_ne hk _).trans (hentries k)⟩
    · rw [hunow, hsame]
      rfl
    · show { u.al with response := some .done } = _
      rw [hual]
  · have hm := State.enterAcknowledged_new hue (by rw [hsettings]; exact hsame)
    have htagged := u.tagged_acknowledgedAt hlive
    rw [hm]
    generalize hmeq : State.respond _ .done = m
    have hmk : m.keepsPower := by subst hmeq; exact State.keepsPower_congr (s := u) rfl hk
    have hjoins : u.reportJoins i (u.tagged (e.acknowledgedAt u.now)) =
        s.reportJoins i (u.tagged (e.acknowledgedAt u.now)) :=
      State.reportJoins_congr (congrArg Al.config hual) hutu (hgens i)
    have hfinish : m.finish = m.sendReport := by
      subst hmeq
      exact State.finish_eq_sendReport hsettled hmk huslc hupart
    have hentry (k : Nat) : m.finish.entryAt k = (u.modifyEntry i fun _ => u.tagged (e.acknowledgedAt u.now)).entryAt k := by
      rw [hfinish, State.entryAt, State.sendReport_atc]
      subst hmeq
      rfl
    have hal : m.al = { s.al with response := some .done } := by
      subst hmeq
      show { u.al with response := some .done } = _
      rw [hual]
    have hdirtied : u.dirtied = s.dirtied := State.dirtied_congr hual
    refine ⟨u.tagged (e.acknowledgedAt u.now), ?_, ?_, fun heq => absurd heq hsame, fun _ => ⟨?_, ?_⟩, ?_, fun k hk => ?_⟩
    · rw [hentry]
      exact State.entryAt_modifyEntry_same hue _
    · rw [htagged, hunow, hsettings]
      rfl
    · rw [htagged, hunow, hdirtied]
    · refine State.reportTested_finish ?_ ?_ ?_
      · rw [← hjoins]
        subst hmeq
        show ({ u.tu with reportQueue := _ } : Tu) = _
        rw [hutu]
      · subst hmeq
        exact hufp
      · subst hmeq
        show u.out.feed = none
        rw [huout]
        rfl
    · rw [hfinish, State.sendReport_al, hal]
    · rw [hentry, State.entryAt_modifyEntry_ne hk, hentries]

/-- ACKNOWLEDGE of the entry its handle names. -/
theorem acknowledge_eq {s : State} {cfg : Settings} {h : Handle} {e : Entry} (hfree : s.linkFree = true)
    (hconfig : s.al.config = some cfg) (hslot : h.slot ≤ 31) (he : s.entryAt h.slot = some e)
    (hgen : s.genAt h.slot = h.gen) :
    exec (.acknowledge h) s = .next (s.begin.activity.acknowledge h.slot e).finish := by
  show execAcknowledge h s = _
  unfold execAcknowledge command
  rw [event_eq, transfer_of_linkFree (s := s.begin) hfree,
    whenConfigured_of_config (s := s.begin.activity) (by rw [State.activity_al]; exact hconfig),
    withHandle_entry hslot ((s.begin_activity_entryAt _).trans he) ((s.begin_activity_genAt _).trans hgen)]

/-- ACKNOWLEDGE of a PRESENTING or HELD entry leaves every other block as it was. -/
theorem acknowledged_frame {s : State} (i : Nat) (hsettled : s.settled = true) {cfg : Settings}
    (hconfig : s.al.config = some cfg) :
    let t := ((s.begin.activity.enterAcknowledged i).respond .done).finish
    (∀ k, t.genAt k = s.genAt k) ∧ t.sa = s.sa ∧ t.slc = s.slc ∧ t.fp = s.fp ∧ t.atc.position = s.atc.position
      ∧ t.atc.optIn = s.atc.optIn ∧ t.atc.map = s.atc.map ∧ t.now = s.now := by
  intro t
  have hk : s.begin.activity.keepsPower := State.keepsPower_activity (s := s.begin) hconfig
  have hpart : s.begin.activity.al.participation = s.al.participation :=
    congrArg Al.participation (State.activity_al s.begin)
  obtain ⟨f, tu, hm⟩ := s.begin.activity.enterAcknowledged_frame i
  have ht : t = (State.respond { s.begin.activity.modifyEntry i f with tu := tu } .done).sendReport := by
    have hmt : t = (State.respond { s.begin.activity.modifyEntry i f with tu := tu } .done).finish := by rw [← hm]
    rw [hmt]
    refine State.finish_eq_sendReport hsettled (State.keepsPower_congr rfl hk) (State.activity_slc s.begin) ?_
    exact hpart
  have hatc : t.atc = (s.begin.activity.modifyEntry i f).atc := by rw [ht, State.sendReport_atc]; rfl
  refine ⟨fun k => ?_, ?_, ?_, ?_, ?_, ?_, ?_, ?_⟩
  · rw [State.genAt, hatc]
    exact ((s.begin.activity).genAt_modifyEntry i k f).trans (s.begin_activity_genAt k)
  · rw [ht, State.sendReport_sa]
    exact State.activity_sa s.begin
  · rw [ht, State.sendReport_slc]
    exact State.activity_slc s.begin
  · rw [ht, State.sendReport_fp]
    exact State.activity_fp s.begin
  · rw [hatc, State.modifyEntry_atc_position, State.activity_atc, State.begin_atc]
  · rw [hatc, State.modifyEntry_atc_optIn, State.activity_atc, State.begin_atc]
  · rw [hatc, State.modifyEntry_atc_map, State.activity_atc, State.begin_atc]
  · rw [ht, State.sendReport_now]
    exact State.activity_now s.begin

/-- Settles O36: the entry's state decides; the own tag, its dirty report and the report-due test follow. -/
theorem acknowledgeCompletes : Obligations.AcknowledgeCompletes := by
  intro s h cfg hsettled hfree hconfig
  refine ⟨(handleCommand hsettled hfree hconfig).1, (handleCommand hsettled hfree hconfig).2,
    fun e hslot he hgen => ?_⟩
  have hexec := acknowledge_eq hfree hconfig hslot he hgen
  have hk : s.begin.activity.keepsPower := State.keepsPower_activity (s := s.begin) hconfig
  have hanswered (r : Response) (hr : s.begin.activity.acknowledge h.slot e = s.begin.activity.respond r) :
      exec (.acknowledge h) s = .next (s.answered r) := by
    rw [hexec, hr]
    exact congrArg Host.Outcome.next (State.finish_of_settled (State.settled_answered hsettled r))
  have hsettings : s.settings = cfg := by
    unfold State.settings
    rw [hconfig]
    rfl
  have hactive (hst : e.state = .presenting ∨ e.state = .held) :
      s.begin.activity.acknowledge h.slot e = (s.begin.activity.enterAcknowledged h.slot).respond .done := by
    unfold State.acknowledge
    rcases hst with hst | hst <;> rw [hst]
  split
  · next hst => exact hanswered _ (by unfold State.acknowledge; rw [hst])
  · next hack =>
    split
    · next hst =>
      rw [hactive hst] at hexec
      have hlive : e.state.name ≠ .expired := by rcases hst with h | h <;> rw [h] <;> nofun
      obtain ⟨e', hentry, heq, hsame, hnew, hal, hothers⟩ :=
        acknowledged_completes hsettled rfl hk he hlive
      obtain ⟨hgens, hsa, hslc, hfp, hpos, hopt, hmap, hnow⟩ := acknowledged_frame h.slot hsettled hconfig
      rw [hsettings] at heq hsame hnew
      exact ⟨_, e', hexec, hentry, heq, hsame, hnew, hothers, hgens, hal, hsa, hslc, hfp, hpos, hopt, hmap, hnow⟩
    · next hst =>
      refine hanswered _ ?_
      unfold State.acknowledge
      cases hstate : e.state with
      | presenting => exact absurd (.inl hstate) hst
      | held => exact absurd (.inr hstate) hst
      | acknowledged => exact absurd hstate hack
      | collecting _ => rfl
      | cancelled => rfl
      | expired _ => rfl

end Sys2Proof.Machine
end

section
/-! CONFIGURE and SET_PARTICIPATION. -/

namespace Sys2Proof.Machine

/-! ### The category map as taken (R15, R181) -/

/-- A given element of a category that R181 accepts. -/
def categoryArgOk (a : CategoryArg) : Prop :=
  a.precedence ≤ 15 ∧ a.presentation.isSome = true ∧ a.relay.isSome = true

theorem takeCategory_some {a : CategoryArg} {d : CategoryEntry} (h : categoryArgOk a) :
    ∃ e : CategoryEntry, takeCategory (some a) d = some e ∧ e.precedence = a.precedence
      ∧ some e.presentation = a.presentation ∧ some e.relay = a.relay := by
  obtain ⟨p, pc, rc⟩ := a
  obtain ⟨hp, hpc, hrc⟩ := h
  obtain ⟨pc, rfl⟩ := Option.isSome_iff_exists.1 hpc
  obtain ⟨rc, rfl⟩ := Option.isSome_iff_exists.1 hrc
  exact ⟨⟨p, pc, rc⟩, if_pos hp, rfl, rfl, rfl⟩

theorem takeCategory_refused {a : CategoryArg} {d : CategoryEntry} (h : ¬ categoryArgOk a) :
    takeCategory (some a) d = none := by
  obtain ⟨p, pc, rc⟩ := a
  cases pc with
  | none => rfl
  | some pc =>
    cases rc with
    | none => rfl
    | some rc => exact if_neg fun hp => h ⟨hp, rfl, rfl⟩

/-- A map entry is what the record gives, or the default's. -/
def takenFrom (given : Option (Option CategoryArg)) (default : Option CategoryEntry) (e : CategoryEntry) : Prop :=
  match given with
  | some (some a) => e.precedence = a.precedence ∧ some e.presentation = a.presentation ∧ some e.relay = a.relay
  | _ => default = some e

theorem takeMap_some {gs : List (Option CategoryArg)} {ds : List CategoryEntry} (hlength : gs.length = ds.length)
    (hok : ∀ a, some a ∈ gs → categoryArgOk a) :
    ∃ cs, takeMap gs ds = some cs ∧ cs.length = ds.length
      ∧ ∀ (i : Nat) (e : CategoryEntry), cs[i]? = some e → takenFrom gs[i]? ds[i]? e := by
  induction gs generalizing ds with
  | nil =>
    cases ds with
    | nil => exact ⟨[], rfl, rfl, fun i e h => by simp at h⟩
    | cons d ds => cases hlength
  | cons g gs ih =>
    cases ds with
    | nil => cases hlength
    | cons d ds =>
      obtain ⟨cs, hcs, hlen, hall⟩ :=
        ih (Nat.succ.inj hlength) fun a ha => hok a (List.mem_cons_of_mem _ ha)
      have hfirst : ∃ c, takeCategory g d = some c ∧ takenFrom (some g) (some d) c := by
        cases g with
        | none => exact ⟨d, rfl, rfl⟩
        | some a =>
          obtain ⟨e, he, hp, hpc, hrc⟩ := takeCategory_some (d := d) (hok a (List.mem_cons_self ..))
          exact ⟨e, he, hp, hpc, hrc⟩
      obtain ⟨c, hc, htaken⟩ := hfirst
      refine ⟨c :: cs, by rw [takeMap, hc, hcs], congrArg Nat.succ hlen, fun i e he => ?_⟩
      cases i with
      | zero =>
        cases he
        exact htaken
      | succ i => exact hall i e he

theorem takeMap_length {gs : List (Option CategoryArg)} {ds cs : List CategoryEntry}
    (h : takeMap gs ds = some cs) : gs.length = ds.length ∧ ∀ a, some a ∈ gs → categoryArgOk a := by
  induction gs generalizing ds cs with
  | nil =>
    cases ds with
    | nil => exact ⟨rfl, fun a ha => by simp at ha⟩
    | cons d ds => cases h
  | cons g gs ih =>
    cases ds with
    | nil => cases h
    | cons d ds =>
      rw [takeMap] at h
      cases hc : takeCategory g d with
      | none => rw [hc] at h; cases h
      | some c =>
        cases hcs : takeMap gs ds with
        | none => rw [hc, hcs] at h; cases h
        | some cs' =>
          obtain ⟨hlength, hok⟩ := ih hcs
          refine ⟨congrArg Nat.succ hlength, fun a ha => ?_⟩
          rcases List.mem_cons.1 ha with rfl | ha
          · by_contra hno
            rw [takeCategory_refused hno] at hc
            cases hc
          · exact hok a ha

/-! ### CONFIGURE (R180 to R182) -/

theorem takenRecord_refused {r : ConfigRecord}
    (h : r.stationTag = none ∨ r.stationTag = some 0 ∨ r.dozeEnabled = none ∨ r.categories.length ≠ 16
      ∨ ∃ a : CategoryArg, some a ∈ r.categories
          ∧ (15 < a.precedence ∨ a.presentation = none ∨ a.relay = none)) : takenRecord r = none := by
  unfold takenRecord
  split
  · next tag doze map htag hdoze hmap =>
    obtain ⟨hlength, hok⟩ := takeMap_length hmap
    refine if_pos ?_
    rcases h with h | h | h | h | ⟨a, ha, hbad⟩
    · rw [htag] at h
      cases h
    · rw [htag] at h
      exact Option.some.inj h
    · rw [hdoze] at h
      cases h
    · exact absurd hlength h
    · obtain ⟨hp, hpc, hrc⟩ := hok a ha
      rcases hbad with hbad | hbad | hbad
      · exact absurd hp (Nat.not_le_of_lt hbad)
      · simp [hbad] at hpc
      · simp [hbad] at hrc
  · rfl

theorem takenRecord_some {r : ConfigRecord} {tag : Tag} {doze : Bool} (htag : r.stationTag = some tag) (hne : tag ≠ 0)
    (hdoze : r.dozeEnabled = some doze) (hlength : r.categories.length = 16)
    (hok : ∀ a : CategoryArg, some a ∈ r.categories →
      a.precedence ≤ 15 ∧ a.presentation.isSome = true ∧ a.relay.isSome = true) :
    ∃ map, takenRecord r = some (takenSettings r tag doze, map) ∧ map.length = 16
      ∧ ∀ (i : Nat) (e : CategoryEntry), map[i]? = some e → takenFrom r.categories[i]? defaultMap[i]? e := by
  obtain ⟨map, hmap, hlen, hall⟩ := takeMap_some (ds := defaultMap) hlength hok
  refine ⟨map, ?_, hlen, hall⟩
  unfold takenRecord
  rw [htag, hdoze, hmap]
  exact if_neg hne

theorem State.startMeasuring_eq (s : State) : s.startMeasuring = { s with
    slc := { s.slc with
      quietSince := if s.slc.carrier.isSome then none else some s.now
      busyStart := if s.slc.carrier.isSome then some s.now else none } } := by
  unfold State.startMeasuring
  cases hcarrier : s.slc.carrier <;> simp [State.withSlc]

theorem State.takeConfig_eq (s : State) (cfg : Settings) (map : List CategoryEntry) :
    s.takeConfig cfg map = { s with
      atc := { s.atc with map := map }
      al := { s.al with config := some cfg, response := some (.configured cfg map) }
      slc := { s.slc with
        medium := .idle
        quietSince := if s.slc.carrier.isSome then none else some s.now
        busyStart := if s.slc.carrier.isSome then some s.now else none }
      pwc := { s.pwc with hold := .running (s.now + 1000000 * cfg.awakeHold) } } := by
  unfold State.takeConfig
  dsimp only
  rw [State.startMeasuring_eq, ← seconds_eq]
  rfl

/-- A configuration taken by a part that holds its power-on state is a state of rest. -/
theorem takeConfig_settled {s t : State} {cfg : Settings} (hok : s.unconfiguredOk) (hconfig : s.al.config = none)
    (hpwc : t.pwc = { s.pwc with hold := .running (s.now + 1000000 * cfg.awakeHold) })
    (hqueue : t.slc.queue = s.slc.queue) (htu : t.tu = s.tu) : t.settled = true := by
  obtain ⟨-, -, hspwc, hstu, hslc, -, -⟩ := hok hconfig
  refine State.settled_of_keepsPower (.inl ?_) (.inr (.inr (.inl ?_))) ?_
  · rw [hpwc, hspwc]
    exact ⟨rfl, nofun⟩
  · rw [hqueue, hslc]
    rfl
  · unfold State.maySendReport
    rw [htu, hstu]
    simp [State.reset]

/-- Settles O32: a record within its ranges is taken element by element; another one is refused. -/
theorem configureCompletes : Obligations.ConfigureCompletes := by
  refine ⟨?_, ?_, ?_⟩
  · intro s r tag doze hok hconfig hfree htag hne hdoze hlength hcategories
    obtain ⟨map, hrecord, hmaplength, hall⟩ := takenRecord_some htag hne hdoze hlength hcategories
    refine ⟨map, hmaplength, fun i hi e he => ?_, ?_⟩
    · have htaken := hall i e he
      unfold takenFrom at htaken
      exact htaken
    · have hpower : s.begin.pwc.power = .awake := by
        rw [State.begin_pwc, (hok hconfig).2.2.1]
        rfl
      have hactive : s.begin.activity = s.begin := State.activity_unconfigured hpower hconfig
      refine transfer_eq hfree ?_ (takeConfig_settled hok hconfig rfl rfl rfl)
      rw [hactive]
      unfold State.configure
      rw [if_neg (by unfold State.configured; rw [State.begin_al, hconfig]; nofun), hrecord]
      exact State.takeConfig_eq _ _ _
  · intro s r hsettled hconfig hfree hbad
    refine transfer_eq_answered hsettled hfree ?_
    unfold State.configure
    rw [if_neg (by rw [State.activity_configured, State.configured, State.begin_al, hconfig]; nofun),
      takenRecord_refused hbad]
    rfl
  · intro s r cfg hsettled hconfig hfree
    refine transfer_eq_answered hsettled hfree (if_pos ?_)
    rw [State.activity_configured, State.configured, State.begin_al, hconfig]
    rfl

/-! ### The change to LISTEN-ONLY (R108, R136, R142) -/

/-- The entry of an ended job under LISTEN-ONLY (R132, R140). -/
def endedBy (job : Job) (e : Entry) : Entry :=
  match job.kind with
  | .relay =>
    if job.update = some e.relay.update ∧ e.relay.state = .sending then
      { e with relay := { e.relay with state := .withheld } }
    else e
  | .tally =>
    if e.tallySend.state = .queued ∨ e.tallySend.state = .staged ∨ e.tallySend.state = .sending then
      { e with tallySend := { e.tallySend with state := .idle } }
    else e

theorem State.reportEnded_listenOnly {s : State} (h : s.fullPart = false) (job : Job) :
    s.reportEnded job = s.modifyNamed job (endedBy job) := by
  unfold State.reportEnded
  cases hkind : job.kind with
  | relay =>
    dsimp only
    rw [h, if_neg (by nofun), State.relayReport_eq_modifyNamed]
    congr 1
    funext e
    simp only [endedBy, hkind, beq_iff_eq]
  | tally =>
    dsimp only
    rw [State.tallyReport_eq_modifyNamed]
    congr 1
    funext e
    simp only [endedBy, hkind, Bool.or_eq_true, beq_iff_eq, or_assoc]

/-- The sidelink after DEFER and CONTEND were left (R108, step 4). -/
def Slc.left (slc : Slc) : Slc :=
  { slc with medium := if slc.medium = .defer ∨ slc.medium.name = .contend then .idle else slc.medium }

theorem Slc.left_of_not {slc : Slc} (h : ¬ (slc.medium = .defer ∨ slc.medium.name = .contend)) : slc.left = slc := by
  unfold Slc.left
  rw [if_neg h]

theorem State.leaveContention_eq (s : State) : s.leaveContention = { s with slc := s.slc.left } := by
  unfold State.leaveContention
  split
  · next hmedium =>
    unfold Slc.left
    rw [if_pos (.inl hmedium)]
    rfl
  · next hmedium =>
    unfold Slc.left
    rw [if_pos (.inr (by rw [hmedium]; rfl))]
    rfl
  · next hdefer hcontend =>
    rw [Slc.left_of_not]
    rintro (h | h)
    · exact hdefer h
    · cases hmedium : s.slc.medium <;> rw [hmedium] at h <;> cases h
      exact hcontend _ _ _ hmedium

theorem Slc.left_emptied (slc : Slc) (now : Micros) : (slc.emptied now).left = slc.emptied now := by
  have hmedium : ¬ ((slc.emptied now).medium = .defer ∨ (slc.emptied now).medium.name = .contend) := by
    unfold Slc.emptied
    dsimp only
    split
    · nofun
    · next h => exact h
  unfold Slc.left
  rw [if_neg hmedium]

/-- The part with its participation set to LISTEN-ONLY. -/
def State.listening (s : State) : State := { s with al := { s.al with participation := .listenOnly } }

/-- With no job current, the queue is emptied and a contention left (R108). -/
theorem State.goListenOnly_idle {s : State} (h : s.slc.current = none) :
    s.goListenOnly = { s.listening with slc := Slc.left { s.slc with queue := [] } }.mapEntries withhold := by
  unfold State.goListenOnly
  rw [State.leaveContention_eq]
  dsimp only
  split
  · next c hc =>
    rw [h] at hc
    cases hc
  · rfl

/-- A burst on the air keeps its job, which gets the end mark (R100, R108). -/
theorem State.goListenOnly_onAir {s : State} {c : CurrentJob} (h : s.slc.current = some c)
    (hair : s.slc.medium.onAir = true) :
    s.goListenOnly =
      { s.listening with
        slc := { s.slc with queue := [], current := some { c with endMark := true } } }.mapEntries withhold := by
  have hquiet : ¬ (s.slc.medium = .defer ∨ s.slc.medium.name = .contend) := by
    intro hm
    rw [Medium.not_onAir_of_waiting hm] at hair
    cases hair
  unfold State.goListenOnly
  rw [State.leaveContention_eq]
  dsimp only
  split
  · next c' hc =>
    obtain rfl : c = c' := Option.some.inj (h.symm.trans hc)
    have hend : s.listening.endCurrent c = s.listening.withCurrent (some { c with endMark := true }) := if_pos hair
    unfold State.listening at hend
    rw [hend, Slc.left_of_not]
    · rfl
    · exact hquiet
  · next hno => exact absurd (h.symm.trans hno) nofun

/-- A job without a burst on the air ends at once (R100, R108). -/
theorem State.goListenOnly_ends {s : State} {c : CurrentJob} (h : s.slc.current = some c)
    (hair : s.slc.medium.onAir = false) :
    s.goListenOnly = (State.modifyNamed { s.listening with slc := Slc.emptied { s.slc with queue := [] } s.now } c.job
      (endedBy c.job)).mapEntries withhold := by
  unfold State.goListenOnly
  rw [State.leaveContention_eq]
  dsimp only
  split
  · next c' hc =>
    obtain rfl : c = c' := Option.some.inj (h.symm.trans hc)
    have hend : s.listening.endCurrent c = s.listening.emptyStage.reportEnded c.job :=
      if_neg (by show ¬ s.slc.medium.onAir = true; rw [hair]; nofun)
    unfold State.listening at hend
    rw [hend, State.reportEnded_listenOnly, State.modifyNamed_eq, State.modifyNamed_eq, State.emptyStage_eq,
      State.emptyStage_slc]
    · have hleft : Slc.left { (s.slc.emptied s.now) with queue := [] } = { (s.slc.emptied s.now) with queue := [] } :=
        Slc.left_emptied { s.slc with queue := [] } s.now
      generalize hu : State.mapEntries _ _ = u
      have hslc : u.slc = { (s.slc.emptied s.now) with queue := [] } := by
        rw [← hu]
        rfl
      rw [hslc, hleft, ← hslc, ← hu]
      rfl
    · rw [State.emptyStage_eq]
      rfl
  · next hno => exact absurd (h.symm.trans hno) nofun

/-- A relay state after the change to LISTEN-ONLY, where `ends` says that the entry's relay job ended at once. -/
def listenedRelay (ends : Prop) [Decidable ends] : RelayState → RelayState
  | .waiting _ | .queued | .staged => .withheld
  | .sending => if ends then .withheld else .sending
  | final => final

/-- A tally-send state after the change to LISTEN-ONLY, where `ends` says that the entry's tally job ended at once. -/
def listenedTally (ends : Prop) [Decidable ends] : TallySendState → TallySendState
  | .idle | .waiting _ | .queued | .staged => .idle
  | .sending => if ends then .idle else .sending

/-- An entry after the change to LISTEN-ONLY. -/
def Entry.listened (relayEnds tallyEnds : Prop) [Decidable relayEnds] [Decidable tallyEnds] (e : Entry) : Entry :=
  { e with
    relay := { e.relay with state := listenedRelay relayEnds e.relay.state }
    tallySend := { e.tallySend with state := listenedTally tallyEnds e.tallySend.state, resend := false } }

theorem Entry.listened_congr {p p' q q' : Prop} [Decidable p] [Decidable p'] [Decidable q] [Decidable q']
    (hp : p ↔ p') (hq : q ↔ q') (e : Entry) : e.listened p q = e.listened p' q' := by
  have hrelay (st : RelayState) : listenedRelay p st = listenedRelay p' st := by
    cases st <;> simp [listenedRelay, hp]
  have htally (st : TallySendState) : listenedTally q st = listenedTally q' st := by
    cases st <;> simp [listenedTally, hq]
  unfold Entry.listened
  rw [hrelay, htally]

theorem withhold_eq (e : Entry) : withhold e = e.listened False False := by
  have hrelay (st : RelayState) : (if st.unfinished then .withheld else st) = listenedRelay False st := by
    cases st <;> rfl
  have htally (st : TallySendState) : (if st = .sending then .sending else .idle) = listenedTally False st := by
    cases st <;> rfl
  unfold withhold Entry.listened
  rw [hrelay, htally]

theorem listenedRelay_of_ne {p q : Prop} [Decidable p] [Decidable q] {st : RelayState} (h : st ≠ .sending) :
    listenedRelay p st = listenedRelay q st := by
  cases st
  case sending => exact absurd rfl h
  all_goals rfl

theorem listenedTally_of_ne {p q : Prop} [Decidable p] [Decidable q] {st : TallySendState} (h : st ≠ .sending) :
    listenedTally p st = listenedTally q st := by
  cases st
  case sending => exact absurd rfl h
  all_goals rfl

theorem listenedTally_of_ends {p : Prop} [Decidable p] (h : p) (st : TallySendState) : listenedTally p st = .idle := by
  cases st
  case sending => exact if_pos h
  all_goals rfl

theorem withhold_endedBy (job : Job) (e : Entry) : withhold (endedBy job e) =
    e.listened (job.kind = .relay ∧ job.update = some e.relay.update) (job.kind = .tally) := by
  rw [withhold_eq]
  unfold endedBy
  cases hkind : job.kind with
  | relay =>
    rw [Entry.listened_congr (p' := job.update = some e.relay.update) (q' := False) (by simp) (by simp) e]
    dsimp only
    split
    · next h =>
      unfold Entry.listened
      rw [h.2, listenedRelay, if_pos h.1]
      rfl
    · next h =>
      by_cases hupdate : job.update = some e.relay.update
      · unfold Entry.listened
        rw [listenedRelay_of_ne (q := job.update = some e.relay.update) fun hs => h ⟨hupdate, hs⟩]
      · exact Entry.listened_congr (by simp [hupdate]) (by simp) e
  | tally =>
    rw [Entry.listened_congr (p' := False) (q' := True) (by simp) (by simp) e]
    dsimp only
    split
    · next h =>
      unfold Entry.listened
      rw [listenedTally_of_ends trivial]
      rfl
    · next h =>
      unfold Entry.listened
      rw [listenedTally_of_ne (q := True) fun hs => h (.inr (.inr hs))]

/-- The current job of the given kind has no burst on the air, and its reports go to the entry `e` of slot `i`. -/
def State.jobEnds (s : State) (i : Nat) (e : Entry) (kind : JobKind) : Prop :=
  s.slc.medium.onAir = false ∧ ∃ c ∈ s.slc.current, c.job.kind = kind
    ∧ s.slotOf c.job.id = some i ∧ (kind = .relay → c.job.update = some e.relay.update)

/-- The sidelink after the change to LISTEN-ONLY. -/
def Slc.Listened (slc : Slc) (now : Micros) (after : Slc) : Prop :=
  match slc.current with
  | none => after.current = none ∧ after.stage = slc.stage ∧ after.medium ≠ .defer ∧ after.medium.name ≠ .contend
  | some c =>
    if slc.medium.onAir = true then after = { slc with queue := [], current := some { c with endMark := true } }
    else after = Slc.emptied { slc with queue := [] } now

/-- `t` is `s` after the change to LISTEN-ONLY. -/
structure WentListenOnly (s t : State) : Prop where
  rest : t = { s.listening with slc := t.slc, atc := { s.atc with table := t.atc.table } }
  queue : t.slc.queue = []
  gens : ∀ i, t.genAt i = s.genAt i
  vacant : ∀ i, s.entryAt i = none → t.entryAt i = none
  entries : ∀ i e, s.entryAt i = some e → ∀ (p q : Prop) [Decidable p] [Decidable q],
    (p ↔ s.jobEnds i e .relay) → (q ↔ s.jobEnds i e .tally) → t.entryAt i = some (e.listened p q)
  sidelink : s.slc.Listened s.now t.slc

/-- The change where no job's reports go to an entry. -/
theorem wentListenOnly_mapEntries {s : State} {slc : Slc} (hqueue : slc.queue = [])
    (hnone : ∀ i e kind, ¬ s.jobEnds i e kind) (hslc : s.slc.Listened s.now slc) :
    WentListenOnly s ({ s.listening with slc := slc }.mapEntries withhold) where
  rest := rfl
  queue := hqueue
  gens i := State.genAt_mapEntries _ i _
  vacant i hi := by
    have hentry : State.entryAt { s.listening with slc := slc } i = none := hi
    rw [State.entryAt_mapEntries, hentry]
    rfl
  entries i e he p q _ _ hp hq := by
    have hentry : State.entryAt { s.listening with slc := slc } i = some e := he
    rw [State.entryAt_mapEntries, hentry]
    refine congrArg some ((withhold_eq e).trans (Entry.listened_congr ?_ ?_ e))
    · rw [hp, iff_false_intro (hnone i e .relay)]
    · rw [hq, iff_false_intro (hnone i e .tally)]
  sidelink := hslc

theorem wentListenOnly_goListenOnly (s : State) : WentListenOnly s s.goListenOnly := by
  cases hcurrent : s.slc.current with
  | none =>
    rw [State.goListenOnly_idle hcurrent]
    refine wentListenOnly_mapEntries rfl (fun i e kind h => ?_) ?_
    · obtain ⟨-, c, hc, -⟩ := h
      rw [hcurrent] at hc
      cases hc
    · unfold Slc.Listened
      rw [hcurrent]
      have hmedium : (Slc.left { s.slc with queue := [] }).medium =
          if s.slc.medium = .defer ∨ s.slc.medium.name = .contend then .idle else s.slc.medium := rfl
      refine ⟨hcurrent, rfl, ?_⟩
      rw [hmedium]
      split
      · exact ⟨nofun, nofun⟩
      · next h => exact not_or.1 h
  | some c =>
    cases hair : s.slc.medium.onAir with
    | true =>
      rw [State.goListenOnly_onAir hcurrent hair]
      refine wentListenOnly_mapEntries rfl (fun i e kind h => ?_) ?_
      · rw [h.1] at hair
        cases hair
      · unfold Slc.Listened
        rw [hcurrent, hair]
        rfl
    | false =>
      rw [State.goListenOnly_ends hcurrent hair]
      generalize hu : ({ s.listening with slc := Slc.emptied { s.slc with queue := [] } s.now } : State) = u
      have hslot : u.slotOf c.job.id = s.slotOf c.job.id := by subst hu; rfl
      have hends (i : Nat) (e : Entry) (kind : JobKind) : s.jobEnds i e kind ↔
          c.job.kind = kind ∧ s.slotOf c.job.id = some i ∧ (kind = .relay → c.job.update = some e.relay.update) := by
        unfold State.jobEnds
        rw [hcurrent, hair]
        simp
      have hentryAt (i : Nat) : (u.modifyNamed c.job (endedBy c.job)).entryAt i =
          (s.entryAt i).map fun e => if s.slotOf c.job.id = some i then endedBy c.job e else e := by
        have hsame (k : Nat) : u.entryAt k = s.entryAt k := by subst hu; rfl
        unfold State.modifyNamed
        rw [hslot]
        cases hs : s.slotOf c.job.id with
        | none => simp [hsame]
        | some k =>
          dsimp only
          rw [State.entryAt_modifyEntry, hsame]
          by_cases hki : k = i <;> simp [hki]
      refine ⟨?_, ?_, fun i => ?_, fun i hi => ?_, fun i e he p q _ _ hp hq => ?_, ?_⟩
      · rw [State.modifyNamed_eq]
        subst hu
        rfl
      · rw [State.modifyNamed_eq]
        subst hu
        rfl
      · rw [State.genAt_mapEntries]
        unfold State.modifyNamed
        subst hu
        split
        · exact State.genAt_modifyEntry _ _ _ _
        · rfl
      · rw [State.entryAt_mapEntries, hentryAt, hi]
        rfl
      · rw [State.entryAt_mapEntries, hentryAt, he]
        refine congrArg some ?_
        rw [hends] at hp hq
        dsimp only
        by_cases hmine : s.slotOf c.job.id = some i
        · rw [if_pos hmine, withhold_endedBy]
          exact Entry.listened_congr (by simp [hp, hmine]) (by simp [hq, hmine]) e
        · rw [if_neg hmine, withhold_eq]
          exact Entry.listened_congr (by simp [hp, hmine]) (by simp [hq, hmine]) e
      · unfold Slc.Listened
        rw [hcurrent, hair, State.modifyNamed_eq]
        subst hu
        rfl

theorem State.noHeadTaken_congr {s t : State} (hslc : t.slc = s.slc)
    (hpart : t.al.participation = s.al.participation) (h : s.noHeadTaken) : t.noHeadTaken := by
  unfold State.noHeadTaken at h ⊢
  rw [hslc, hpart]
  exact h

theorem State.maySendReport_congr {s t : State} (hfp : t.fp = s.fp) (htu : t.tu = s.tu) :
    t.maySendReport = s.maySendReport := by
  unfold State.maySendReport
  rw [hfp, htu]

/-- Settles O35: the job's ending and the withheld records together are the statement's rows. -/
theorem setParticipationCompletes : Obligations.SetParticipationCompletes := by
  intro s cfg hsettled hfree hconfig
  have hk : s.begin.activity.keepsPower := State.keepsPower_activity (s := s.begin) hconfig
  have hual : s.begin.activity.al = s.al := by rw [State.activity_al, State.begin_al]
  have hreport : s.maySendReport = false := (State.settled_iff.1 hsettled).2.1
  refine ⟨command_eq_answered hsettled hfree hconfig rfl, fun hidle => ?_, fun hlisten => ?_, fun hfull => ?_⟩
  · generalize ht : ({ s.answered .done with
      al := { s.al with participation := .full, response := some .done } } : State) = t
    have hslc : t.slc = s.slc := by subst ht; exact State.activity_slc s.begin
    refine command_eq hfree hconfig (t := t) ?_ (State.settled_of_keepsPower ?_ ?_ ?_)
    · unfold State.setParticipation State.respond State.withResponse
      rw [hual, ← ht]
      rfl
    · subst ht
      exact State.keepsPower_congr (s := s.begin.activity) rfl hk
    · rcases hidle with hfull | hqueue
      · refine State.noHeadTaken_congr hslc ?_ (State.noHeadTaken_of_settled hsettled)
        rw [← ht, hfull]
      · exact .inr (.inr (.inl (by rw [hslc, hqueue])))
    · rw [← hreport]
      subst ht
      exact State.maySendReport_congr (State.activity_fp s.begin) (State.activity_tu s.begin)
  · refine command_eq_answered hsettled hfree hconfig ?_
    unfold State.setParticipation State.fullPart
    rw [hual, hlisten]
    rfl
  · generalize hu : s.begin.activity = u at hk hual
    have hwent := wentListenOnly_goListenOnly u
    generalize hv : u.goListenOnly = v at hwent
    have huslc : u.slc = s.slc := by rw [← hu, State.activity_slc, State.begin_slc]
    have hunow : u.now = s.now := by rw [← hu, State.activity_now, State.begin_now]
    have hufp : u.fp = s.fp := by rw [← hu, State.activity_fp, State.begin_fp]
    have hutu : u.tu = s.tu := by rw [← hu, State.activity_tu, State.begin_tu]
    have husa : u.sa = s.sa := by rw [← hu, State.activity_sa, State.begin_sa]
    have huatc : u.atc = s.atc := by rw [← hu, State.activity_atc, State.begin_atc]
    have hentries (i : Nat) : u.entryAt i = s.entryAt i := by unfold State.entryAt; rw [huatc]
    have hjobEnds (i : Nat) (e : Entry) (kind : JobKind) : u.jobEnds i e kind ↔ s.jobEnds i e kind := by
      unfold State.jobEnds State.slotOf
      rw [huslc, huatc]
    have hvfp : v.fp = s.fp := by rw [hwent.rest]; exact hufp
    have hvtu : v.tu = s.tu := by rw [hwent.rest]; exact hutu
    have hval : v.al = { s.al with participation := .listenOnly } := by
      rw [hwent.rest]
      show { u.al with participation := .listenOnly } = _
      rw [hual]
    have hvpwc : v.pwc = u.pwc := by rw [hwent.rest]; rfl
    refine ⟨v.respond .done, ?_, ?_, hwent.queue, ?_, ?_, hvfp, hvtu, fun i => ?_, fun i => ?_, ?_⟩
    · refine command_eq hfree hconfig ?_ (State.settled_of_keepsPower ?_ (.inr (.inr (.inl hwent.queue))) ?_)
      · unfold State.setParticipation State.fullPart
        rw [hu, hual, hfull, ← hv]
        rfl
      · exact State.keepsPower_congr (s := u) hvpwc hk
      · rw [← hreport]
        exact State.maySendReport_congr hvfp hvtu
    · show { v.al with response := some .done } = _
      rw [hval]
    · exact hvpwc.trans ((congrArg State.pwc hu).symm.trans s.begin_activity_pwc)
    · show v.sa = s.sa
      rw [hwent.rest]
      exact husa
    · refine (hwent.gens i).trans ?_
      unfold State.genAt
      rw [huatc]
    · show v.entryAt i = _
      cases he : s.entryAt i with
      | none => exact hwent.vacant i ((hentries i).trans he)
      | some e =>
        exact hwent.entries i e ((hentries i).trans he) _ _ (hjobEnds i e .relay).symm (hjobEnds i e .tally).symm
    · have hside := hwent.sidelink
      rw [huslc, hunow] at hside
      exact hside

end Sys2Proof.Machine
end

section
/-! The staleness of the position and the hold limit: an event of a timer that expires after the position goes stale
need not be what it is after POSITION_STALE. -/

namespace Sys2Proof.Machine

/-- A part in RECEIVE, in a busy period that has 2998500 µs to go to the hold limit, whose quiet gap completes at the
very instant its position goes stale. -/
def receivingAtStaleness : State :=
  { State.reset with
    now := 59999000
    atc := { State.reset.atc with position := some ⟨0, .feed, 0⟩ }
    slc := { State.reset.slc with medium := .receive, quietSince := some 59998000, busyStart := some 59997500 }
    al := { State.reset.al with config := some { noSettings with zoneHold := 1, holdLimit := 3000 } } }

/-- The medium state a row leaves. -/
def mediumAfter (r : Result) : Option Medium :=
  match r with
  | .next t => some t.slc.medium
  | _ => none

/-- The same part after its POSITION_STALE. -/
def receivingAfterStaleness : State :=
  (receivingAtStaleness.begin.onTime receivingAtStaleness.begin.staleDue State.dropStale).finish

theorem positionStale_receiving : exec .positionStale receivingAtStaleness = .next receivingAfterStaleness := rfl

theorem jamDue_receiving : receivingAtStaleness.jamDue = some 62997500 := by decide

/-- Before the staleness the gap is not complete, and the hold limit is reached. -/
theorem holdLimit_before : mediumAfter (exec .holdLimitReached receivingAtStaleness) = some .jammed := by
  decide +kernel

/-- After the staleness the gap is complete, and the busy period with its hold limit over. -/
theorem holdLimit_after : mediumAfter (exec .holdLimitReached receivingAfterStaleness) = some .receive := by
  decide +kernel

/-- Refutes O33: HOLD_LIMIT_REACHED after the position goes stale. The clause on later timers asks that the row do in `s`
what it does after POSITION_STALE; but the clock's advance to the staleness completes the quiet gap, which ends the
busy period, so the row jams in the one state and has no effect in the other. -/
theorem not_positionEventsComplete : ¬ Obligations.PositionEventsComplete := by
  unfold Obligations.PositionEventsComplete
  rintro ⟨-, -, hstale⟩
  obtain ⟨t, hexec, -, -, -, -, -, htimers, -⟩ := hstale receivingAtStaleness (by decide +kernel)
  obtain rfl : receivingAfterStaleness = t := Host.Outcome.next.inj (positionStale_receiving.symm.trans hexec)
  have hmem : (Instr.holdLimitReached, some 62997500) ∈ receivingAtStaleness.timers := by
    refine List.mem_append_right _ (List.mem_append_right _ ?_)
    rw [← jamDue_receiving]
    simp [State.partTimers]
  have hsame := htimers .holdLimitReached 62997500 (.inl hmem) (by decide)
  have hmedium := congrArg mediumAfter hsame
  rw [holdLimit_before, holdLimit_after] at hmedium
  cases hmedium

end Sys2Proof.Machine
end

section
/-! The Segment Assembler's slots and the entries they serve (R49, R57): which changes of slots and of entries keep
them in agreement. -/

namespace Sys2Proof.Machine

/-- The entry gathers the segments of a slot with this key: it is COLLECTING that update of that identity. -/
def Entry.gathers (e : Entry) (key : SlotKey) : Prop :=
  e.id = key.id ∧ e.update = key.update ∧ e.state.name = .collecting

/-- The entry's text of this index is COLLECTING. -/
def Entry.awaits (e : Entry) (text : Nat) : Prop := ∃ x, e.texts[text]? = some x ∧ x.state = .collecting

/-- Both conditions on slots and entries together. -/
structure State.Assembled (s : State) : Prop where
  table : s.tableOk
  slots : s.assemblyOk

theorem State.slotsOk_iff {s : State} :
    s.slotsOk ↔ s.sa.slots.length = 8
      ∧ ∀ n m a b, s.slotAt n = some a → s.slotAt m = some b → a.key = b.key → n = m := by
  have hmem {n : Nat} {a : Slot} : s.slotAt n = some a ↔ ∃ h : n < s.sa.slots.length, s.sa.slots[n] = some a := by
    rw [State.slotAt_some, List.getElem?_eq_some_iff]
  unfold State.slotsOk State.slotKeys List.Nodup
  rw [List.pairwise_filterMap, List.pairwise_iff_getElem]
  refine and_congr_right fun _ => ⟨fun h n m a b ha hb hkey => ?_, fun h n m hn hm hlt x hx y hy hxy => ?_⟩
  · obtain ⟨hn, ha⟩ := hmem.1 ha
    obtain ⟨hm, hb⟩ := hmem.1 hb
    rcases lt_trichotomy n m with hlt | heq | hgt
    · exact absurd hkey (h n m hn hm hlt a.key (by simp [ha]) b.key (by simp [hb]))
    · exact heq
    · exact absurd hkey.symm (h m n hm hn hgt b.key (by simp [hb]) a.key (by simp [ha]))
  · obtain ⟨a, ha, rfl⟩ := Option.map_eq_some_iff.1 hx
    obtain ⟨b, hb, rfl⟩ := Option.map_eq_some_iff.1 hy
    exact absurd (h n m a b (hmem.2 ⟨hn, ha⟩) (hmem.2 ⟨hm, hb⟩) hxy) hlt.ne

/-- Each open slot is bound exactly where an entry gathers its segments, and then its text is COLLECTING. -/
theorem State.assemblyOk_iff {s : State} :
    s.assemblyOk ↔ s.slotsOk ∧ ∀ n sl, s.slotAt n = some sl →
      (sl.bound = true → ∃ i e, s.entryAt i = some e ∧ e.gathers sl.key)
        ∧ ∀ i e, s.entryAt i = some e → e.gathers sl.key → sl.bound = true ∧ e.awaits sl.key.text :=
  and_congr_right fun _ => forall_congr' fun _ => forall_congr' fun _ => forall_congr' fun _ =>
    and_congr_right fun _ => ⟨fun h i e he ⟨hid, hup, hst⟩ => h i e he hid hup hst,
      fun h i e he hid hup hst => h i e he ⟨hid, hup, hst⟩⟩

namespace State.Assembled

variable {s : State} (h : s.Assembled)
include h

theorem length : s.sa.slots.length = 8 := h.slots.1.1

theorem distinct {n m : Nat} {a b : Slot} (ha : s.slotAt n = some a) (hb : s.slotAt m = some b)
    (hkey : a.key = b.key) : n = m := (State.slotsOk_iff.1 h.slots.1).2 n m a b ha hb hkey

theorem unique {i j : Nat} {e f : Entry} (he : s.entryAt i = some e) (hf : s.entryAt j = some f)
    (hid : e.id = f.id) : i = j := (State.tableOk_iff.1 h.table).2 i j e f he hf hid

/-- A bound slot is one of the entry of its identity, which gathers it. -/
theorem gathers_of_bound {n i : Nat} {sl : Slot} {e : Entry} (hsl : s.slotAt n = some sl) (hb : sl.bound = true)
    (he : s.entryAt i = some e) (hid : e.id = sl.key.id) : e.gathers sl.key := by
  obtain ⟨j, f, hf, hg⟩ := ((State.assemblyOk_iff.1 h.slots).2 n sl hsl).1 hb
  obtain rfl : i = j := h.unique he hf (hid.trans hg.1.symm)
  rw [he] at hf
  cases hf
  exact hg

theorem of_gathers {n i : Nat} {sl : Slot} {e : Entry} (hsl : s.slotAt n = some sl) (he : s.entryAt i = some e)
    (hg : e.gathers sl.key) : sl.bound = true ∧ e.awaits sl.key.text :=
  ((State.assemblyOk_iff.1 h.slots).2 n sl hsl).2 i e he hg

end State.Assembled

/-- The change of the entries from `s` to `t`, as far as a slot with this key is concerned: the same slots gather its
segments, and a COLLECTING text stays so. -/
def State.ServesAs (s t : State) (key : SlotKey) : Prop :=
  (∀ k e, s.entryAt k = some e → e.gathers key → ∃ e', t.entryAt k = some e' ∧ e'.gathers key)
    ∧ ∀ k e', t.entryAt k = some e' → e'.gathers key →
      ∃ e, s.entryAt k = some e ∧ e.gathers key ∧ (e.awaits key.text → e'.awaits key.text)

/-- A state that has the slots of another, or fewer, whose entries serve those slots as before. -/
theorem State.Assembled.of_fewer {s t : State} (hs : s.Assembled) (htable : t.tableOk)
    (hlength : t.sa.slots.length = s.sa.slots.length)
    (hslots : ∀ n sl, t.slotAt n = some sl → ∃ old, s.slotAt n = some old ∧ old.key = sl.key ∧ old.bound = sl.bound)
    (hserves : ∀ n sl, t.slotAt n = some sl → s.ServesAs t sl.key) : t.Assembled := by
  refine ⟨htable, State.assemblyOk_iff.2 ⟨State.slotsOk_iff.2 ⟨hlength.trans hs.length, ?_⟩, fun n sl hsl => ?_⟩⟩
  · intro n m a b ha hb hkey
    obtain ⟨x, hx, hxa, -⟩ := hslots n a ha
    obtain ⟨y, hy, hyb, -⟩ := hslots m b hb
    exact hs.distinct hx hy (hxa.trans (hkey.trans hyb.symm))
  · obtain ⟨old, hold, hkey, hbound⟩ := hslots n sl hsl
    obtain ⟨hto, hback⟩ := hserves n sl hsl
    obtain ⟨hserved, -⟩ := (State.assemblyOk_iff.1 hs.slots).2 n old hold
    rw [hkey, hbound] at hserved
    refine ⟨fun hb => ?_, fun i e' he' hg => ?_⟩
    · obtain ⟨i, e, he, hg⟩ := hserved hb
      obtain ⟨e', he', hg'⟩ := hto i e he hg
      exact ⟨i, e', he', hg'⟩
    · obtain ⟨e, he, hge, hawaits⟩ := hback i e' he' hg
      rw [← hkey] at hge
      obtain ⟨hb, ha⟩ := hs.of_gathers hold he hge
      exact ⟨hbound ▸ hb, hawaits (hkey ▸ ha)⟩

/-! ### Changes that slots do not see -/

/-- What of an entry its slots depend on. -/
def Entry.gathering (e : Entry) : Identity × Nat × Option (List TextRecord) :=
  (e.id, e.update, if e.state.name = .collecting then some e.texts else none)

theorem Entry.gathering_eq {e e' : Entry} (h : e'.gathering = e.gathering) :
    e'.id = e.id ∧ e'.update = e.update ∧ (e'.state.name = .collecting ↔ e.state.name = .collecting)
      ∧ (e.state.name = .collecting → e'.texts = e.texts) := by
  unfold Entry.gathering at h
  simp only [Prod.mk.injEq] at h
  obtain ⟨hid, hup, htexts⟩ := h
  refine ⟨hid, hup, ?_⟩
  split at htexts <;> split at htexts <;> simp_all

theorem Entry.gathers_congr {e e' : Entry} (h : e'.gathering = e.gathering) (key : SlotKey) :
    e'.gathers key ↔ e.gathers key := by
  obtain ⟨hid, hup, hst, -⟩ := Entry.gathering_eq h
  unfold Entry.gathers
  rw [hid, hup, hst]

/-- `t` differs from `s` in nothing the slots depend on. -/
structure SameAssembly (s t : State) : Prop where
  slots : t.sa.slots = s.sa.slots
  length : t.atc.table.length = s.atc.table.length
  entries : ∀ k, (t.entryAt k).map Entry.gathering = (s.entryAt k).map Entry.gathering

namespace SameAssembly

theorem refl (s : State) : SameAssembly s s := ⟨rfl, rfl, fun _ => rfl⟩

theorem trans {s t u : State} (h : SameAssembly s t) (k : SameAssembly t u) : SameAssembly s u :=
  ⟨k.slots.trans h.slots, k.length.trans h.length, fun i => (k.entries i).trans (h.entries i)⟩

theorem ite {s t u : State} {p : Prop} [Decidable p] (h : SameAssembly s t) (k : SameAssembly s u) :
    SameAssembly s (if p then t else u) := by split <;> assumption

theorem of_eq {s t : State} (htable : t.atc.table = s.atc.table) (hslots : t.sa.slots = s.sa.slots) :
    SameAssembly s t :=
  ⟨hslots, congrArg _ htable, fun k => by rw [State.entryAt_def, htable, State.entryAt_def]⟩

theorem of_sidelinkOnly {s t : State} (h : SidelinkOnly s t) : SameAssembly s t := by
  refine ⟨congrArg _ h.sa, h.table, fun k => ?_⟩
  have hunsent : Entry.gathering = Entry.gathering ∘ Entry.unsent := rfl
  rw [hunsent, ← Option.map_map, ← Option.map_map, h.entryAt]

/-- One entry changed in what its slots do not depend on. -/
theorem modifyEntry (s : State) (i : Nat) {f : Entry → Entry}
    (h : ∀ e, s.entryAt i = some e → (f e).gathering = e.gathering) : SameAssembly s (s.modifyEntry i f) := by
  refine ⟨rfl, s.length_modifyEntry i f, fun k => ?_⟩
  rw [State.entryAt_modifyEntry]
  split
  · next hik =>
    subst hik
    cases he : s.entryAt i with
    | none => rfl
    | some e => exact congrArg some (h e he)
  · rfl

/-- Every entry changed in what its slots do not depend on. -/
theorem mapEntries (s : State) {f : Entry → Entry} (h : ∀ e, (f e).gathering = e.gathering) :
    SameAssembly s (s.mapEntries f) := by
  refine ⟨rfl, by simp, fun k => ?_⟩
  rw [State.entryAt_mapEntries, Option.map_map]
  exact congrArg (Option.map · (s.entryAt k)) (funext h)

theorem some_left {s t : State} (h : SameAssembly s t) {k : Nat} {e : Entry} (he : s.entryAt k = some e) :
    ∃ e', t.entryAt k = some e' ∧ e'.gathering = e.gathering := by
  have hk := h.entries k
  rw [he, Option.map_some] at hk
  exact Option.map_eq_some_iff.1 hk

theorem some_right {s t : State} (h : SameAssembly s t) {k : Nat} {e' : Entry} (he : t.entryAt k = some e') :
    ∃ e, s.entryAt k = some e ∧ e'.gathering = e.gathering := by
  have hk := h.entries k
  rw [he, Option.map_some] at hk
  obtain ⟨e, hs, hg⟩ := Option.map_eq_some_iff.1 hk.symm
  exact ⟨e, hs, hg.symm⟩

theorem servesAs {s t : State} (h : SameAssembly s t) (key : SlotKey) : s.ServesAs t key := by
  refine ⟨fun k e he hg => ?_, fun k e' he' hg => ?_⟩
  · obtain ⟨e', he', hsame⟩ := h.some_left he
    exact ⟨e', he', (Entry.gathers_congr hsame key).2 hg⟩
  · obtain ⟨e, he, hsame⟩ := h.some_right he'
    have hge := (Entry.gathers_congr hsame key).1 hg
    refine ⟨e, he, hge, fun ⟨x, hx, hst⟩ => ⟨x, ?_, hst⟩⟩
    rw [(Entry.gathering_eq hsame).2.2.2 hge.2.2]
    exact hx

theorem tableOk {s t : State} (h : SameAssembly s t) (hs : s.tableOk) : t.tableOk :=
  State.tableOk_of_entries h.length (fun _ _ he' =>
    let ⟨e, he, hsame⟩ := h.some_right he'
    ⟨e, he, (Entry.gathering_eq hsame).1.symm⟩) hs

theorem slotAt {s t : State} (h : SameAssembly s t) (n : Nat) : t.slotAt n = s.slotAt n := by
  unfold State.slotAt
  rw [h.slots]

theorem assembled {s t : State} (h : SameAssembly s t) (hs : s.Assembled) : t.Assembled :=
  .of_fewer hs (h.tableOk hs.table) (congrArg _ h.slots) (fun n sl hsl => ⟨sl, h.slotAt n ▸ hsl, rfl, rfl⟩)
    fun _ sl _ => h.servesAs sl.key

end SameAssembly

/-- A change of neither table nor slots. -/
theorem State.Assembled.of_eq {s t : State} (hs : s.Assembled) (htable : t.atc.table = s.atc.table)
    (hslots : t.sa.slots = s.sa.slots) : t.Assembled := (SameAssembly.of_eq htable hslots).assembled hs

theorem Entry.collecting_iff_name {e : Entry} : e.collecting = true ↔ e.state.name = .collecting := by
  unfold Entry.collecting
  cases e.state <;> simp [EntryState.name]

/-! ### One entry changed, or gone -/

/-- An entry may change in any way that the open slots do not see. -/
theorem State.Assembled.modifyEntry {s : State} (hs : s.Assembled) {i : Nat} {f : Entry → Entry}
    (hid : ∀ e, (f e).id = e.id)
    (hserves : ∀ e n sl, s.entryAt i = some e → s.slotAt n = some sl →
      (e.gathers sl.key → (f e).gathers sl.key)
        ∧ ((f e).gathers sl.key → e.gathers sl.key ∧ (e.awaits sl.key.text → (f e).awaits sl.key.text))) :
    (s.modifyEntry i f).Assembled := by
  refine hs.of_fewer ?_ rfl (fun n sl hsl => ⟨sl, hsl, rfl, rfl⟩) fun n sl hsl => ⟨fun k e he hg => ?_, fun k e' he' hg => ?_⟩
  · refine State.tableOk_of_entries (s.length_modifyEntry i f) (fun k e' he' => ?_) hs.table
    rw [State.entryAt_modifyEntry] at he'
    split at he'
    · obtain ⟨e, he, rfl⟩ := Option.map_eq_some_iff.1 he'
      exact ⟨e, he, (hid e).symm⟩
    · exact ⟨e', he', rfl⟩
  · rw [State.entryAt_modifyEntry]
    split
    · next hik =>
      subst hik
      rw [he]
      exact ⟨f e, rfl, (hserves e n sl he hsl).1 hg⟩
    · exact ⟨e, he, hg⟩
  · rw [State.entryAt_modifyEntry] at he'
    split at he'
    · next hik =>
      subst hik
      obtain ⟨e, he, rfl⟩ := Option.map_eq_some_iff.1 he'
      exact ⟨e, he, (hserves e n sl he hsl).2 hg⟩
    · exact ⟨e', he', hg, id⟩

/-- The entry whose slots are all closed may stop gathering. -/
theorem State.Assembled.stopGathering {s : State} (hs : s.Assembled) {i : Nat} {f : Entry → Entry}
    (hid : ∀ e, (f e).id = e.id)
    (hnone : ∀ e n sl, s.entryAt i = some e → s.slotAt n = some sl → ¬ e.gathers sl.key ∧ ¬ (f e).gathers sl.key) :
    (s.modifyEntry i f).Assembled :=
  hs.modifyEntry hid fun e n sl he hsl =>
    have ⟨hnot, hnot'⟩ := hnone e n sl he hsl
    ⟨fun hg => absurd hg hnot, fun hg => absurd hg hnot'⟩

theorem Entry.awaits_withText_ne {e : Entry} {text k : Nat} (st : TextState) (h : k ≠ text) (ha : e.awaits k) :
    (e.withText text st).awaits k := by
  obtain ⟨x, hx, hst⟩ := ha
  refine ⟨x, ?_, hst⟩
  unfold Entry.withText
  rw [List.getElem?_modify, hx]
  simp [Ne.symm h]

/-- The text of a closed slot may change. -/
theorem State.Assembled.withText {s : State} (hs : s.Assembled) {i : Nat} {key : SlotKey} {f : Entry → Entry}
    (hf : ∀ e, f e = e ∨ ∃ st, f e = e.withText key.text st)
    (hclosed : ∀ e n sl, s.entryAt i = some e → s.slotAt n = some sl → e.gathers sl.key → sl.key.text ≠ key.text) :
    (s.modifyEntry i f).Assembled := by
  refine hs.modifyEntry (fun e => ?_) fun e n sl he hsl => ?_
  · rcases hf e with h | ⟨st, h⟩ <;> rw [h]
    rfl
  · rcases hf e with h | ⟨st, h⟩ <;> rw [h]
    · exact ⟨id, fun hg => ⟨hg, id⟩⟩
    · refine ⟨id, fun hg => ⟨hg, fun ha => ?_⟩⟩
      exact Entry.awaits_withText_ne st (hclosed e n sl he hsl hg) ha

/-- An entry that no slot serves may leave the table. -/
theorem State.Assembled.removeEntry {s : State} (hs : s.Assembled) (i : Nat)
    (hnone : ∀ e n sl, s.entryAt i = some e → s.slotAt n = some sl → ¬ e.gathers sl.key) :
    (s.removeEntry i).Assembled := by
  have hentry (k : Nat) := s.removeEntry_entryAt i k
  refine hs.of_fewer ?_ rfl (fun n sl hsl => ⟨sl, hsl, rfl, rfl⟩) fun n sl hsl => ⟨fun k e he hg => ?_, fun k e' he' hg => ?_⟩
  · refine State.tableOk_of_entries (by simp [State.removeEntry, State.removeElement]) (fun k e' he' => ?_) hs.table
    rw [hentry] at he'
    split at he'
    · cases he'
    · exact ⟨e', he', rfl⟩
  · rw [hentry]
    split
    · next hik =>
      subst hik
      exact absurd hg (hnone e n sl he hsl)
    · exact ⟨e, he, hg⟩
  · rw [hentry] at he'
    split at he'
    · cases he'
    · exact ⟨e', he', hg, id⟩

/-! ### Slots closed -/

/-- Slots closed. -/
theorem State.Assembled.fewerSlots {s : State} (hs : s.Assembled) {l : List (Option Slot)}
    (hlength : l.length = s.sa.slots.length)
    (hslots : ∀ n sl, (s.withSlots l).slotAt n = some sl → s.slotAt n = some sl) : (s.withSlots l).Assembled :=
  hs.of_fewer hs.table hlength (fun n sl hsl => ⟨sl, hslots n sl hsl, rfl, rfl⟩)
    fun _ sl _ => (SameAssembly.refl s).servesAs sl.key

theorem State.slotAt_discardSlots (s : State) (p : Slot → Bool) (n : Nat) :
    (s.discardSlots p).slotAt n = (s.slotAt n).filter fun sl => !p sl := by
  unfold State.slotAt State.discardSlots
  rw [State.withSlots_sa_slots, List.getElem?_map]
  cases s.sa.slots[n]? <;> rfl

theorem State.slotAt_discardSlots_some {s : State} {p : Slot → Bool} {n : Nat} {sl : Slot} :
    (s.discardSlots p).slotAt n = some sl ↔ s.slotAt n = some sl ∧ p sl = false := by
  rw [State.slotAt_discardSlots, Option.filter_eq_some_iff]
  simp

theorem State.Assembled.discardSlots {s : State} (hs : s.Assembled) (p : Slot → Bool) :
    (s.discardSlots p).Assembled :=
  hs.fewerSlots (by simp) fun _ _ hsl => (State.slotAt_discardSlots_some.1 hsl).1

theorem State.slotAt_set {s : State} {n : Nat} {x : Option Slot} (hn : n < s.sa.slots.length) (m : Nat) :
    (s.withSlots (s.sa.slots.set n x)).slotAt m = if m = n then x else s.slotAt m := by
  unfold State.slotAt
  rw [State.withSlots_sa_slots, List.getElem?_set]
  split
  · next h =>
    rw [if_pos h.symm]
    rfl
  · next h => rw [if_neg (Ne.symm h)]

theorem State.slotAt_lt {s : State} {n : Nat} {sl : Slot} (h : s.slotAt n = some sl) : n < s.sa.slots.length :=
  (List.getElem?_eq_some_iff.1 (s.slotAt_some.1 h)).1

theorem State.slotAt_close {s : State} {n m : Nat} {sl : Slot}
    (h : (s.withSlots (s.sa.slots.set n none)).slotAt m = some sl) : m ≠ n ∧ s.slotAt m = some sl := by
  by_cases hn : n < s.sa.slots.length
  · rw [State.slotAt_set hn] at h
    split at h
    · cases h
    · next hne => exact ⟨hne, h⟩
  · rw [List.set_eq_of_length_le (Nat.le_of_not_lt hn)] at h
    exact ⟨fun he => hn (he ▸ State.slotAt_lt h), h⟩

theorem State.Assembled.closeSlot {s : State} (hs : s.Assembled) (n : Nat) :
    (s.withSlots (s.sa.slots.set n none)).Assembled :=
  hs.fewerSlots (by simp) fun _ _ hsl => (State.slotAt_close hsl).2

/-- A bound slot closed, and its text changed. -/
theorem State.Assembled.closeBound {s : State} (hs : s.Assembled) {n i : Nat} {sl : Slot} {f : Entry → Entry}
    (hsl : s.slotAt n = some sl) (hb : sl.bound = true) (hi : s.slotOf sl.key.id = some i)
    (hf : ∀ e, f e = e ∨ ∃ st, f e = e.withText sl.key.text st) :
    ((s.withSlots (s.sa.slots.set n none)).modifyEntry i f).Assembled := by
  refine (hs.closeSlot n).withText hf fun e m other he hother hg htext => ?_
  obtain ⟨hne, hm⟩ := State.slotAt_close hother
  obtain ⟨g, hgi, hid⟩ := State.slotOf_spec hi
  have he' : s.entryAt i = some e := he
  rw [he'] at hgi
  cases hgi
  obtain ⟨-, hup, -⟩ := hs.gathers_of_bound hsl hb he' hid
  obtain ⟨hoid, houp, -⟩ := hg
  refine hne (hs.distinct hm hsl ?_)
  rw [show other.key = ⟨other.key.id, other.key.update, other.key.text⟩ from rfl, ← hoid, ← houp, htext, hid, hup]

end Sys2Proof.Machine
end

section
/-! What the operations of the Alert Table controller and the Segment Assembler do to the agreement of slots and
entries. -/

namespace Sys2Proof.Machine

section
variable (s : State)

/-! ### Operations that slots do not see -/

theorem sameAssembly_modifyRelay (i : Nat) (f : RelayRecord → RelayRecord) : SameAssembly s (s.modifyRelay i f) :=
  .of_sidelinkOnly (sidelinkOnly_modifyRelay s i f)

theorem sameAssembly_modifyTallySend (i : Nat) (f : TallySend → TallySend) :
    SameAssembly s (s.modifyTallySend i f) := .of_sidelinkOnly (sidelinkOnly_modifyTallySend s i f)

theorem sameAssembly_queueNotice (n : Notice) : SameAssembly s (s.queueNotice n) :=
  .of_sidelinkOnly (sidelinkOnly_queueNotice s n)

theorem sameAssembly_startRelay (i : Nat) : SameAssembly s (s.startRelay i) :=
  .modifyEntry s i fun _ _ => rfl

theorem sameAssembly_testReportDue (i : Nat) : SameAssembly s (s.testReportDue i) := by
  unfold State.testReportDue
  split
  · exact .refl s
  · exact .ite (.of_eq rfl rfl) (.refl s)

theorem sameAssembly_dirtyReport (i : Nat) : SameAssembly s (s.dirtyReport i) := by
  unfold State.dirtyReport
  split
  · exact .refl s
  · split
    · exact .of_sidelinkOnly (sidelinkOnly_startTallyWait s i)
    · exact .refl s
    · exact .refl s
    · exact sameAssembly_modifyTallySend s i _
    · exact sameAssembly_modifyTallySend s i _

theorem sameAssembly_coveredReport (i : Nat) : SameAssembly s (s.coveredReport i) := by
  unfold State.coveredReport
  split
  · exact .refl s
  · have hcleared (f : TallySend → TallySend) := sameAssembly_modifyTallySend s i f
    split
    · exact hcleared _
    · exact (hcleared _).trans (.of_sidelinkOnly (sidelinkOnly_cutJob _ _ _))
    · exact (hcleared _).trans (.of_sidelinkOnly (sidelinkOnly_cutJob _ _ _))
    · exact hcleared _
    · exact hcleared _

theorem sameAssembly_addOwnTag (i : Nat) : SameAssembly s (s.addOwnTag i) := by
  unfold State.addOwnTag
  split
  · exact .refl s
  · next e _ =>
    have htally : SameAssembly s (s.modifyEntry i fun x => { x with tally := addTag e.tally s.settings.tag }) :=
      .modifyEntry s i fun _ _ => rfl
    exact .ite (.refl s) ((htally.trans (sameAssembly_dirtyReport _ i)).trans (sameAssembly_testReportDue _ i))

theorem sameAssembly_takeTally (t : TallySegment) : SameAssembly s (s.takeTally t) := by
  unfold State.takeTally
  split
  · exact .refl s
  · next i _ =>
    unfold State.mergeInto
    split
    · exact .refl s
    · next e _ =>
      have htally : SameAssembly s (s.modifyEntry i fun x => { x with tally := mergeTally e.tally t.tally }) :=
        .modifyEntry s i fun _ _ => rfl
      exact (htally.trans (.ite (sameAssembly_coveredReport _ i) (sameAssembly_dirtyReport _ i))).trans
        (sameAssembly_testReportDue _ i)

theorem sameAssembly_countDuplicate (i hop : Nat) : SameAssembly s (s.countDuplicate i hop) := by
  unfold State.countDuplicate
  split
  · exact .refl s
  · have hcounted (f : RelayRecord → RelayRecord) := sameAssembly_modifyRelay s i f
    exact .ite (((hcounted _).trans (sameAssembly_modifyRelay _ i _)).trans
      (.of_sidelinkOnly (sidelinkOnly_cutJob _ _ _))) (hcounted _)

theorem sameAssembly_stopSends (i : Nat) (id : Identity) : SameAssembly s (s.stopSends i id) := by
  unfold State.stopSends
  refine SameAssembly.trans (SameAssembly.trans ?_ (.of_sidelinkOnly (sidelinkOnly_endJob _ _ _)))
    (.of_sidelinkOnly (sidelinkOnly_endJob _ _ _))
  exact .modifyEntry s i fun _ _ => rfl

theorem sameAssembly_reportDone (o : Outstanding) : SameAssembly s (s.reportDone o) := by
  unfold State.reportDone
  dsimp only
  have hended : SameAssembly s (s.withTu { s.tu with outstanding := none }) := .of_eq rfl rfl
  split
  · next i _ =>
    have hcredited := hended.trans (.modifyEntry _ i (f := fun e => { e with lastReported := o.count }) fun _ _ => rfl)
    exact hcredited.trans (sameAssembly_testReportDue _ i)
  · exact hended

/-- Only a HELD entry is moved by re-evaluation. -/
theorem sameAssembly_reevaluateSlot (i : Nat) : SameAssembly s (s.reevaluateSlot i) := by
  unfold State.reevaluateSlot
  split
  · exact .refl s
  · next e he =>
    split
    · next hheld =>
      refine SameAssembly.trans (.modifyEntry s i fun f hf => ?_) (sameAssembly_queueNotice _ _)
      rw [he] at hf
      cases hf
      unfold Entry.gathering
      rw [hheld.1]
      rfl
    · exact .refl s

theorem sameAssembly_reevaluate : SameAssembly s s.reevaluate := by
  unfold State.reevaluate
  generalize List.range s.atc.table.length = l
  induction l generalizing s with
  | nil => exact .refl s
  | cons i l ih => exact (sameAssembly_reevaluateSlot s i).trans (ih _)

theorem sameAssembly_changePosition (p : Option Position) : SameAssembly s (s.changePosition p) := by
  have hwritten : SameAssembly s { s with atc := { s.atc with position := p } } := .of_eq rfl rfl
  refine SameAssembly.trans (hwritten.trans ?_) (sameAssembly_reevaluate _)
  exact .mapEntries _ fun _ => rfl

theorem sameAssembly_leaveContention : SameAssembly s s.leaveContention := by
  rw [State.leaveContention_eq]
  exact .of_eq rfl rfl

theorem sameAssembly_goListenOnly : SameAssembly s s.goListenOnly := by
  have hset : SameAssembly s { s with al := { s.al with participation := .listenOnly } } := .of_eq rfl rfl
  unfold State.goListenOnly
  dsimp only
  refine SameAssembly.trans ?_ (sameAssembly_leaveContention _)
  refine SameAssembly.trans ?_ (.mapEntries _ fun _ => rfl)
  refine SameAssembly.trans ?_ (.of_sidelinkOnly (sidelinkOnly_withQueue _ _))
  refine hset.trans ?_
  split
  · exact .of_sidelinkOnly (sidelinkOnly_endCurrent _ _)
  · exact .refl _

end

/-! ### Leaving COLLECTING -/

/-- Where no open slot's segments are gathered by the entry of a slot. -/
def State.unserved (s : State) (i : Nat) : Prop :=
  ∀ e n sl, s.entryAt i = some e → s.slotAt n = some sl → ¬ e.gathers sl.key

theorem SameAssembly.unserved {s t : State} (h : SameAssembly s t) {i : Nat} (hs : s.unserved i) : t.unserved i := by
  intro e' n sl he' hsl hg
  obtain ⟨e, he, hsame⟩ := h.some_right he'
  exact hs e n sl he (h.slotAt n ▸ hsl) ((Entry.gathers_congr hsame sl.key).1 hg)

theorem State.unserved_of_not_collecting {s : State} {i : Nat} {e : Entry} (he : s.entryAt i = some e)
    (h : e.state.name ≠ .collecting) : s.unserved i := by
  intro f n sl hf _ hg
  rw [he] at hf
  cases hf
  exact h hg.2.2

namespace State.Assembled

variable {s : State} (hs : s.Assembled)
include hs

/-- An entry moved to a state that gathers nothing. -/
theorem enterState {i : Nat} {f : Entry → Entry} (hid : ∀ e, (f e).id = e.id)
    (hstate : ∀ e, (f e).state.name ≠ .collecting) (hnone : s.unserved i) : (s.modifyEntry i f).Assembled :=
  hs.stopGathering hid fun e n sl he hsl => ⟨hnone e n sl he hsl, fun hg => hstate e hg.2.2⟩

theorem enterAcknowledged {i : Nat} (hnone : s.unserved i) : (s.enterAcknowledged i).Assembled :=
  (sameAssembly_addOwnTag _ i).assembled (hs.enterState (fun _ => rfl) (fun _ => nofun) hnone)

theorem enterPresenting {i : Nat} (hnone : s.unserved i) : (s.enterPresenting i).Assembled :=
  (sameAssembly_queueNotice _ _).assembled (hs.enterState (fun _ => rfl) (fun _ => nofun) hnone)

theorem leaveCollecting {i : Nat} (hnone : s.unserved i) : (s.leaveCollecting i).Assembled := by
  have harea : SameAssembly s (s.computeArea i) := .modifyEntry s i fun _ _ => rfl
  have hsu := harea.assembled hs
  have hnu := harea.unserved hnone
  unfold State.leaveCollecting
  dsimp only
  split
  · exact hsu
  · refine (sameAssembly_startRelay _ i).assembled ?_
    split
    · exact hsu.enterPresenting hnu
    · exact hsu.enterState (fun _ => rfl) (fun _ => nofun) hnu
    · exact hsu.enterAcknowledged hnu

/-! ### Storing and completing -/

theorem discardSlot (n : Nat) : (s.discardSlot n).Assembled := by
  unfold State.discardSlot
  split
  · exact hs
  · next sl hsl =>
    dsimp only
    split
    · next hb =>
      unfold State.textLost
      split
      · exact hs.closeSlot n
      · next i hi =>
        refine hs.closeBound hsl hb hi fun e => ?_
        split
        · exact .inr ⟨_, rfl⟩
        · exact .inl rfl
    · exact hs.closeSlot n

theorem leaveIfComplete (i : Nat) : (s.leaveIfComplete i).Assembled := by
  unfold State.leaveIfComplete
  split
  · exact hs
  · next e he =>
    split
    · next hcomplete =>
      refine hs.leaveCollecting fun f n sl hf hsl hg => ?_
      rw [he] at hf
      cases hf
      obtain ⟨-, x, hx, hst⟩ := hs.of_gathers hsl he hg
      have hall := List.all_eq_true.1 hcomplete.2 x (List.mem_of_getElem? hx)
      rw [hst] at hall
      cases hall
    · exact hs

theorem afterStore (n : Nat) : (s.afterStore n).Assembled := by
  unfold State.afterStore
  split
  · exact hs
  · next sl hsl =>
    split
    · next hfull =>
      split
      · exact hs
      · next i hi =>
        exact Assembled.leaveIfComplete (hs.closeBound hsl hfull.1 hi fun e => .inr ⟨_, rfl⟩) i
    · exact hs

theorem storeIn (n : Nat) (seg : TextSegment) : (s.storeIn n seg).Assembled := by
  refine hs.of_fewer hs.table (by simp [State.storeIn]) (fun m sl hsl => ?_) fun m sl _ =>
    (SameAssembly.refl s).servesAs sl.key
  unfold State.storeIn State.slotAt at hsl
  rw [State.withSlots_sa_slots, List.getElem?_modify] at hsl
  unfold State.slotAt
  cases hm : s.sa.slots[m]? with
  | none =>
    rw [hm] at hsl
    cases hsl
  | some o =>
    rw [hm] at hsl
    simp only [Option.map_eq_map, Option.map_some, Option.join_some] at hsl ⊢
    split at hsl
    · obtain ⟨old, rfl, rfl⟩ := Option.map_eq_some_iff.1 hsl
      exact ⟨old, rfl, rfl, rfl⟩
    · exact ⟨sl, hsl, rfl, rfl⟩

end State.Assembled

/-! ### Room for a segment -/

/-- `t` has the slots of `s` or fewer, and its entries but for the states of their texts. -/
structure Thinned (s t : State) : Prop where
  slots : ∀ n sl, t.slotAt n = some sl → s.slotAt n = some sl
  slotsLength : t.sa.slots.length = s.sa.slots.length
  entries : ∀ k, (t.entryAt k).map (fun e => (e.id, e.update, e.state, e.texts.length)) =
    (s.entryAt k).map fun e => (e.id, e.update, e.state, e.texts.length)

namespace Thinned

theorem refl (s : State) : Thinned s s := ⟨fun _ _ h => h, rfl, fun _ => rfl⟩

theorem withText {s : State} (i : Nat) {f : Entry → Entry}
    (h : ∀ e, f e = e ∨ ∃ text st, f e = e.withText text st) : Thinned s (s.modifyEntry i f) := by
  refine ⟨fun _ _ h => h, rfl, fun k => ?_⟩
  rw [State.entryAt_modifyEntry]
  split
  · rw [Option.map_map]
    congr 1
    funext e
    rcases h e with h | ⟨text, st, h⟩ <;> simp [h, Entry.withText]
  · rfl

theorem discardSlot (s : State) (n : Nat) : Thinned s (s.discardSlot n) := by
  unfold State.discardSlot
  split
  · exact .refl s
  · next sl hsl =>
    dsimp only
    have hclosed : Thinned s (s.withSlots (s.sa.slots.set n none)) :=
      ⟨fun _ _ h => (State.slotAt_close h).2, by simp, fun _ => rfl⟩
    split
    · unfold State.textLost
      split
      · exact hclosed
      · next i _ =>
        refine ⟨hclosed.slots, hclosed.slotsLength, (Thinned.withText (s := s) i fun e => ?_).entries⟩
        split
        · exact .inr ⟨_, _, rfl⟩
        · exact .inl rfl
    · exact hclosed

theorem some_left {s t : State} (h : Thinned s t) {k : Nat} {e : Entry} (he : s.entryAt k = some e) :
    ∃ e', t.entryAt k = some e' ∧ e'.id = e.id ∧ e'.update = e.update ∧ e'.state = e.state
      ∧ e'.texts.length = e.texts.length := by
  have hk := h.entries k
  rw [he, Option.map_some] at hk
  obtain ⟨e', he', heq⟩ := Option.map_eq_some_iff.1 hk
  simp only [Prod.mk.injEq] at heq
  exact ⟨e', he', heq⟩

theorem some_right {s t : State} (h : Thinned s t) {k : Nat} {e' : Entry} (he' : t.entryAt k = some e') :
    ∃ e, s.entryAt k = some e ∧ e'.id = e.id ∧ e'.update = e.update ∧ e'.state = e.state
      ∧ e'.texts.length = e.texts.length := by
  have hk := h.entries k
  rw [he', Option.map_some] at hk
  obtain ⟨e, he, heq⟩ := Option.map_eq_some_iff.1 hk.symm
  simp only [Prod.mk.injEq] at heq
  exact ⟨e, he, heq.1.symm, heq.2.1.symm, heq.2.2.1.symm, heq.2.2.2.symm⟩

end Thinned

/-- What a step of making room leaves: sound slots, thinned. -/
def Spared (s t : State) : Prop := t.Assembled ∧ Thinned s t

/-- A segment that needs a slot may have one: none has its key, and it is to be bound exactly where an entry gathers
it, which has its text. -/
structure State.ReadyFor (s : State) (key : SlotKey) (bound : Bool) : Prop where
  assembled : s.Assembled
  fresh : ∀ n sl, s.slotAt n = some sl → sl.key ≠ key
  served : bound = true → ∃ i e, s.slotOf key.id = some i ∧ s.entryAt i = some e ∧ e.gathers key ∧ key.text < e.texts.length
  free : bound = false → ∀ i e, s.entryAt i = some e → ¬ e.gathers key

/-- The one slot of an identity in a sound table. -/
theorem State.slotOf_of_entryAt {s : State} (hs : s.tableOk) {i : Nat} {e : Entry} (he : s.entryAt i = some e) :
    s.slotOf e.id = some i := by
  cases hi : s.slotOf e.id with
  | none => exact absurd rfl (State.slotOf_none hi he)
  | some j =>
    obtain ⟨f, hf, hid⟩ := State.slotOf_spec hi
    rw [(State.tableOk_iff.1 hs).2 i j e f he hf hid.symm]

theorem State.ReadyFor.spared {s t : State} {key : SlotKey} {bound : Bool} (h : s.ReadyFor key bound)
    (hspared : Spared s t) : t.ReadyFor key bound := by
  obtain ⟨hassembled, hthinned⟩ := hspared
  refine ⟨hassembled, fun n sl hsl => h.fresh n sl (hthinned.slots n sl hsl), fun hb => ?_, fun hb i e' he' hg => ?_⟩
  · obtain ⟨i, e, hi, he, hg, hlt⟩ := h.served hb
    obtain ⟨e', he', hid, hup, hst, hlen⟩ := hthinned.some_left he
    refine ⟨i, e', ?_, he', ⟨hid.trans hg.1, hup.trans hg.2.1, hst ▸ hg.2.2⟩, hlen ▸ hlt⟩
    have := State.slotOf_of_entryAt hassembled.table he'
    rwa [hid, hg.1] at this
  · obtain ⟨e, he, hid, hup, hst, -⟩ := hthinned.some_right he'
    exact h.free hb i e he ⟨hid ▸ hg.1, hup ▸ hg.2.1, hst ▸ hg.2.2⟩

namespace State.Assembled

variable {s : State} (hs : s.Assembled)
include hs

theorem takeLowestSlot {precedence : Nat} {t : State} (h : s.takeLowestSlot precedence = some t) : Spared s t := by
  unfold State.takeLowestSlot at h
  split at h
  · split at h
    · cases h
      exact ⟨hs.discardSlot _, .discardSlot s _⟩
    · cases h
  · cases h

theorem reclaimText {t : State} (h : s.reclaimText = some t) : Spared s t := by
  unfold State.reclaimText at h
  split at h
  · cases h
  · next i e hpick =>
    obtain ⟨text, -, rfl⟩ := Option.map_eq_some_iff.1 h
    refine ⟨(SameAssembly.modifyEntry s i fun f hf => ?_).assembled hs,
      .withText i fun e => .inr ⟨_, _, rfl⟩⟩
    have hmem := pickLeast_mem _ hpick
    unfold State.reclaimable at hmem
    obtain ⟨hmem, hstate⟩ := List.mem_filter.1 hmem
    rw [State.mem_entries.1 hmem] at hf
    cases hf
    simp only [Bool.and_eq_true, beq_iff_eq] at hstate
    unfold Entry.gathering Entry.withText
    simp only [hstate.1.1, EntryState.name]
    rfl

theorem obtainBlock {precedence : Nat} {t : State} (h : s.obtainBlock precedence = some t) : Spared s t := by
  unfold State.obtainBlock at h
  split at h
  · cases h
    exact ⟨hs, .refl s⟩
  · have hreclaim := (Option.filter_eq_some_iff.1 h).1
    unfold State.reclaim at hreclaim
    split at hreclaim
    · next hr =>
      cases hreclaim
      exact hs.reclaimText hr
    · exact hs.takeLowestSlot hreclaim

theorem reserveSlot {precedence : Nat} {t : State} (h : s.reserveSlot precedence = some t) : Spared s t := by
  unfold State.reserveSlot at h
  split at h
  · cases h
    exact ⟨hs, .refl s⟩
  · exact hs.takeLowestSlot h

theorem joinSlot (n : Nat) (seg : TextSegment) : (s.joinSlot n seg).Assembled := by
  unfold State.joinSlot
  split
  · exact hs
  · split
    · exact hs.of_eq rfl rfl
    · split
      · exact hs
      · split
        · exact hs.of_eq rfl rfl
        · next t ht => exact ((hs.obtainBlock ht).1.storeIn n seg).afterStore n

end State.Assembled

/-! ### A slot opened -/

/-- A slot with a fresh key, not bound, that no entry gathers. -/
theorem State.ReadyFor.openUnbound {s : State} {sl : Slot} (h : s.ReadyFor sl.key false) (hb : sl.bound = false)
    {n : Nat} (hn : s.sa.slots[n]? = some none) : (s.withSlots (s.sa.slots.set n (some sl))).Assembled := by
  have hlt := (List.getElem?_eq_some_iff.1 hn).1
  have hat (m : Nat) := State.slotAt_set (x := some sl) hlt m
  refine ⟨h.assembled.table, State.assemblyOk_iff.2 ⟨State.slotsOk_iff.2 ⟨by simpa using h.assembled.length, ?_⟩, ?_⟩⟩
  · intro k m a b ha hb hkey
    rw [hat] at ha hb
    split at ha <;> split at hb
    · next hk hm => exact hk.trans hm.symm
    · cases ha
      exact absurd hkey.symm (h.fresh m b hb)
    · cases hb
      exact absurd hkey (h.fresh k a ha)
    · exact h.assembled.distinct ha hb hkey
  · intro m other hother
    rw [hat] at hother
    split at hother
    · cases hother
      exact ⟨fun hbound => absurd hbound (by rw [hb]; nofun), fun i e he hg => absurd hg (h.free rfl i e he)⟩
    · exact (State.assemblyOk_iff.1 h.assembled.slots).2 m other hother

/-- A bound slot with a fresh key, whose entry's text is now COLLECTING. -/
theorem State.ReadyFor.openBound {s : State} {sl : Slot} (h : s.ReadyFor sl.key true) (hb : sl.bound = true)
    {n : Nat} (hn : s.sa.slots[n]? = some none) :
    (State.textStarted (s.withSlots (s.sa.slots.set n (some sl))) sl.key).Assembled := by
  have hlt := (List.getElem?_eq_some_iff.1 hn).1
  obtain ⟨i, e, hi, he, hg, htext⟩ := h.served rfl
  have hstarted : State.textStarted (s.withSlots (s.sa.slots.set n (some sl))) sl.key =
      (s.modifyEntry i fun e => e.withText sl.key.text .collecting).withSlots (s.sa.slots.set n (some sl)) := by
    unfold State.textStarted
    rw [show State.slotOf (s.withSlots (s.sa.slots.set n (some sl))) sl.key.id = some i from hi]
    rfl
  rw [hstarted]
  have hmodified : (s.modifyEntry i fun e => e.withText sl.key.text .collecting).Assembled := by
    refine h.assembled.withText (key := sl.key) (fun e => .inr ⟨_, rfl⟩) fun f m other hf hm hgf htexts => ?_
    rw [he] at hf
    cases hf
    refine h.fresh m other hm ?_
    rw [show other.key = ⟨other.key.id, other.key.update, other.key.text⟩ from rfl, ← hgf.1, ← hgf.2.1, htexts,
      hg.1, hg.2.1]
  have hentry : (s.modifyEntry i fun e => e.withText sl.key.text .collecting).entryAt i =
      some (e.withText sl.key.text .collecting) := State.entryAt_modifyEntry_same he _
  have hfresh : ∀ n other, (s.modifyEntry i fun e => e.withText sl.key.text .collecting).slotAt n = some other →
      other.key ≠ sl.key := h.fresh
  have hslots : (s.modifyEntry i fun e => e.withText sl.key.text .collecting).sa.slots = s.sa.slots := rfl
  rw [← hslots] at hlt ⊢
  generalize (s.modifyEntry i fun e => e.withText sl.key.text .collecting) = u at *
  have hat (m : Nat) := State.slotAt_set (x := some sl) hlt m
  refine ⟨hmodified.table, State.assemblyOk_iff.2 ⟨State.slotsOk_iff.2 ⟨by simpa using hmodified.length, ?_⟩, ?_⟩⟩
  · intro k m a b ha hb hkey
    rw [hat] at ha hb
    split at ha <;> split at hb
    · next hk hm => exact hk.trans hm.symm
    · cases ha
      exact absurd hkey.symm (hfresh m b hb)
    · cases hb
      exact absurd hkey (hfresh k a ha)
    · exact hmodified.distinct ha hb hkey
  · intro m other hother
    rw [hat] at hother
    split at hother
    · cases hother
      refine ⟨fun _ => ⟨i, _, hentry, hg⟩, fun j f hf hgf => ⟨hb, ?_⟩⟩
      obtain rfl : j = i := hmodified.unique hf hentry (hgf.1.trans hg.1.symm)
      have hf' := hentry.symm.trans hf
      cases hf'
      refine ⟨{ e.texts[sl.key.text] with state := .collecting }, ?_, rfl⟩
      unfold Entry.withText
      rw [List.getElem?_modify, List.getElem?_eq_getElem htext]
      simp
    · exact (State.assemblyOk_iff.1 hmodified.slots).2 m other hother

theorem State.ReadyFor.openSlot {s : State} {seg : TextSegment} {bound : Bool} (h : s.ReadyFor seg.key bound)
    (precedence : Nat) : (s.openSlot seg bound precedence).Assembled := by
  unfold State.openSlot
  split
  · exact h.assembled
  · next s1 hs1 =>
    have h1 := h.spared (h.assembled.reserveSlot hs1)
    split
    · exact h.assembled
    · next n hn =>
      split
      · exact h1.assembled.of_eq rfl rfl
      · next s2 hs2 =>
        have h2 := h1.spared (h1.assembled.obtainBlock hs2)
        have hn2 := State.obtainBlock_free s1 hs2 (State.freeSlot_some s1 hn)
        dsimp only
        refine State.Assembled.afterStore ?_ n
        cases bound with
        | false => exact State.ReadyFor.openUnbound (sl := newSlotFor seg false precedence s2.now) h2 rfl hn2
        | true => exact State.ReadyFor.openBound (sl := newSlotFor seg true precedence s2.now) h2 rfl hn2

/-! ### A text segment -/

theorem State.findSlot_some {s : State} {key : SlotKey} {n : Nat} (h : s.findSlot key = some n) :
    ∃ sl, s.slotAt n = some sl ∧ sl.key = key := by
  obtain ⟨hn, hany, -⟩ := List.findIdx?_eq_some_iff_getElem.1 h
  obtain ⟨sl, hsl, hkey⟩ := (Option.any_eq_true _ _).1 hany
  exact ⟨sl, s.slotAt_some.2 (by rw [List.getElem?_eq_getElem hn, hsl]), beq_iff_eq.1 hkey⟩

theorem State.findSlot_none {s : State} {key : SlotKey} (h : s.findSlot key = none) {n : Nat} {sl : Slot}
    (hsl : s.slotAt n = some sl) : sl.key ≠ key := by
  have hall := List.findIdx?_eq_none_iff.1 h _ (List.mem_of_getElem? (s.slotAt_some.1 hsl))
  simpa using hall

namespace State.Assembled

variable {s : State} (hs : s.Assembled)
include hs

theorem toUnbound (seg : TextSegment) (h : ∀ i e, s.entryAt i = some e → ¬ e.gathers seg.key) :
    (s.toUnbound seg).Assembled := by
  unfold State.toUnbound
  split
  · exact hs.joinSlot _ seg
  · next hfind =>
    exact State.ReadyFor.openSlot (bound := false) ⟨hs, fun n sl hsl => State.findSlot_none hfind hsl, nofun, fun _ => h⟩ 0

theorem toCollecting (seg : TextSegment) {i : Nat} {e : Entry} (hi : s.slotOf seg.id = some i)
    (he : s.entryAt i = some e) (hg : e.gathers seg.key) : (s.toCollecting e seg).Assembled := by
  unfold State.toCollecting
  split
  · exact hs.of_eq rfl rfl
  · next t ht =>
    split
    · exact hs
    · exact hs
    · split
      · exact hs.joinSlot _ seg
      · exact hs
    · next habsent =>
      split
      · refine State.ReadyFor.openSlot (bound := true) ⟨hs, fun n sl hsl hkey => ?_, fun _ => ⟨i, e, hi, he, hg, ?_⟩, nofun⟩ _
        · rw [← hkey] at hg
          obtain ⟨-, x, hx, hst⟩ := hs.of_gathers hsl he hg
          rw [hkey] at hx
          rw [show seg.key.text = seg.text from rfl, ht] at hx
          cases hx
          rw [hst] at habsent
          cases habsent
        · exact (List.getElem?_eq_some_iff.1 ht).1
      · exact hs.of_eq rfl rfl

theorem takeText (seg : TextSegment) : (s.takeText seg).Assembled := by
  unfold State.takeText State.entryOf
  cases hi : s.slotOf seg.id with
  | none => exact hs.toUnbound seg fun i e he hg => State.slotOf_none hi he hg.1
  | some i =>
    obtain ⟨e, he, hid⟩ := State.slotOf_spec hi
    rw [Option.bind_some, he]
    dsimp only
    have honly {k : Nat} {f : Entry} (hf : s.entryAt k = some f) (hg : f.gathers seg.key) : f = e := by
      obtain rfl : k = i := hs.unique hf he (hg.1.trans hid.symm)
      exact Option.some.inj (hf.symm.trans he)
    split
    · exact hs
    · split
      · next hlt =>
        refine hs.toUnbound seg fun k f hf hg => ?_
        rw [honly hf hg] at hg
        exact absurd hg.2.1 hlt.ne
      · split
        · next hge hle hcollecting =>
          refine hs.toCollecting seg hi he ⟨hid, by have : seg.key.update = seg.update := rfl; omega, ?_⟩
          rw [Entry.collecting_iff_name] at hcollecting
          exact hcollecting
        · exact hs

end State.Assembled

end Sys2Proof.Machine
end

section
/-! The two loops of an acceptance (R27, R57), as equations: the slots of the accepted update bound or discarded, and
the full ones completed. -/

namespace Sys2Proof.Machine

/-! ### The slots of one update bound -/

/-- The slot waits, unbound, for the entry's update. -/
def Entry.invites (e : Entry) (sl : Slot) : Bool :=
  sl.key.id == e.id && sl.key.update == e.update && !sl.bound

/-- The slot once the entry's update is accepted. -/
def Entry.bindOne (e : Entry) (sl : Slot) : Option Slot :=
  if e.invites sl then
    if canBind e sl then some { sl with bound := true, precedence := e.precedence } else none
  else some sl

/-- The slot is bound for this text. -/
def Entry.bindsText (e : Entry) (text : Nat) (o : Option Slot) : Bool :=
  o.any fun sl => e.invites sl && canBind e sl && sl.key.text == text

/-- The slot is discarded with MALFORMED. -/
def Entry.refuses (e : Entry) (o : Option Slot) : Bool := o.any fun sl => e.invites sl && !canBind e sl

/-- The texts of the entry once slots are bound. -/
def Entry.startTexts (e : Entry) (l : List (Option Slot)) : List TextRecord :=
  e.texts.mapIdx fun k x => if l.any (e.bindsText k) then { x with state := .collecting } else x

theorem Entry.startTexts_nil (e : Entry) : e.startTexts [] = e.texts := by
  unfold Entry.startTexts
  refine List.ext_getElem? fun k => ?_
  rw [List.getElem?_mapIdx]
  cases e.texts[k]? <;> rfl

theorem Entry.startTexts_append (e : Entry) (l : List (Option Slot)) (o : Option Slot)
    (h : ∀ k, e.bindsText k o = false) : e.startTexts (l ++ [o]) = e.startTexts l := by
  unfold Entry.startTexts
  congr 1
  funext k x
  rw [List.any_append, List.any_cons, h]
  simp

/-- The slots numbered below `m` bound to the entry `e` of slot `i`. -/
def State.boundUpTo (s : State) (i : Nat) (e : Entry) (m : Nat) : State :=
  let done := s.sa.slots.take m
  State.modifyEntry
    { s with
      sa := { s.sa with slots := done.map (Option.bind · e.bindOne) ++ s.sa.slots.drop m }
      al := { s.al with flags := { s.al.flags with malformed := s.al.flags.malformed || done.any e.refuses } } }
    i fun _ => { e with texts := e.startTexts done }

theorem canBind_congr {e e' : Entry} (h : e'.texts.map TextRecord.count = e.texts.map TextRecord.count) (sl : Slot) :
    canBind e' sl = canBind e sl := by
  have hk := congrArg (·[sl.key.text]?) h
  simp only [List.getElem?_map] at hk
  unfold canBind
  cases he : e.texts[sl.key.text]? <;> cases he' : e'.texts[sl.key.text]? <;> simp_all

theorem Entry.startTexts_count (e : Entry) (l : List (Option Slot)) :
    (e.startTexts l).map TextRecord.count = e.texts.map TextRecord.count := by
  refine List.ext_getElem? fun k => ?_
  unfold Entry.startTexts
  rw [List.getElem?_map, List.getElem?_mapIdx, List.getElem?_map]
  cases e.texts[k]? with
  | none => rfl
  | some x =>
    simp only [Option.map_some]
    split <;> rfl

theorem Entry.startTexts_bind (e : Entry) (l : List (Option Slot)) (sl : Slot) (h : e.invites sl = true)
    (hc : canBind e sl = true) :
    ({ e with texts := e.startTexts l }.withText sl.key.text .collecting) =
      { e with texts := e.startTexts (l ++ [some sl]) } := by
  unfold Entry.withText Entry.startTexts
  congr 1
  refine List.ext_getElem? fun k => ?_
  rw [List.getElem?_modify, List.getElem?_mapIdx, List.getElem?_mapIdx]
  cases e.texts[k]? with
  | none => rfl
  | some x =>
    simp only [Option.map_some, Option.map_eq_map, List.any_append, List.any_cons, List.any_nil, Bool.or_false]
    have hone : e.bindsText k (some sl) = (sl.key.text == k) := by
      unfold Entry.bindsText
      simp [h, hc]
    rw [hone]
    by_cases hk : sl.key.text = k
    · simp only [hk, if_true, beq_self_eq_true, Bool.or_true]
      split <;> rfl
    · simp [hk]

theorem State.boundUpTo_zero {s : State} {i : Nat} {e : Entry} (he : s.entryAt i = some e) : s.boundUpTo i e 0 = s := by
  unfold State.boundUpTo
  simp only [List.take_zero, List.map_nil, List.nil_append, List.drop_zero, List.any_nil, Bool.or_false,
    Entry.startTexts_nil]
  exact State.modifyEntry_self fun f hf => by
    have : s.entryAt i = some f := hf
    rw [he] at this
    cases this
    rfl

theorem List.set_middle {α : Type} {a : List α} {m : Nat} (ha : a.length = m) (x y : α) (d : List α) :
    (a ++ x :: d).set m y = a ++ y :: d := by
  subst ha
  rw [List.set_append_right _ _ (Nat.le_refl _), Nat.sub_self]
  rfl

theorem State.modifyEntry_withSlots_modifyEntry (s : State) (i : Nat) (f g : Entry → Entry) (l : List (Option Slot)) :
    ((s.modifyEntry i f).withSlots l).modifyEntry i g = (s.withSlots l).modifyEntry i fun e => g (f e) :=
  State.modifyEntry_modifyEntry (s.withSlots l) i f g

section
variable {s : State} {i : Nat} {e : Entry}

/-- The next slot is left as it is. -/
theorem State.boundUpTo_succ_same {m : Nat} {o : Option Slot} (hm : s.sa.slots[m]? = some o)
    (hsame : o.bind e.bindOne = o) (hbinds : ∀ k, e.bindsText k o = false) (hrefuses : e.refuses o = false) :
    s.boundUpTo i e (m + 1) = s.boundUpTo i e m := by
  obtain ⟨hlt, rfl⟩ := List.getElem?_eq_some_iff.1 hm
  unfold State.boundUpTo
  dsimp only
  rw [← List.take_append_getElem hlt, e.startTexts_append _ _ hbinds]
  simp only [List.map_append, List.map_cons, List.map_nil, hsame, List.any_append, List.any_cons, hrefuses,
    List.any_nil, Bool.or_false, List.append_assoc, List.singleton_append, List.getElem_cons_drop]

theorem State.boundUpTo_entryAt (he : s.entryAt i = some e) (m : Nat) :
    (s.boundUpTo i e m).entryAt i = some { e with texts := e.startTexts (s.sa.slots.take m) } := by
  unfold State.boundUpTo
  dsimp only
  exact State.entryAt_modifyEntry_same (e := e) he _

theorem State.boundUpTo_slots {m : Nat} (hlt : m < s.sa.slots.length) :
    (s.boundUpTo i e m).sa.slots =
      (s.sa.slots.take m).map (Option.bind · e.bindOne) ++ s.sa.slots[m] :: s.sa.slots.drop (m + 1) := by
  rw [List.getElem_cons_drop]
  rfl

theorem State.boundUpTo_slotAt {m : Nat} (hlt : m < s.sa.slots.length) :
    (s.boundUpTo i e m).slotAt m = s.sa.slots[m] := by
  unfold State.slotAt
  have hlength : ((s.sa.slots.take m).map (Option.bind · e.bindOne)).length = m := by
    rw [List.length_map, List.length_take, Nat.min_eq_left hlt.le]
  rw [State.boundUpTo_slots hlt, List.getElem?_append_right hlength.le, hlength, Nat.sub_self]
  rfl

theorem State.bindSlot_boundUpTo (he : s.entryAt i = some e) {m : Nat} (hlt : m < s.sa.slots.length) :
    (s.boundUpTo i e m).bindSlot i m = s.boundUpTo i e (m + 1) := by
  have hm := List.getElem?_eq_getElem hlt
  have hlength : ((s.sa.slots.take m).map (Option.bind · e.bindOne)).length = m := by
    rw [List.length_map, List.length_take, Nat.min_eq_left hlt.le]
  unfold State.bindSlot
  rw [State.boundUpTo_slotAt hlt, State.boundUpTo_entryAt he, State.boundUpTo_slots hlt]
  cases ho : s.sa.slots[m] with
  | none =>
    rw [ho] at hm
    exact (State.boundUpTo_succ_same hm rfl (fun _ => rfl) rfl).symm
  | some sl =>
    rw [ho] at hm
    dsimp only
    have hcond : (sl.key.id = e.id ∧ sl.key.update = e.update ∧ sl.bound = false) ↔ e.invites sl = true := by
      simp [Entry.invites, and_assoc]
    have htake : s.sa.slots.take (m + 1) = s.sa.slots.take m ++ [some sl] := by
      rw [← List.take_append_getElem hlt, ho]
    simp only [hcond]
    split
    · next hinvites =>
      rw [canBind_congr (e := e) (e.startTexts_count _)]
      split
      · next hbind =>
        rw [List.set_middle hlength]
        unfold State.boundUpTo
        dsimp only
        rw [htake, ← Entry.startTexts_bind e _ sl hinvites hbind]
        have hrefuses : e.refuses (some sl) = false := by simp [Entry.refuses, hinvites, hbind]
        have hone : e.bindOne sl = some { sl with bound := true, precedence := e.precedence } := by
          simp [Entry.bindOne, hinvites, hbind]
        simp only [List.map_append, List.map_cons, List.map_nil, Option.bind_some, hone, List.any_append,
          List.any_cons, hrefuses, List.any_nil, Bool.or_false, List.append_assoc, List.singleton_append]
        exact State.modifyEntry_withSlots_modifyEntry ..
      · next hbind =>
        rw [List.set_middle hlength]
        unfold State.boundUpTo
        dsimp only
        have hrefuses : e.refuses (some sl) = true := by simp [Entry.refuses, hinvites, hbind]
        have hone : e.bindOne sl = none := by simp [Entry.bindOne, hinvites, hbind]
        rw [htake, e.startTexts_append _ _ fun k => by simp [Entry.bindsText, hbind]]
        simp only [List.map_append, List.map_cons, List.map_nil, Option.bind_some, hone, List.any_append,
          List.any_cons, hrefuses, List.any_nil, Bool.or_false, List.append_assoc, List.singleton_append,
          Bool.or_true]
        rfl
    · next hinvites =>
      refine (State.boundUpTo_succ_same hm ?_ (fun k => ?_) ?_).symm
      · simp [Entry.bindOne, hinvites]
      · simp [Entry.bindsText, hinvites]
      · simp [Entry.refuses, hinvites]

/-- The first loop of an acceptance binds every slot of the update, or discards it. -/
theorem State.foldl_bindSlot (he : s.entryAt i = some e) (m : Nat) (hm : m ≤ s.sa.slots.length) :
    (List.range m).foldl (State.bindSlot i) s = s.boundUpTo i e m := by
  induction m with
  | zero => exact (State.boundUpTo_zero he).symm
  | succ m ih =>
    rw [List.range_succ, List.foldl_append, ih (Nat.le_of_succ_le hm)]
    exact State.bindSlot_boundUpTo he hm

end

/-! ### The full ones completed -/

theorem findSome?_congr_mem {α β : Type} {f g : α → Option β} {l : List α} (h : ∀ a ∈ l, f a = g a) :
    l.findSome? f = l.findSome? g := by
  induction l with
  | nil => rfl
  | cons a l ih =>
    rw [List.findSome?_cons, List.findSome?_cons, h a List.mem_cons_self, ih fun b hb => h b (List.mem_cons_of_mem a hb)]

/-- The chain a full slot becomes. -/
def Slot.chain (sl : Slot) : List Block := sl.received.filterMap id

/-- The slot is full and bound for a text of the entry's update below `m`. -/
def Entry.completes (e : Entry) (m : Nat) (sl : Slot) : Bool :=
  sl.key.id == e.id && sl.key.update == e.update && sl.bound && sl.full && decide (sl.key.text < m)

/-- The full slot for a text, among those below `m`. -/
def Entry.fullSlotFor (e : Entry) (l : List (Option Slot)) (m k : Nat) : Option Slot :=
  l.findSome? fun o => o.filter fun sl => e.completes m sl && sl.key.text == k

/-- The texts of the entry once its full slots below `m` are completed. -/
def Entry.completedTexts (e : Entry) (l : List (Option Slot)) (m : Nat) : List TextRecord :=
  e.texts.mapIdx fun k x =>
    match e.fullSlotFor l m k with
    | some sl => { x with state := .complete sl.chain }
    | none => x

/-- The full slots of the texts below `m` of the entry `e` of slot `i` completed. -/
def State.completedUpTo (s : State) (i : Nat) (e : Entry) (m : Nat) : State :=
  State.modifyEntry { s with sa := { s.sa with slots := s.sa.slots.map (Option.filter fun sl => !e.completes m sl) } }
    i fun _ => { e with texts := e.completedTexts s.sa.slots m }

section
variable {s : State} {i : Nat} {e : Entry}

theorem Entry.completes_iff {m : Nat} {sl : Slot} :
    e.completes m sl = true ↔ sl.key = ⟨e.id, e.update, sl.key.text⟩ ∧ sl.bound = true ∧ sl.full = true ∧ sl.key.text < m := by
  obtain ⟨⟨id, up, text⟩, count, received, first, bound, precedence⟩ := sl
  simp [Entry.completes, and_assoc]

theorem Entry.fullSlotFor_some {l : List (Option Slot)} {m k : Nat} {sl : Slot} (h : e.fullSlotFor l m k = some sl) :
    some sl ∈ l ∧ e.completes m sl = true ∧ sl.key.text = k := by
  obtain ⟨o, ho, hsl⟩ := List.exists_of_findSome?_eq_some h
  obtain ⟨rfl, hcond⟩ := Option.filter_eq_some_iff.1 hsl
  simp only [Bool.and_eq_true, beq_iff_eq] at hcond
  exact ⟨ho, hcond⟩

theorem Entry.fullSlotFor_none {l : List (Option Slot)} {m k : Nat} (h : e.fullSlotFor l m k = none) {sl : Slot}
    (hsl : some sl ∈ l) (hk : sl.key.text = k) : e.completes m sl = false := by
  have hnone := List.findSome?_eq_none_iff.1 h _ hsl
  rw [Option.filter_eq_none_iff] at hnone
  have := hnone sl rfl
  simp only [hk, beq_self_eq_true, Bool.and_true, Bool.not_eq_true] at this
  exact this

theorem State.mem_slots {sl : Slot} : some sl ∈ s.sa.slots ↔ ∃ n, s.slotAt n = some sl := by
  rw [List.mem_iff_getElem?]
  exact exists_congr fun n => s.slotAt_some.symm

/-- Where the keys are distinct, the full slot of a text is the one that answers for it. -/
theorem Entry.fullSlotFor_eq (hs : s.slotsOk) {n m : Nat} {sl : Slot} (hsl : s.slotAt n = some sl)
    (hc : e.completes m sl = true) : e.fullSlotFor s.sa.slots m sl.key.text = some sl := by
  cases hfound : e.fullSlotFor s.sa.slots m sl.key.text with
  | none =>
    rw [Entry.fullSlotFor_none hfound (State.mem_slots.2 ⟨n, hsl⟩) rfl] at hc
    cases hc
  | some other =>
    obtain ⟨hmem, hco, htext⟩ := Entry.fullSlotFor_some hfound
    obtain ⟨k, hk⟩ := State.mem_slots.1 hmem
    have hkey : other.key = sl.key := by
      rw [(Entry.completes_iff.1 hco).1, (Entry.completes_iff.1 hc).1, htext]
    obtain rfl := (State.slotsOk_iff.1 hs).2 k n other sl hk hsl hkey
    rw [hk] at hsl
    exact hsl

theorem State.completedUpTo_zero (he : s.entryAt i = some e) : s.completedUpTo i e 0 = s := by
  have hc (sl : Slot) : e.completes 0 sl = false := by simp [Entry.completes]
  have hslots : s.sa.slots.map (Option.filter fun sl => !e.completes 0 sl) = s.sa.slots := by
    refine List.ext_getElem? fun k => ?_
    rw [List.getElem?_map]
    simp only [hc]
    rcases s.sa.slots[k]? with - | - | sl <;> rfl
  have htexts : e.completedTexts s.sa.slots 0 = e.texts := by
    refine List.ext_getElem? fun k => ?_
    unfold Entry.completedTexts
    rw [List.getElem?_mapIdx]
    cases hfound : e.fullSlotFor s.sa.slots 0 k with
    | none => cases e.texts[k]? <;> rfl
    | some sl =>
      have := (Entry.fullSlotFor_some hfound).2.1
      rw [hc] at this
      cases this
  unfold State.completedUpTo
  rw [hslots, htexts]
  exact State.modifyEntry_self fun f hf => by
    have : s.entryAt i = some f := hf
    rw [he] at this
    cases this
    rfl

/-- No full slot for the next text: nothing changes. -/
theorem State.completedUpTo_succ_same {m : Nat}
    (h : ∀ n sl, s.slotAt n = some sl → e.completes (m + 1) sl = e.completes m sl) :
    s.completedUpTo i e (m + 1) = s.completedUpTo i e m := by
  have hmem (o : Option Slot) (ho : o ∈ s.sa.slots) (sl : Slot) (hsl : o = some sl) :
      e.completes (m + 1) sl = e.completes m sl := by
    subst hsl
    obtain ⟨n, hn⟩ := State.mem_slots.1 ho
    exact h n sl hn
  have hslots : s.sa.slots.map (Option.filter fun sl => !e.completes (m + 1) sl) =
      s.sa.slots.map (Option.filter fun sl => !e.completes m sl) := by
    refine List.map_congr_left fun o ho => ?_
    cases o with
    | none => rfl
    | some sl => rw [Option.filter_some, Option.filter_some, hmem _ ho sl rfl]
  have hfound (k : Nat) : e.fullSlotFor s.sa.slots (m + 1) k = e.fullSlotFor s.sa.slots m k := by
    unfold Entry.fullSlotFor
    refine findSome?_congr_mem fun o ho => ?_
    cases o with
    | none => rfl
    | some sl => rw [Option.filter_some, Option.filter_some, hmem _ ho sl rfl]
  unfold State.completedUpTo Entry.completedTexts
  simp only [hslots, hfound]

/-- The full slot of the next text closed, and its text COMPLETE. -/
theorem State.completedUpTo_succ_full (hs : s.slotsOk) {m n : Nat} {sl : Slot} (hsl : s.slotAt n = some sl)
    (hc : e.completes (m + 1) sl = true) (htext : sl.key.text = m) :
    (s.completedUpTo i e m).completeSlot n sl i = s.completedUpTo i e (m + 1) := by
  have hother {k : Nat} {other : Slot} (hk : s.slotAt k = some other) (hne : k ≠ n) :
      e.completes (m + 1) other = e.completes m other := by
    rw [Bool.eq_iff_iff, Entry.completes_iff, Entry.completes_iff]
    refine and_congr_right fun hkey => and_congr_right fun _ => and_congr_right fun _ => ?_
    have hm : other.key.text ≠ m := fun heq => hne <| (State.slotsOk_iff.1 hs).2 k n other sl hk hsl (by
      rw [hkey, heq, (Entry.completes_iff.1 hc).1, htext])
    omega
  have hslots : (s.sa.slots.map (Option.filter fun sl => !e.completes m sl)).set n none =
      s.sa.slots.map (Option.filter fun sl => !e.completes (m + 1) sl) := by
    refine List.ext_getElem? fun k => ?_
    rw [List.getElem?_set, List.length_map, List.getElem?_map, List.getElem?_map]
    split
    · next hk =>
      subst hk
      rw [if_pos (State.slotAt_lt hsl), s.slotAt_some.1 hsl, Option.map_some, Option.filter_some, hc]
      rfl
    · next hk =>
      cases ho : s.sa.slots[k]? with
      | none => rfl
      | some o =>
        cases o with
        | none => rfl
        | some other =>
          rw [Option.map_some, Option.map_some, Option.filter_some, Option.filter_some,
            hother (s.slotAt_some.2 ho) (Ne.symm hk)]
  have hfound (k : Nat) : e.fullSlotFor s.sa.slots (m + 1) k =
      if k = m then some sl else e.fullSlotFor s.sa.slots m k := by
    split
    · next hk => rw [hk, ← htext]; exact Entry.fullSlotFor_eq hs hsl (htext ▸ hc)
    · next hk =>
      unfold Entry.fullSlotFor
      refine findSome?_congr_mem fun o ho => ?_
      cases o with
      | none => rfl
      | some other =>
        rw [Option.filter_some, Option.filter_some]
        by_cases hko : other.key.text = k
        · obtain ⟨j, hj⟩ := State.mem_slots.1 ho
          rw [hother hj fun hjn => hk ?_]
          subst hjn
          rw [hj] at hsl
          cases hsl
          exact hko.symm.trans htext
        · have hbeq : (other.key.text == k) = false := beq_false_of_ne hko
          rw [hbeq, Bool.and_false, Bool.and_false]
  have hbelow : e.fullSlotFor s.sa.slots m m = none := by
    cases hnone : e.fullSlotFor s.sa.slots m m with
    | none => rfl
    | some other =>
      obtain ⟨-, hco, hto⟩ := Entry.fullSlotFor_some hnone
      exact absurd hto (Entry.completes_iff.1 hco).2.2.2.ne
  have htexts : { e with texts := e.completedTexts s.sa.slots m }.withText sl.key.text (.complete sl.chain) =
      { e with texts := e.completedTexts s.sa.slots (m + 1) } := by
    unfold Entry.withText Entry.completedTexts
    congr 1
    refine List.ext_getElem? fun k => ?_
    rw [List.getElem?_modify, List.getElem?_mapIdx, List.getElem?_mapIdx, hfound, htext]
    cases e.texts[k]? with
    | none => rfl
    | some x =>
      simp only [Option.map_some, Option.map_eq_map]
      by_cases hk : k = m
      · subst hk
        simp [hbelow]
      · simp [hk, Ne.symm hk]
  unfold State.completeSlot State.completedUpTo
  rw [← htexts, ← hslots]
  exact State.modifyEntry_withSlots_modifyEntry ..

theorem State.completedUpTo_entryAt (he : s.entryAt i = some e) (m : Nat) :
    (s.completedUpTo i e m).entryAt i = some { e with texts := e.completedTexts s.sa.slots m } := by
  unfold State.completedUpTo
  exact State.entryAt_modifyEntry_same (e := e) he _

theorem State.completedUpTo_slotAt (m n : Nat) :
    (s.completedUpTo i e m).slotAt n = (s.slotAt n).filter fun sl => !e.completes m sl :=
  s.slotAt_discardSlots (e.completes m) n

theorem State.completeBound_completedUpTo (hs : s.slotsOk) (he : s.entryAt i = some e) (m : Nat) :
    (s.completedUpTo i e m).completeBound i m = s.completedUpTo i e (m + 1) := by
  have hnext {k : Nat} {other : Slot} (hk : s.slotAt k = some other) (hne : other.key ≠ ⟨e.id, e.update, m⟩) :
      e.completes (m + 1) other = e.completes m other := by
    rw [Bool.eq_iff_iff, Entry.completes_iff, Entry.completes_iff]
    refine and_congr_right fun hkey => and_congr_right fun _ => and_congr_right fun _ => ?_
    have : other.key.text ≠ m := fun heq => hne (by rw [hkey, heq])
    omega
  unfold State.completeBound
  rw [State.completedUpTo_entryAt he]
  dsimp only
  cases hfind : (s.completedUpTo i e m).findSlot ⟨e.id, e.update, m⟩ with
  | none =>
    refine (State.completedUpTo_succ_same fun k other hk => hnext hk fun hkey => ?_).symm
    refine State.findSlot_none hfind (n := k) (sl := other) ?_ hkey
    rw [State.completedUpTo_slotAt, Option.filter_eq_some_iff]
    refine ⟨hk, ?_⟩
    rw [Bool.not_eq_true', Bool.eq_false_iff]
    intro hc
    have := (Entry.completes_iff.1 hc).2.2.2
    rw [hkey] at this
    exact absurd this (Nat.lt_irrefl m)
  | some n =>
    obtain ⟨sl, hsl, hkey⟩ := State.findSlot_some hfind
    dsimp only
    rw [hsl]
    dsimp only
    have hat : s.slotAt n = some sl := by
      rw [State.completedUpTo_slotAt] at hsl
      exact (Option.filter_eq_some_iff.1 hsl).1
    have htext : sl.key.text = m := by rw [hkey]
    split
    · next hfull =>
      exact State.completedUpTo_succ_full hs hat
        (Entry.completes_iff.2 ⟨by rw [hkey], hfull.1, hfull.2, by omega⟩) htext
    · next hfull =>
      refine (State.completedUpTo_succ_same fun k other hk => ?_).symm
      by_cases hko : other.key = ⟨e.id, e.update, m⟩
      · obtain rfl := (State.slotsOk_iff.1 hs).2 k n other sl hk hat (hko.trans hkey.symm)
        rw [hk] at hat
        cases hat
        have hnot (j : Nat) : e.completes j sl = false := by
          rw [Bool.eq_false_iff]
          intro hc
          obtain ⟨-, hb, hf, -⟩ := Entry.completes_iff.1 hc
          exact hfull ⟨hb, hf⟩
        rw [hnot, hnot]
      · exact hnext hk hko

/-- The second loop of an acceptance completes every full slot bound for a text of low index. -/
theorem State.foldl_completeBound (hs : s.slotsOk) (he : s.entryAt i = some e) (m : Nat) :
    (List.range m).foldl (State.completeBound i) s = s.completedUpTo i e m := by
  induction m with
  | zero => exact (State.completedUpTo_zero he).symm
  | succ m ih =>
    rw [List.range_succ, List.foldl_append, ih]
    exact State.completeBound_completedUpTo hs he m

end

end Sys2Proof.Machine
end

section
/-! The acceptance of a header, the limits of an entry and its removal keep slots and entries in agreement (R27, R31,
R36, R44, R46, R57). -/

namespace Sys2Proof.Machine

/-- What holds between the acceptance of an update and the binding of its slots: the slots of the entry `e` of slot `i`
are not bound yet, and every other slot agrees with its entry. -/
structure State.AssembledBut (s : State) (i : Nat) (e : Entry) : Prop where
  table : s.tableOk
  slots : s.slotsOk
  entry : s.entryAt i = some e
  others : ∀ n sl, s.slotAt n = some sl → ¬ e.gathers sl.key →
    (sl.bound = true → ∃ k f, s.entryAt k = some f ∧ f.gathers sl.key)
      ∧ ∀ k f, s.entryAt k = some f → f.gathers sl.key → sl.bound = true ∧ f.awaits sl.key.text
  unbound : ∀ n sl, s.slotAt n = some sl → e.gathers sl.key → sl.bound = false

/-- The entry of one slot is new, or has new fields, and its identity has no bound slot. -/
theorem State.Assembled.fill {s t : State} (hs : s.Assembled) {i : Nat} {e : Entry} (htable : t.tableOk)
    (hslots : t.sa.slots = s.sa.slots) (hi : t.entryAt i = some e)
    (hold : ∀ f, s.entryAt i = some f → f.id = e.id) (hothers : ∀ k, k ≠ i → t.entryAt k = s.entryAt k)
    (hunbound : ∀ n sl, s.slotAt n = some sl → sl.key.id = e.id → sl.bound = false) : t.AssembledBut i e := by
  have hat (n : Nat) : t.slotAt n = s.slotAt n := by
    unfold State.slotAt
    rw [hslots]
  refine ⟨htable, ?_, hi, fun n sl hsl hnot => ⟨fun hb => ?_, fun k f hf hg => ?_⟩, fun n sl hsl hg => ?_⟩
  · unfold State.slotsOk State.slotKeys
    rw [hslots]
    exact hs.slots.1
  · rw [hat] at hsl
    obtain ⟨k, f, hf, hg⟩ := ((State.assemblyOk_iff.1 hs.slots).2 n sl hsl).1 hb
    by_cases hk : k = i
    · subst hk
      rw [hunbound n sl hsl (hg.1.symm.trans (hold f hf))] at hb
      cases hb
    · exact ⟨k, f, (hothers k hk).trans hf, hg⟩
  · rw [hat] at hsl
    by_cases hk : k = i
    · subst hk
      rw [hi] at hf
      cases hf
      exact absurd hg hnot
    · rw [hothers k hk] at hf
      exact hs.of_gathers hsl hf hg
  · rw [hat] at hsl
    exact hunbound n sl hsl hg.1.symm

namespace State.AssembledBut

variable {s : State} {i : Nat} {e : Entry} (hs : s.AssembledBut i e)
include hs

/-- An entry that gathers nothing has no slots to bind. -/
theorem assembled (h : e.state.name ≠ .collecting) : s.Assembled :=
  ⟨hs.table, State.assemblyOk_iff.2 ⟨hs.slots, fun n sl hsl => hs.others n sl hsl fun hg => h hg.2.2⟩⟩

theorem of_eq {t : State} (htable : t.atc.table = s.atc.table) (hslots : t.sa.slots = s.sa.slots) :
    t.AssembledBut i e := by
  have hentry (k : Nat) : t.entryAt k = s.entryAt k := by rw [State.entryAt_def, htable, State.entryAt_def]
  have hat (n : Nat) : t.slotAt n = s.slotAt n := by
    unfold State.slotAt
    rw [hslots]
  refine ⟨?_, ?_, (hentry i).trans hs.entry, fun n sl hsl => ?_, fun n sl hsl => hs.unbound n sl (hat n ▸ hsl)⟩
  · unfold State.tableOk State.identities
    rw [htable]
    exact hs.table
  · unfold State.slotsOk State.slotKeys
    rw [hslots]
    exact hs.slots
  · simp only [hentry]
    exact hs.others n sl (hat n ▸ hsl)

theorem discardSlots (p : Slot → Bool) : (s.discardSlots p).AssembledBut i e := by
  have hat {n : Nat} {sl : Slot} (h : (s.discardSlots p).slotAt n = some sl) : s.slotAt n = some sl :=
    (State.slotAt_discardSlots_some.1 h).1
  refine ⟨hs.table, State.slotsOk_iff.2 ⟨?_, fun n m a b ha hb => ?_⟩, hs.entry, fun n sl hsl => ?_, fun n sl hsl => ?_⟩
  · exact (List.length_map _).trans hs.slots.1
  · exact (State.slotsOk_iff.1 hs.slots).2 n m a b (hat ha) (hat hb)
  · exact hs.others n sl (hat hsl)
  · exact hs.unbound n sl (hat hsl)

/-! ### Binding -/

theorem invites_iff (hc : e.state.name = .collecting) {n : Nat} {sl : Slot} (hsl : s.slotAt n = some sl) :
    e.invites sl = true ↔ e.gathers sl.key := by
  unfold Entry.invites Entry.gathers
  simp only [Bool.and_eq_true, beq_iff_eq, Bool.not_eq_true', hc, and_true]
  refine ⟨fun ⟨⟨hid, hup⟩, _⟩ => ⟨hid.symm, hup.symm⟩, fun ⟨hid, hup⟩ => ⟨⟨hid.symm, hup.symm⟩, ?_⟩⟩
  exact hs.unbound n sl hsl ⟨hid, hup, hc⟩

omit hs in
theorem boundAll_slotAt (s : State) (i : Nat) (e : Entry) (n : Nat) :
    (s.boundUpTo i e s.sa.slots.length).slotAt n = (s.slotAt n).bind e.bindOne := by
  unfold State.boundUpTo State.slotAt
  dsimp only
  rw [State.modifyEntry_sa]
  dsimp only
  rw [List.take_length, List.drop_length, List.append_nil, List.getElem?_map]
  rcases s.sa.slots[n]? with - | - | sl <;> rfl

omit hs in
theorem bindOne_some {sl sl' : Slot} (h : e.bindOne sl = some sl') :
    sl'.key = sl.key ∧ (e.invites sl = true ∧ canBind e sl = true ∧ sl'.bound = true ∨ e.invites sl = false ∧ sl' = sl) := by
  unfold Entry.bindOne at h
  split at h
  · next hinvites =>
    split at h
    · next hbind =>
      cases h
      exact ⟨rfl, .inl ⟨hinvites, hbind, rfl⟩⟩
    · cases h
  · next hinvites =>
    cases h
    exact ⟨rfl, .inr ⟨Bool.eq_false_iff.2 hinvites, rfl⟩⟩

omit hs in
theorem awaits_startTexts {l : List (Option Slot)} {sl : Slot} (hmem : some sl ∈ l) (hinvites : e.invites sl = true)
    (hbind : canBind e sl = true) : Entry.awaits { e with texts := e.startTexts l } sl.key.text := by
  have hbinds : l.any (e.bindsText sl.key.text) = true := by
    refine List.any_eq_true.2 ⟨some sl, hmem, ?_⟩
    simp [Entry.bindsText, hinvites, hbind]
  unfold canBind at hbind
  split at hbind
  · next x hx =>
    refine ⟨{ x with state := .collecting }, ?_, rfl⟩
    show (e.startTexts l)[sl.key.text]? = _
    unfold Entry.startTexts
    rw [List.getElem?_mapIdx, hx, Option.map_some, if_pos hbinds]
  · cases hbind

theorem bound (hc : e.state.name = .collecting) : (s.boundUpTo i e s.sa.slots.length).Assembled := by
  have hslot (n : Nat) := boundAll_slotAt s i e n
  have hfrom {n : Nat} {sl' : Slot} (h : (s.boundUpTo i e s.sa.slots.length).slotAt n = some sl') :
      ∃ sl, s.slotAt n = some sl ∧ e.bindOne sl = some sl' := by
    rw [hslot] at h
    exact Option.bind_eq_some_iff.1 h
  have hentry := State.boundUpTo_entryAt hs.entry s.sa.slots.length
  have hother {k : Nat} (hk : k ≠ i) : (s.boundUpTo i e s.sa.slots.length).entryAt k = s.entryAt k :=
    State.entryAt_modifyEntry_ne hk _
  rw [List.take_length] at hentry
  have htable : (s.boundUpTo i e s.sa.slots.length).tableOk := by
    refine State.tableOk_of_entries (s := s) (State.length_modifyEntry ..) (fun k f hf => ?_) hs.table
    by_cases hk : k = i
    · subst hk
      rw [hentry] at hf
      cases hf
      exact ⟨e, hs.entry, rfl⟩
    · exact ⟨f, (hother hk).symm.trans hf, rfl⟩
  refine ⟨htable, State.assemblyOk_iff.2 ⟨State.slotsOk_iff.2 ⟨?_, fun n m a b ha hb hkey => ?_⟩, fun n sl' hsl' => ?_⟩⟩
  · unfold State.boundUpTo
    simp only [State.modifyEntry_sa, List.take_length, List.drop_length, List.append_nil, List.length_map]
    exact hs.slots.1
  · obtain ⟨x, hx, hxa⟩ := hfrom ha
    obtain ⟨y, hy, hyb⟩ := hfrom hb
    refine (State.slotsOk_iff.1 hs.slots).2 n m x y hx hy ?_
    rw [← (bindOne_some hxa).1, ← (bindOne_some hyb).1, hkey]
  · obtain ⟨sl, hsl, hone⟩ := hfrom hsl'
    obtain ⟨hkey, ⟨hinvites, hbind, hb⟩ | ⟨hinvites, rfl⟩⟩ := bindOne_some hone
    · have hg := (hs.invites_iff hc hsl).1 hinvites
      rw [hkey]
      refine ⟨fun _ => ⟨i, _, hentry, hg⟩, fun k f hf hgf => ⟨hb, ?_⟩⟩
      obtain rfl : k = i := (State.tableOk_iff.1 htable).2 k i f _ hf hentry (hgf.1.trans hg.1.symm)
      have hf' := hentry.symm.trans hf
      cases hf'
      exact awaits_startTexts (State.mem_slots.2 ⟨n, hsl⟩) hinvites hbind
    · have hnot : ¬ e.gathers sl'.key := fun hg => by
        rw [(hs.invites_iff hc hsl).2 hg] at hinvites
        cases hinvites
      obtain ⟨hserved, hgathered⟩ := hs.others n sl' hsl hnot
      refine ⟨fun hb => ?_, fun k f hf hg => ?_⟩
      · obtain ⟨k, f, hf, hg⟩ := hserved hb
        have hk : k ≠ i := by
          rintro rfl
          rw [hs.entry] at hf
          cases hf
          exact hnot hg
        exact ⟨k, f, (hother hk).trans hf, hg⟩
      · by_cases hk : k = i
        · subst hk
          rw [hentry] at hf
          cases hf
          exact absurd hg hnot
        · exact hgathered k f ((hother hk).symm.trans hf) hg

end State.AssembledBut

theorem State.Assembled.completeBound {s : State} (hs : s.Assembled) (i text : Nat) : (s.completeBound i text).Assembled := by
  unfold State.completeBound
  split
  · exact hs
  · next e he =>
    split
    · exact hs
    · next n hn =>
      split
      · exact hs
      · next sl hsl =>
        split
        · next hfull =>
          obtain ⟨found, hfound, hkey⟩ := State.findSlot_some hn
          rw [hsl] at hfound
          cases hfound
          refine hs.closeBound hsl hfull.1 ?_ fun e => .inr ⟨_, rfl⟩
          rw [hkey]
          exact State.slotOf_of_entryAt hs.table he
        · exact hs

/-- Binding the slots of an accepted update makes every slot agree with its entry. -/
theorem State.AssembledBut.bindSlots {s : State} {i : Nat} {e : Entry} (hs : s.AssembledBut i e)
    (hc : e.state.name = .collecting) : (s.bindSlots i).Assembled := by
  unfold State.bindSlots
  dsimp only
  rw [State.foldl_bindSlot hs.entry _ (Nat.le_refl _)]
  have hcompleted (l : List Nat) (u : State) (hu : u.Assembled) : (l.foldl (State.completeBound i) u).Assembled := by
    induction l generalizing u with
    | nil => exact hu
    | cons k l ih => exact ih _ (hu.completeBound i k)
  exact (hcompleted _ _ (hs.bound hc)).leaveIfComplete i

/-! ### Room for a newcomer -/

theorem State.Assembled.makeRoom {s u : State} (hs : s.Assembled) {newcomer i : Nat}
    (h : s.makeRoom newcomer = some (u, i)) : u.Assembled := by
  unfold State.makeRoom at h
  split at h
  · cases h
    exact hs
  · split at h
    · cases h
    · next k _ =>
      obtain ⟨e, he, hpair⟩ := Option.map_eq_some_iff.1 h
      cases hpair
      rw [s.evict_eq]
      have hended : SidelinkOnly s ((s.endJob e.id .relay).endJob e.id .tally) :=
        (sidelinkOnly_endJob s _ _).trans (sidelinkOnly_endJob _ _ _)
      have hv := (SameAssembly.of_sidelinkOnly hended).assembled hs
      generalize (s.endJob e.id .relay).endJob e.id .tally = v at *
      refine (hv.discardSlots _).removeEntry i fun f n sl hf hsl hg => ?_
      obtain ⟨hat, hkept⟩ := State.slotAt_discardSlots_some.1 hsl
      have hf' : v.entryAt i = some f := hf
      obtain ⟨hid, -⟩ := hended.entry_fields he hf'
      obtain ⟨hb, -⟩ := hv.of_gathers hat hf' hg
      rw [hb, ← hg.1, hid] at hkept
      simp at hkept

/-- No entry is of the newcomer's identity after room was made. -/
theorem RoomMade.new {quiet : Prop} {s u : State} {i : Nat} (hroom : RoomMade quiet s u i) {id : Identity}
    (hnew : s.slotOf id = none) {k : Nat} {e : Entry} (he : u.entryAt k = some e) : e.id ≠ id := by
  intro hid
  by_cases hk : k = i
  · rw [hk, hroom.empty] at he
    cases he
  · obtain ⟨-, hrel⟩ := hroom.others k hk
    rw [he] at hrel
    generalize hx : s.entryAt k = x at hrel
    cases hrel with
    | some hev => exact s.slotOf_none hnew hx (hev.id.symm.trans hid)

/-- The entry a header creates. -/
theorem State.Assembled.createEntry {s u : State} (hs : s.Assembled) {h : HeaderSegment} {newcomer i : Nat}
    (hnew : s.slotOf h.id = none) (hroom : s.makeRoom newcomer = some (u, i)) (origin : Origin) (rssi : Option Int)
    (st : EntryState) : (u.createEntry i h origin rssi st).AssembledBut i (u.newEntry h origin rssi st) := by
  have hu := hs.makeRoom hroom
  have hmade := roomMade_makeRoom (quiet := False) s hroom
  have hentry := u.createEntry_entryAt hmade.lt h origin rssi st
  have htable := (sound_createEntry (quiet := False) u (h := h) origin rssi st hmade.lt fun k e he => hmade.new hnew he).table
    hu.table
  refine hu.fill htable (by rw [State.createEntry_eq]; rfl) ?_ (fun f hf => ?_) (fun k hk => ?_) fun n sl hsl hid => ?_
  · rw [hentry, if_pos rfl]
  · rw [hmade.empty] at hf
    cases hf
  · rw [hentry, if_neg (Ne.symm hk)]
  · rw [Bool.eq_false_iff]
    intro hb
    obtain ⟨k, e, he, hg⟩ := ((State.assemblyOk_iff.1 hu.slots).2 n sl hsl).1 hb
    exact hmade.new hnew he (hg.1.trans hid)

namespace State.Assembled

variable {s : State} (hs : s.Assembled)
include hs

theorem dropNewcomer (id : Identity) : (s.dropNewcomer id).Assembled := by
  refine (sameAssembly_queueNotice _ _).assembled ?_
  have hdiscarded := hs.discardSlots fun sl => !sl.bound && sl.key.id == id
  exact hdiscarded.of_eq rfl rfl

theorem newAlert {h : HeaderSegment} (origin : Origin) (rssi : Option Int) (hnew : s.slotOf h.id = none) :
    (s.newAlert h origin rssi).Assembled := by
  unfold State.newAlert
  split
  · exact hs.dropNewcomer _
  · next u i hroom => exact ((hs.createEntry hnew hroom origin rssi _).discardSlots _).bindSlots rfl

theorem newCancel {h : HeaderSegment} (origin : Origin) (rssi : Option Int) (hnew : s.slotOf h.id = none) :
    (s.newCancel h origin rssi).Assembled := by
  unfold State.newCancel
  split
  · exact hs.dropNewcomer _
  · next u i hroom =>
    exact (sameAssembly_testReportDue _ i).assembled ((sameAssembly_startRelay _ i).assembled
      (((hs.createEntry hnew hroom origin rssi _).discardSlots _).assembled nofun))

/-! ### Supersede and cancel -/

/-- The entry of an identity filled anew, once its bound slots are gone. -/
theorem fillEntry {i : Nat} {e : Entry} {h : HeaderSegment} (origin : Origin) (st : EntryState)
    (he : s.entryAt i = some e) (hid : e.id = h.id)
    (hunbound : ∀ n sl, s.slotAt n = some sl → sl.key.id = e.id → sl.bound = false) :
    ∃ e', e'.state = st ∧ (s.fillEntry i h origin st).AssembledBut i e' := by
  have hentry : (s.fillEntry i h origin st).entryAt i = some
      { e.fill h origin (s.category h.category).precedence (areaTest s.positionZone h.zones) s.now with state := st } :=
    State.entryAt_modifyEntry_same he _
  refine ⟨_, rfl, hs.fill ?_ rfl hentry (fun f hf => ?_) (fun k hk => State.entryAt_modifyEntry_ne hk _)
    fun n sl hsl hk => hunbound n sl hsl (hk.trans hid.symm)⟩
  · refine State.tableOk_of_entries (s.length_modifyEntry i _) (fun k f hf => ?_) hs.table
    by_cases hk : k = i
    · subst hk
      rw [hentry] at hf
      cases hf
      exact ⟨e, he, hid⟩
    · exact ⟨f, (State.entryAt_modifyEntry_ne hk _).symm.trans hf, rfl⟩
  · rw [he] at hf
    cases hf
    exact hid

/-- Once the slots of an entry's update and below are discarded, its identity has no bound slot. -/
theorem discardSlots_unbound {i : Nat} {e : Entry} (he : s.entryAt i = some e) {p : Slot → Bool}
    (hp : ∀ sl, sl.key.id = e.id → sl.key.update = e.update → p sl = true) {n : Nat} {sl : Slot}
    (hsl : (s.discardSlots p).slotAt n = some sl) (hid : sl.key.id = e.id) : sl.bound = false := by
  obtain ⟨hat, hkept⟩ := State.slotAt_discardSlots_some.1 hsl
  rw [Bool.eq_false_iff]
  intro hb
  obtain ⟨-, hup, -⟩ := hs.gathers_of_bound hat hb he hid.symm
  rw [hp sl hid hup.symm] at hkept
  cases hkept

theorem supersede {i : Nat} {e : Entry} {h : HeaderSegment} (origin : Origin) (rssi : Option Int)
    (he : s.entryAt i = some e) (hid : e.id = h.id) (hup : e.update < h.update) :
    (s.supersede i e h origin rssi).Assembled := by
  unfold State.supersede
  dsimp only
  have hdiscard := hs.discardSlots fun sl => sl.key.id == e.id && decide (sl.key.update < h.update)
  have hunbound (n : Nat) (sl : Slot) := hs.discardSlots_unbound (n := n) (sl := sl) he
    (p := fun sl => sl.key.id == e.id && decide (sl.key.update < h.update)) fun sl hk hu => by simp [hk, hu, hup]
  have hentry : (s.discardSlots fun sl => sl.key.id == e.id && decide (sl.key.update < h.update)).entryAt i = some e := he
  generalize s.discardSlots _ = v at *
  have hends : SidelinkOnly v (((v.endJob e.id .relay).resetRelay i h origin rssi).restartTallyWait i) :=
    ((sidelinkOnly_endJob v _ _).trans (sidelinkOnly_modifyRelay _ i _)).trans (sidelinkOnly_restartTallyWait _ i)
  generalize ((v.endJob e.id .relay).resetRelay i h origin rssi).restartTallyWait i = w at *
  have hw := (SameAssembly.of_sidelinkOnly hends).assembled hdiscard
  obtain ⟨f, hf, hsame⟩ := (SameAssembly.of_sidelinkOnly hends).some_left hentry
  have hfid := (Entry.gathering_eq hsame).1
  obtain ⟨e', hst, hfilled⟩ := hw.fillEntry origin (.collecting (w.now + seconds 300)) hf (hfid.trans hid)
    fun n sl hsl hk => hunbound n sl ((SameAssembly.of_sidelinkOnly hends).slotAt n ▸ hsl) (hk.trans hfid)
  have hc : e'.state.name = .collecting := by rw [hst]; rfl
  split
  · refine State.AssembledBut.bindSlots (hfilled.of_eq ?_ ?_) hc
    · rw [State.queueNotice_eq]
    · rw [State.queueNotice_eq]
  · exact hfilled.bindSlots hc

theorem cancelEntry {i : Nat} {e : Entry} {h : HeaderSegment} (origin : Origin) (rssi : Option Int)
    (he : s.entryAt i = some e) (hid : e.id = h.id) (hup : e.update ≤ h.update) :
    (s.cancelEntry i e h origin rssi).Assembled := by
  unfold State.cancelEntry
  dsimp only
  have hdiscard := hs.discardSlots fun sl => sl.key.id == e.id && decide (sl.key.update ≤ h.update)
  have hunbound (n : Nat) (sl : Slot) := hs.discardSlots_unbound (n := n) (sl := sl) he
    (p := fun sl => sl.key.id == e.id && decide (sl.key.update ≤ h.update)) fun sl hk hu => by simp [hk, hu, hup]
  have hentry : (s.discardSlots fun sl => sl.key.id == e.id && decide (sl.key.update ≤ h.update)).entryAt i = some e := he
  generalize s.discardSlots _ = v at *
  have hends : SidelinkOnly v ((v.endJob e.id .relay).resetRelay i h origin rssi) :=
    (sidelinkOnly_endJob v _ _).trans (sidelinkOnly_modifyRelay _ i _)
  generalize (v.endJob e.id .relay).resetRelay i h origin rssi = w at *
  have hw := (SameAssembly.of_sidelinkOnly hends).assembled hdiscard
  obtain ⟨f, hf, hsame⟩ := (SameAssembly.of_sidelinkOnly hends).some_left hentry
  have hfid := (Entry.gathering_eq hsame).1
  obtain ⟨e', hst, hfilled⟩ := hw.fillEntry origin .cancelled hf (hfid.trans hid)
    fun n sl hsl hk => hunbound n sl ((SameAssembly.of_sidelinkOnly hends).slotAt n ▸ hsl) (hk.trans hfid)
  have hassembled := hfilled.assembled (by rw [hst]; nofun)
  refine (sameAssembly_testReportDue _ i).assembled ((sameAssembly_startRelay _ i).assembled ?_)
  split
  · exact (sameAssembly_queueNotice _ _).assembled hassembled
  · exact hassembled

theorem takeHeader (h : HeaderSegment) (origin : Origin) (rssi : Option Int) : (s.takeHeader h origin rssi).Assembled := by
  unfold State.takeHeader
  split
  · next hnew =>
    split
    · exact hs.newAlert origin rssi hnew
    · exact hs.newCancel origin rssi hnew
  · next i hi =>
    split
    · exact hs
    · next e he =>
      obtain ⟨f, hf, hid⟩ := s.slotOf_spec hi
      rw [he] at hf
      cases hf
      split
      · exact hs
      · split
        · exact hs
        · exact (sameAssembly_countDuplicate s _ _).assembled hs
      · next hc => exact hs.supersede origin rssi he hid (classify_supersede hc).1
      · next hc => exact hs.cancelEntry origin rssi he hid (classify_cancel hc).1

/-! ### The collect limit, expiry and removal -/

/-- After its bound slots are gone no open slot is one of the entry's. -/
theorem unserved_discardSlots {i : Nat} {e : Entry} (he : s.entryAt i = some e) :
    (s.discardSlots fun sl => sl.bound && sl.key.id == e.id).unserved i := by
  intro f n sl hf hsl hg
  obtain ⟨hat, hkept⟩ := State.slotAt_discardSlots_some.1 hsl
  have hf' : s.entryAt i = some f := hf
  rw [he] at hf'
  cases hf'
  rw [(hs.of_gathers hat he hg).1, hg.1] at hkept
  simp at hkept

theorem abandonTexts {i : Nat} {e : Entry} (he : s.entryAt i = some e) :
    (s.abandonTexts i e.id).Assembled ∧ (s.abandonTexts i e.id).unserved i := by
  have hnone := hs.unserved_discardSlots he
  have hdiscard := hs.discardSlots fun sl => sl.bound && sl.key.id == e.id
  refine ⟨hdiscard.stopGathering (fun _ => rfl) fun f n sl hf hsl => ⟨hnone f n sl hf hsl, hnone f n sl hf hsl⟩, ?_⟩
  intro f' n sl hf' hsl hg
  unfold State.abandonTexts at hf'
  rw [State.entryAt_modifyEntry, if_pos rfl] at hf'
  obtain ⟨f, hf, rfl⟩ := Option.map_eq_some_iff.1 hf'
  exact hnone f n sl hf hsl hg

theorem reachCollectLimit {i : Nat} {e : Entry} (he : s.entryAt i = some e) : (s.reachCollectLimit i e).Assembled := by
  obtain ⟨habandoned, hnone⟩ := hs.abandonTexts he
  unfold State.reachCollectLimit
  have hmark : SameAssembly (s.abandonTexts i e.id)
      ((s.abandonTexts i e.id).modifyEntry i fun e => { e with partialMark := true }) := .modifyEntry _ i fun _ _ => rfl
  exact (hmark.assembled habandoned).leaveCollecting (hmark.unserved hnone)

theorem expireEntry {i : Nat} {e : Entry} (he : s.entryAt i = some e) : (s.expireEntry i e).Assembled := by
  unfold State.expireEntry
  dsimp only
  have hstart : (if e.collecting = true then s.abandonTexts i e.id else s).Assembled
      ∧ (if e.collecting = true then s.abandonTexts i e.id else s).unserved i := by
    split
    · exact hs.abandonTexts he
    · next hc => exact ⟨hs, State.unserved_of_not_collecting he fun h => hc (Entry.collecting_iff_name.2 h)⟩
  obtain ⟨hassembled, hnone⟩ := hstart
  have hstopped := sameAssembly_stopSends (if e.collecting = true then s.abandonTexts i e.id else s) i e.id
  generalize State.stopSends _ i e.id = u at *
  have hexpired : (u.modifyEntry i fun e => { e with state := .expired (u.now + seconds 120) }).Assembled :=
    (hstopped.assembled hassembled).enterState (fun _ => rfl) (fun _ => nofun) (hstopped.unserved hnone)
  refine (sameAssembly_testReportDue _ i).assembled ?_
  split
  · exact (sameAssembly_queueNotice _ _).assembled hexpired
  · exact hexpired

end State.Assembled

end Sys2Proof.Machine
end

section
/-! What every row but POWER_ON_RESET and CONFIGURE keeps: the configuration, a position no older than the zone hold
time (R68), and the agreement of slots and entries (R49, R57). -/

namespace Sys2Proof.Machine

/-- `t` leaves no position that is staler than those of `s`, under the same configuration, and slots in agreement with
their entries where `s` had them so. -/
structure Retains (s t : State) : Prop where
  config : t.al.config = s.al.config
  position : s.positionOk → t.positionOk
  assembly : s.Assembled → t.Assembled

namespace Retains

theorem refl (s : State) : Retains s s := ⟨rfl, id, id⟩

theorem trans {s t u : State} (h : Retains s t) (k : Retains t u) : Retains s u :=
  ⟨k.config.trans h.config, fun hs => k.position (h.position hs), fun hs => k.assembly (h.assembly hs)⟩

theorem ite {s t u : State} {p : Prop} [Decidable p] (h : p → Retains s t) (k : ¬ p → Retains s u) :
    Retains s (if p then t else u) := by
  split
  · next hp => exact h hp
  · next hp => exact k hp

/-- An operation that touches neither the clock nor the position record. -/
theorem of_assembly {s t : State} (hnow : t.now = s.now) (hposition : t.atc.position = s.atc.position)
    (hconfig : t.al.config = s.al.config) (hassembly : s.Assembled → t.Assembled) : Retains s t := by
  refine ⟨hconfig, fun h => ?_, hassembly⟩
  unfold State.positionOk State.freshUntil State.settings at h ⊢
  rw [hnow, hposition, hconfig]
  exact h

/-- An operation that touches neither the clock nor the table nor the slots. -/
theorem of_eq {s t : State} (hnow : t.now = s.now) (hposition : t.atc.position = s.atc.position)
    (hconfig : t.al.config = s.al.config) (htable : t.atc.table = s.atc.table) (hslots : t.sa.slots = s.sa.slots) :
    Retains s t := .of_assembly hnow hposition hconfig fun hs => hs.of_eq htable hslots

theorem of_internal {s t : State} (h : Internal s t) (hassembly : s.Assembled → t.Assembled) : Retains s t :=
  .of_assembly h.now h.position h.config hassembly

theorem of_same {s t : State} (h : Internal s t) (hsame : SameAssembly s t) : Retains s t :=
  .of_internal h hsame.assembled

theorem of_sidelinkOnly {s t : State} (h : SidelinkOnly s t) : Retains s t :=
  .of_same h.toInternal (.of_sidelinkOnly h)

theorem foldl {α : Type} {f : State → α → State} (h : ∀ s a, Retains s (f s a)) (l : List α) (s : State) :
    Retains s (l.foldl f s) := by
  induction l generalizing s with
  | nil => exact .refl s
  | cons a l ih => exact (h s a).trans (ih _)

end Retains

section
variable (s : State)

/-! ### The position record and the clock -/

theorem retains_changePosition {p : Option Position} (h : ∀ q, p = some q → q.written = s.now) :
    Retains s (s.changePosition p) := by
  refine ⟨s.changePosition_config p, fun _ q hq => ?_, (sameAssembly_changePosition s p).assembled⟩
  rw [State.changePosition_position] at hq
  rw [State.changePosition_now, h q hq]
  exact Nat.le_add_right _ _

theorem retains_writePosition (zone : ZoneCode) (source : PositionSource) :
    Retains s (s.changePosition (some ⟨zone, source, s.now⟩)) :=
  retains_changePosition s fun q hq => by
    cases hq
    rfl

theorem retains_dropStale : Retains s s.dropStale := by
  rcases s.dropStale_cases with ⟨-, h⟩ | ⟨-, h⟩ <;> rw [h]
  · exact .refl s
  · exact retains_changePosition s nofun

theorem retains_advancePast (t : Micros) : Retains s (s.advancePast t) := by
  rcases s.advancePast_cases t with ⟨hfresh, h⟩ | ⟨-, h⟩ <;> rw [h]
  · exact ⟨rfl, fun _ => hfresh, fun hs => hs.of_eq rfl rfl⟩
  · refine ⟨(s.advance t).changePosition_config none, fun _ q hq => ?_,
      fun hs => (sameAssembly_changePosition _ none).assembled (hs.of_eq rfl rfl)⟩
    rw [State.changePosition_position] at hq
    cases hq

theorem retains_onTime {due : Option Micros} {f : State → State} (h : ∀ u, Retains u (f u)) :
    Retains s (s.onTime due f) := by
  unfold State.onTime
  split
  · exact .refl s
  · exact (retains_advancePast s _).trans (h _)

theorem retains_dropStaleApplication : Retains s s.dropStaleApplication := by
  unfold State.dropStaleApplication
  split
  · exact retains_dropStale s
  · exact .refl s

theorem retains_applyServingZone (zone : ZoneCode) : Retains s (s.applyServingZone zone) := by
  unfold State.applyServingZone
  dsimp only
  generalize hu : s.dropStaleApplication = u
  have hfresh : Retains s u := by
    rw [← hu]
    exact retains_dropStaleApplication s
  refine hfresh.trans ?_
  split
  · exact .ite (fun _ => retains_writePosition ..) fun _ => .refl _
  · exact retains_writePosition ..

/-! ### The end of an event -/

theorem retains_takeHead : Retains s s.takeHead := .of_sidelinkOnly (sidelinkOnly_takeHead s)

theorem retains_finish : Retains s s.finish :=
  (retains_takeHead s).trans (.of_eq
    ((State.settlePower_now _).trans (State.sendReport_now _))
    (congrArg Atc.position ((State.settlePower_atc _).trans (State.sendReport_atc _)))
    (congrArg Al.config ((State.settlePower_al _).trans (State.sendReport_al _)))
    (congrArg Atc.table ((State.settlePower_atc _).trans (State.sendReport_atc _)))
    (congrArg Sa.slots ((State.settlePower_sa _).trans (State.sendReport_sa _))))

theorem retains_event (f : State → State) (h : Retains s.begin (f s.begin)) : Retains s (f s.begin).finish :=
  Retains.trans ⟨h.config, h.position, fun hs => h.assembly (hs.of_eq rfl rfl)⟩ (retains_finish _)

/-! ### The application link -/

theorem retains_activity : Retains s s.activity := .of_eq (by simp) (by simp) (by simp) (by simp) (by simp)

theorem retains_respond (r : Response) : Retains s (s.respond r) := .of_eq rfl rfl rfl rfl rfl

theorem retains_transfer {f : State → State} (h : ∀ u, Retains u (f u)) : Retains s (transfer f s) :=
  (retains_activity s).trans (.ite (fun _ => .refl _) fun _ => .ite (fun _ => .of_eq rfl rfl rfl rfl rfl) fun _ => h _)

theorem retains_command {f : State → State} (h : ∀ u, Retains u (f u)) :
    Retains s (transfer (whenConfigured f) s) :=
  retains_transfer s fun u => .ite (fun _ => h u) fun _ => retains_respond u _

theorem retains_withHandle (h : Handle) {f : Entry → State → State}
    (hf : ∀ e, s.entryAt h.slot = some e → Retains s (f e s)) : Retains s (withHandle h f s) := by
  unfold withHandle
  refine .ite (fun _ => retains_respond s _) fun _ => ?_
  split
  · exact retains_respond s _
  · next e he => exact .ite (fun _ => hf e he) fun _ => retains_respond s _

theorem retains_setParticipation (p : ParticipationArg) : Retains s (s.setParticipation p) := by
  cases p with
  | full => exact .of_eq rfl rfl rfl rfl rfl
  | listenOnly =>
    refine (Retains.ite (fun _ => ?_) fun _ => .refl s).trans (retains_respond _ _)
    have hwent := wentListenOnly_goListenOnly s
    have hassembly := (sameAssembly_goListenOnly s).assembled
    refine .of_assembly ?_ ?_ ?_ hassembly <;> rw [hwent.rest] <;> rfl
  | other => exact retains_respond s _

theorem retains_enterAcknowledged {i : Nat} {e : Entry} (he : s.entryAt i = some e)
    (h : e.state.name ≠ .collecting) : Retains s (s.enterAcknowledged i) :=
  .of_internal (internal_enterAcknowledged s i) fun hs =>
    hs.enterAcknowledged (State.unserved_of_not_collecting he h)

theorem retains_acknowledge {i : Nat} {e : Entry} (he : s.entryAt i = some e) : Retains s (s.acknowledge i e) := by
  unfold State.acknowledge
  split
  · next hst => exact (retains_enterAcknowledged s he (by rw [hst]; nofun)).trans (retains_respond _ _)
  · next hst => exact (retains_enterAcknowledged s he (by rw [hst]; nofun)).trans (retains_respond _ _)
  all_goals exact retains_respond s _

theorem retains_respondSummary (i : Nat) : Retains s (s.respondSummary i) := by
  refine (retains_dropStale s).trans ?_
  unfold State.respondSummary
  dsimp only
  split
  · exact retains_respond _ _
  · exact retains_respond _ _

/-! ### The feed port -/

theorem retains_setCoverage (c : Bool) : Retains s (s.setCoverage c) :=
  .ite (fun _ => .refl s) fun _ =>
    Retains.trans (t := s.withFp { s.fp with coverage := c }) (.of_eq rfl rfl rfl rfl rfl)
      (.of_sidelinkOnly (sidelinkOnly_queueNotice _ _))

theorem retains_reportRefused (o : Outstanding) : Retains s (s.reportRefused o) := by
  unfold State.reportRefused
  dsimp only
  split
  · exact .of_eq rfl rfl rfl rfl rfl
  · exact .of_eq rfl rfl rfl rfl rfl

theorem retains_answerReport (id : Identity) {f : State → Outstanding → State} (h : ∀ o, Retains s (f s o)) :
    Retains s (s.answerReport id f) := by
  unfold State.answerReport
  split
  · exact .ite (fun _ => h _) fun _ => .refl s
  · exact .refl s

theorem retains_takeFeed (m : FeedMessage) : Retains s (s.takeFeed m) := by
  cases m with
  | page kind segment => exact .ite (fun _ => .of_eq rfl rfl rfl rfl rfl) fun _ => .of_eq rfl rfl rfl rfl rfl
  | coverageAbsent => exact retains_setCoverage s false
  | coveragePresent zone =>
    have hunblocked : Retains (s.setCoverage true)
        ((s.setCoverage true).withFp { (s.setCoverage true).fp with blocked := false }) := .of_eq rfl rfl rfl rfl rfl
    exact ((retains_setCoverage s true).trans hunblocked).trans (retains_applyServingZone _ zone)
  | reportDone id => exact retains_answerReport s id fun o => .of_same (internal_reportDone s o) (sameAssembly_reportDone s o)
  | reportRefused id => exact retains_answerReport s id fun o => retains_reportRefused s o

theorem retains_feedArrival (kind length : Byte) (body : List Byte) :
    Retains s (s.feedArrival kind length body) := by
  unfold State.feedArrival
  refine .ite (fun _ => ?_) fun _ => .refl s
  split
  · exact (retains_activity s).trans (.of_eq rfl rfl rfl rfl rfl)
  · exact (retains_activity s).trans (retains_takeFeed _ _)

theorem retains_loseModem : Retains s s.loseModem := by
  unfold State.loseModem
  dsimp only
  have hdropped : Retains s (s.withFp { s.fp with modemReady := false, pageFifo := [] }) := .of_eq rfl rfl rfl rfl rfl
  split
  · exact (hdropped.trans (retains_reportRefused _ _)).trans (retains_setCoverage _ _)
  · exact hdropped.trans (retains_setCoverage _ _)

theorem retains_takePage (p : Page) : Retains s (s.takePage p) := by
  unfold State.takePage
  split <;> split
  · exact .of_internal (internal_takeHeader ..) fun hs => hs.takeHeader ..
  · exact .of_eq rfl rfl rfl rfl rfl
  · exact .of_internal (internal_takeText ..) fun hs => hs.takeText _
  · exact .of_eq rfl rfl rfl rfl rfl

theorem retains_takeFrame (r : RxFrame) : Retains s (s.takeFrame r) := by
  unfold State.takeFrame
  split
  · exact .of_eq rfl rfl rfl rfl rfl
  · next seg _ =>
    refine .ite (fun _ => .refl s) fun _ => ?_
    cases seg with
    | header h => exact .of_internal (internal_takeHeader ..) fun hs => hs.takeHeader ..
    | text t => exact .of_internal (internal_takeText ..) fun hs => hs.takeText _
    | tally t => exact .of_same (internal_takeTally ..) (sameAssembly_takeTally ..)

/-! ### The sidelink and Power Control -/

theorem retains_slcActivity : Retains s s.slcActivity := by
  unfold State.slcActivity State.restartHold
  split
  · exact .ite (fun _ => .of_eq rfl rfl rfl rfl rfl) fun _ => .refl s
  · exact .refl s

theorem retains_enterDefer : Retains s s.enterDefer := .of_sidelinkOnly (sidelinkOnly_enterDefer s)

theorem retains_withSlc (x : Slc) : Retains s (s.withSlc x) := .of_eq rfl rfl rfl rfl rfl

theorem retains_hearCarrier : Retains s s.hearCarrier := by
  unfold State.hearCarrier
  dsimp only
  generalize hu : State.slcActivity _ = u
  have hactive : Retains s u := by
    rw [← hu]
    exact (retains_withSlc s _).trans (retains_slcActivity _)
  refine hactive.trans ?_
  split
  · exact (retains_withSlc _ _).trans (retains_enterDefer _)
  · exact .refl _

theorem retains_loseCarrier (unfinished : Nat) : Retains s (s.loseCarrier unfinished) := by
  unfold State.loseCarrier
  dsimp only
  generalize hu : State.slcActivity _ = u
  have hactive : Retains s u := by
    rw [← hu]
    exact (retains_withSlc s _).trans (retains_slcActivity _)
  refine hactive.trans ?_
  split
  · unfold State.endReception
    dsimp only
    have hdamaged : Retains u (if unfinished = 0 then u else u.setDamaged) :=
      .ite (fun _ => .refl _) fun _ => .of_eq rfl rfl rfl rfl rfl
    exact hdamaged.trans (.ite (fun _ => .of_eq rfl rfl rfl rfl rfl) fun _ => retains_enterDefer _)
  · exact .refl _

theorem retains_completeGap : Retains s s.completeGap := by
  unfold State.completeGap
  dsimp only
  generalize hu : s.withSlc _ = u
  have hended : Retains s u := by
    rw [← hu]
    exact retains_withSlc s _
  refine hended.trans ?_
  split
  · exact .ite (fun _ => .of_eq rfl rfl rfl rfl rfl) fun _ => .of_sidelinkOnly (sidelinkOnly_beginContention _)
  · exact (Retains.of_sidelinkOnly (sidelinkOnly_queueNotice _ _)).trans
      (.ite (fun _ => .of_eq rfl rfl rfl rfl rfl) fun _ => retains_enterDefer _)
  · exact .refl _

theorem retains_emit (a : AirSignal) : Retains s (s.emit a) := .of_eq rfl rfl rfl rfl rfl

theorem retains_endSlot : Retains s s.endSlot := by
  unfold State.endSlot
  split
  · refine .ite (fun _ => .of_sidelinkOnly (sidelinkOnly_beginSlot ..)) fun _ => ?_
    unfold State.win
    dsimp only
    generalize hu : State.emit _ _ = u
    have hemit : Retains s u := by
      rw [← hu]
      exact (retains_withSlc s _).trans (retains_emit _ _)
    refine hemit.trans ?_
    split
    · exact .ite (fun _ => .refl _) fun _ =>
        Retains.trans (retains_withSlc _ _) (.of_sidelinkOnly (sidelinkOnly_reportWon _ _))
    · exact .refl _
  · exact .refl s

theorem retains_completeBurst : Retains s s.completeBurst := by
  unfold State.completeBurst
  dsimp only
  generalize hu : State.slcActivity _ = u
  have hactive : Retains s u := by
    rw [← hu]
    exact (retains_withSlc s _).trans (retains_slcActivity _)
  refine hactive.trans ?_
  split
  · unfold State.afterBurst
    refine .ite (fun _ => ?_) fun _ => .ite (fun _ => ?_) fun _ => ?_
    · exact (retains_withSlc _ _).trans (.of_sidelinkOnly (sidelinkOnly_reportEnded _ _))
    · exact (retains_withSlc _ _).trans (.of_sidelinkOnly (sidelinkOnly_reportCompleted _ _))
    · exact (retains_withSlc _ _).trans (retains_enterDefer _)
  · exact .of_eq rfl rfl rfl rfl rfl

theorem retains_wake : Retains s s.wake := by
  unfold State.wake State.restartHold
  dsimp only
  rw [State.startMeasuring_eq]
  refine Retains.trans (t := s.withPwc { s.pwc with power := .awake, warmUp := none }) (.of_eq rfl rfl rfl rfl rfl) ?_
  split
  · exact .of_eq rfl rfl rfl rfl rfl
  · exact .of_eq rfl rfl rfl rfl rfl

/-! ### The timers -/

theorem retains_forEntry {i : Nat} {f : State → Entry → State} (h : ∀ e, s.entryAt i = some e → Retains s (f s e)) :
    Retains s (s.forEntry i f) := by
  unfold State.forEntry
  split
  · next e he => exact h e he
  · exact .refl s

/-- The end of a linger removes an EXPIRED entry. -/
theorem retains_lingerExpiry (i : Nat) : Retains s (s.onTime (s.lingerDue i) fun s => s.removeEntry i) := by
  unfold State.onTime
  split
  · exact .refl s
  · next t ht =>
    refine (retains_advancePast s t).trans (.of_internal (internal_removeEntry _ i) fun hs => hs.removeEntry i ?_)
    intro e n sl he _ hg
    obtain ⟨f, hf, hstate⟩ := s.advancePast_state he
    have hexpired := State.lingerDue_state ht hf
    have hst := hg.2.2
    rw [hstate (by rw [hexpired]; nofun), hexpired] at hst
    cases hst

theorem retains_placeJob (job : Job) : Retains s (s.placeJob job) := .of_sidelinkOnly (sidelinkOnly_placeJob s job)

/-! ### Every row -/

/-- What a row answers is retains. -/
def RetainsRow (s : State) (r : Result) : Prop := ∀ t, r = .next t → Retains s t

theorem RetainsRow.of_event {s : State} {f : State → State} (h : ∀ u, Retains u (f u)) : RetainsRow s (event f s) := by
  intro t ht
  cases ht
  exact retains_event s f (h _)

theorem RetainsRow.of_command {s : State} {f : State → State} (h : ∀ u, Retains u (f u)) : RetainsRow s (command f s) :=
  .of_event fun u => retains_command u h

theorem retains_pageFifoProcess : Retains s (match s.fp.pageFifo with
    | [] => s
    | p :: rest => (s.withFp { s.fp with pageFifo := rest }).dropStale.takePage p) := by
  split
  · exact .refl s
  · next p rest _ =>
    have htaken : Retains s (s.withFp { s.fp with pageFifo := rest }) := .of_eq rfl rfl rfl rfl rfl
    exact (htaken.trans (retains_dropStale _)).trans (retains_takePage _ p)

theorem retains_rxFifoProcess : Retains s (if s.slc.medium.measures then
      match s.slc.rxFifo with
      | [] => s
      | r :: rest => (s.withSlc { s.slc with rxFifo := rest }).dropStale.takeFrame r
    else s) := by
  refine .ite (fun _ => ?_) fun _ => .refl s
  split
  · exact .refl s
  · next r rest _ => exact ((retains_withSlc s _).trans (retains_dropStale _)).trans (retains_takeFrame _ r)

theorem retains_restartLink : Retains s s.restartLink := by
  rw [State.restartLink_eq]
  exact .of_eq rfl rfl rfl rfl rfl

theorem retains_wakeCause : Retains s s.wakeCause :=
  .ite (fun _ => .of_eq rfl rfl rfl rfl rfl) fun _ => .refl s

theorem retains_frameArrives (f : Frame) (rssi : Int) : Retains s (s.frameArrives f rssi) :=
  .ite (fun _ => .ite (fun _ => .of_eq rfl rfl rfl rfl rfl) fun _ => .of_eq rfl rfl rfl rfl rfl) fun _ => .of_eq rfl rfl rfl rfl rfl

theorem retains_readText (h : Handle) (index offset length : Nat) (u : State) :
    Retains u (if 3 < index then u.refuse .badArgument
      else withHandle h (fun e s => s.respond (textResponse e.texts[index]? offset length)) u) :=
  .ite (fun _ => retains_respond u _) fun _ => retains_withHandle u h fun _ _ => retains_respond u _

/-- Every row but POWER_ON_RESET and CONFIGURE is retains. -/
theorem retains_exec {c : Instr} (hreset : ∀ m, c ≠ .powerOnReset m) (hconfigure : ∀ r, c ≠ .configure r) :
    RetainsRow s (exec c s) := by
  cases c with
  | powerOnReset m => exact absurd rfl (hreset m)
  | configure r => exact absurd rfl (hconfigure r)
  | setPosition zone =>
    show RetainsRow s (execSetPosition zone s)
    exact .of_command fun u => .ite (fun _ => (retains_writePosition u zone _).trans (retains_respond _ _))
      fun _ => retains_respond u _
  | clearPosition =>
    show RetainsRow s (execClearPosition s)
    refine .of_command fun u => Retains.trans ?_ (retains_respond _ _)
    exact .ite (fun _ => retains_changePosition u nofun) fun _ => .refl u
  | setOptIn marks =>
    show RetainsRow s (execSetOptIn marks s)
    refine .of_command fun u => ?_
    have hopt : Retains u.dropStale { u.dropStale with atc := { u.dropStale.atc with optIn := marks } } :=
      .of_eq rfl rfl rfl rfl rfl
    exact (((retains_dropStale u).trans hopt).trans (.of_same (internal_reevaluate _) (sameAssembly_reevaluate _))).trans (retains_respond _ _)
  | setParticipation p =>
    show RetainsRow s (execSetParticipation p s)
    exact .of_command fun u => retains_setParticipation u p
  | acknowledge handle =>
    show RetainsRow s (execAcknowledge handle s)
    exact .of_command fun u => retains_withHandle u handle fun e he => retains_acknowledge u he
  | readAlert handle =>
    show RetainsRow s (execReadAlert handle s)
    exact .of_command fun u => retains_withHandle u handle fun _ _ => retains_respondSummary u _
  | readText handle index offset length =>
    show RetainsRow s (execReadText handle index offset length s)
    exact .of_command (retains_readText handle index offset length)
  | listAlerts =>
    show RetainsRow s (execListAlerts s)
    exact .of_command fun u => retains_respond u _
  | fetchNotice =>
    show RetainsRow s (execFetchNotice s)
    exact .of_command fun u => .of_eq rfl rfl rfl rfl rfl
  | readStatus =>
    show RetainsRow s (execReadStatus s)
    exact .of_event fun u => retains_transfer u fun u => (retains_dropStale u).trans (retains_respond _ _)
  | clearFlags marks =>
    show RetainsRow s (execClearFlags marks s)
    exact .of_command fun u => .of_eq rfl rfl rfl rfl rfl
  | restartLink =>
    show RetainsRow s (execRestartLink s)
    exact .of_command fun u => (retains_restartLink u).trans (retains_respond _ _)
  | unknownCommand =>
    show RetainsRow s (execUnknownCommand s)
    exact .of_event fun u => retains_transfer u fun u => retains_respond u _
  | responseRead =>
    show RetainsRow s (execResponseRead s)
    refine .of_event fun u => ?_
    split
    · exact .of_eq rfl rfl rfl rfl rfl
    · exact .of_eq rfl rfl rfl rfl rfl
  | linkResetLineAsserted =>
    show RetainsRow s (execLinkResetLineAsserted s)
    refine .of_event fun u => .ite (fun _ => .refl u) fun _ => ?_
    have hline : Retains u.activity { u.activity with al := { u.activity.al with resetLine := true } } := .of_eq rfl rfl rfl rfl rfl
    exact ((retains_activity u).trans hline).trans (retains_restartLink _)
  | linkResetLineReleased =>
    show RetainsRow s (execLinkResetLineReleased s)
    exact .of_event fun u => .of_eq rfl rfl rfl rfl rfl
  | page kind length body =>
    show RetainsRow s (execPage kind length body s)
    exact .of_event fun u => retains_feedArrival u _ _ _
  | coverage length body =>
    show RetainsRow s (execCoverage length body s)
    exact .of_event fun u => retains_feedArrival u _ _ _
  | reportDone length body =>
    show RetainsRow s (execReportDone length body s)
    exact .of_event fun u => retains_feedArrival u _ _ _
  | reportRefused length body =>
    show RetainsRow s (execReportRefused length body s)
    exact .of_event fun u => retains_feedArrival u _ _ _
  | feedMessageOtherKind kind length body =>
    show RetainsRow s (execFeedMessageOtherKind kind length body s)
    exact .of_event fun u => retains_feedArrival u _ _ _
  | modemReadyDrop =>
    show RetainsRow s (execModemReadyDrop s)
    exact .of_event fun u => .ite (fun _ => (retains_activity u).trans (retains_loseModem _)) fun _ =>
      .of_eq rfl rfl rfl rfl rfl
  | modemReadyRise =>
    show RetainsRow s (execModemReadyRise s)
    refine .of_event fun u => ?_
    exact Retains.trans (t := if u.configured then u.activity else u)
      (.ite (fun _ => retains_activity u) fun _ => .refl u) (.of_eq rfl rfl rfl rfl rfl)
  | pageFifoProcess =>
    show RetainsRow s (execPageFifoProcess s)
    exact .of_event retains_pageFifoProcess
  | answerTimerExpiry =>
    show RetainsRow s (execAnswerTimerExpiry s)
    refine .of_event fun u => retains_onTime u fun u => ?_
    split
    · exact retains_reportRefused u _
    · exact .refl u
  | frameReceived f rssi =>
    show RetainsRow s (execFrameReceived f rssi s)
    refine .of_event fun u => ?_
    split
    · exact retains_frameArrives u f rssi
    · exact .refl u
  | rxFifoProcess =>
    show RetainsRow s (execRxFifoProcess s)
    exact .of_event retains_rxFifoProcess
  | carrierBegin =>
    show RetainsRow s (execCarrierBegin s)
    refine .of_event fun u => ?_
    split
    · exact .of_eq rfl rfl rfl rfl rfl
    · exact .of_eq rfl rfl rfl rfl rfl
    · exact .ite (fun _ => .refl u) fun _ => retains_hearCarrier u
  | carrierEnd unfinished =>
    show RetainsRow s (execCarrierEnd unfinished s)
    refine .of_event fun u => ?_
    split
    · exact .of_eq rfl rfl rfl rfl rfl
    · exact .of_eq rfl rfl rfl rfl rfl
    · exact .ite (fun _ => .refl u) fun _ => retains_loseCarrier u unfinished
  | syncDetected =>
    show RetainsRow s (execSyncDetected s)
    refine .of_event fun u => ?_
    split
    · exact retains_withSlc u _
    · exact retains_withSlc u _
    · exact .refl u
  | quietGapComplete =>
    show RetainsRow s (execQuietGapComplete s)
    exact .of_event fun u => retains_onTime u retains_completeGap
  | holdLimitReached =>
    show RetainsRow s (execHoldLimitReached s)
    exact .of_event fun u => retains_onTime u fun u => .of_sidelinkOnly (sidelinkOnly_enterJammed u)
  | contentionSlotEnd =>
    show RetainsRow s (execContentionSlotEnd s)
    exact .of_event fun u => retains_onTime u retains_endSlot
  | preambleEnd =>
    show RetainsRow s (execPreambleEnd s)
    exact .of_event fun u => retains_onTime u fun u => .of_eq rfl rfl rfl rfl rfl
  | burstCompletion =>
    show RetainsRow s (execBurstCompletion s)
    exact .of_event fun u => retains_onTime u retains_completeBurst
  | collectLimit slot =>
    show RetainsRow s (execCollectLimit slot s)
    exact .of_event fun u => retains_onTime u fun u => (retains_dropStale u).trans
      (retains_forEntry _ fun e he => .of_internal (internal_reachCollectLimit _ _ e) fun hs => hs.reachCollectLimit he)
  | lifetimeExpiry slot =>
    show RetainsRow s (execLifetimeExpiry slot s)
    exact .of_event fun u => retains_onTime u fun u =>
      retains_forEntry u fun e he => .of_internal (internal_expireEntry u _ e) fun hs => hs.expireEntry he
  | lingerExpiry slot =>
    show RetainsRow s (execLingerExpiry slot s)
    exact .of_event fun u => retains_lingerExpiry u slot
  | positionStale =>
    show RetainsRow s (execPositionStale s)
    exact .of_event fun u => retains_onTime u retains_dropStale
  | assemblyLimit slot =>
    show RetainsRow s (execAssemblyLimit slot s)
    exact .of_event fun u => retains_onTime u fun u => .of_internal (internal_discardSlot u _) fun hs => hs.discardSlot _
  | relayWaitExpiry slot =>
    show RetainsRow s (execRelayWaitExpiry slot s)
    exact .of_event fun u => retains_onTime u fun u => retains_forEntry u fun e _ =>
      (Retains.of_sidelinkOnly (sidelinkOnly_modifyRelay u slot _)).trans (retains_placeJob _ _)
  | tallyWaitExpiry slot =>
    show RetainsRow s (execTallyWaitExpiry slot s)
    exact .of_event fun u => retains_onTime u fun u => retains_forEntry u fun e _ =>
      (Retains.of_sidelinkOnly (sidelinkOnly_modifyTallySend u slot _)).trans (retains_placeJob _ _)
  | awakeHoldRunOut =>
    show RetainsRow s (execAwakeHoldRunOut s)
    exact .of_event fun u => retains_onTime u fun u => .of_eq rfl rfl rfl rfl rfl
  | sampleWindowOpen =>
    show RetainsRow s (execSampleWindowOpen s)
    exact .of_event fun u => retains_onTime u fun u => .of_eq rfl rfl rfl rfl rfl
  | sampleWindowClose =>
    show RetainsRow s (execSampleWindowClose s)
    exact .of_event fun u => retains_onTime u fun u => .of_eq rfl rfl rfl rfl rfl
  | wakePattern =>
    show RetainsRow s (execWakePattern s)
    exact .of_event fun u => retains_onTime u retains_wakeCause
  | warmUpEnd =>
    show RetainsRow s (execWarmUpEnd s)
    exact .of_event fun u => retains_onTime u retains_wake

end

end Sys2Proof.Machine
end

section
/-! Until CONFIGURE is taken every block holds its power-on state (R183). -/

namespace Sys2Proof.Machine

/-- Every block holds its power-on state, but for the response and the input levels of the three lines. -/
structure State.PoweredOn (s : State) : Prop where
  atc : s.atc = State.reset.atc
  sa : s.sa = State.reset.sa
  pwc : s.pwc = State.reset.pwc
  tu : s.tu = State.reset.tu
  slc : s.slc = { State.reset.slc with carrier := s.slc.carrier }
  fp : s.fp = { State.reset.fp with modemReady := s.fp.modemReady }
  al : s.al = { State.reset.al with response := s.al.response, resetLine := s.al.resetLine }

theorem State.unconfiguredOk_iff {s : State} : s.unconfiguredOk ↔ (s.al.config = none → s.PoweredOn) :=
  ⟨fun h hc => let ⟨h1, h2, h3, h4, h5, h6, h7⟩ := h hc; ⟨h1, h2, h3, h4, h5, h6, h7⟩,
    fun h hc => let ⟨h1, h2, h3, h4, h5, h6, h7⟩ := h hc; ⟨h1, h2, h3, h4, h5, h6, h7⟩⟩

namespace State.PoweredOn

variable {s : State} (h : s.PoweredOn)
include h

theorem config : s.al.config = none := by rw [h.al]; rfl
theorem configured : s.configured = false := by rw [State.configured, h.config]; rfl
theorem medium : s.slc.medium = .off := by rw [h.slc]; rfl
theorem current : s.slc.current = none := by rw [h.slc]; rfl
theorem queue : s.slc.queue = [] := by rw [h.slc]; rfl
theorem quietSince : s.slc.quietSince = none := by rw [h.slc]; rfl
theorem pageFifo : s.fp.pageFifo = [] := by rw [h.fp]; rfl
theorem outstanding : s.tu.outstanding = none := by rw [h.tu]; rfl
theorem position : s.atc.position = none := by rw [h.atc]; rfl
theorem power : s.pwc.power = .awake := by rw [h.pwc]; rfl
theorem hold : s.pwc.hold = .notStarted := by rw [h.pwc]; rfl
theorem warmUp : s.pwc.warmUp = none := by rw [h.pwc]; rfl
theorem window : s.pwc.window = none := by rw [h.pwc]; rfl
theorem entryAt (i : Nat) : s.entryAt i = none := State.entryAt_of_reset h.atc i
theorem slotAt (n : Nat) : s.slotAt n = none := State.slotAt_of_reset h.sa n

theorem settled : s.settled = true := by
  refine State.settled_of_keepsPower (.inl ⟨h.power, by rw [h.hold]; nofun⟩) (.inr (.inr (.inl h.queue))) ?_
  unfold State.maySendReport
  rw [h.tu]
  simp [State.reset]

theorem activity : s.activity = s := State.activity_unconfigured h.power h.config

/-- Only the clock, the outputs, the queue of commands, the response and the input levels differ. -/
theorem of_eq {t : State} (hatc : t.atc = s.atc) (hsa : t.sa = s.sa) (hpwc : t.pwc = s.pwc) (htu : t.tu = s.tu)
    (hslc : t.slc = { s.slc with carrier := t.slc.carrier })
    (hfp : t.fp = { s.fp with modemReady := t.fp.modemReady })
    (hal : t.al = { s.al with response := t.al.response, resetLine := t.al.resetLine }) : t.PoweredOn where
  atc := hatc.trans h.atc
  sa := hsa.trans h.sa
  pwc := hpwc.trans h.pwc
  tu := htu.trans h.tu
  slc := by
    rw [hslc, h.slc]
  fp := by
    rw [hfp, h.fp]
  al := by
    rw [hal, h.al]

theorem respond (r : Response) : (s.respond r).PoweredOn := h.of_eq rfl rfl rfl rfl rfl rfl rfl

theorem dropStale : s.dropStale = s :=
  State.dropStale_of_freshAt fun p hp => by
    rw [h.position] at hp
    cases hp

/-- A link restart finds nothing to drop but the response. -/
theorem restartLink : s.restartLink.PoweredOn := by
  have hpresent (l : List Nat) : l.filterMap s.presentOf = [] := by
    rw [List.filterMap_eq_nil_iff]
    intro i _
    unfold State.presentOf
    rw [h.entryAt]
    rfl
  rw [State.restartLink_eq]
  refine h.of_eq rfl rfl rfl rfl rfl rfl ?_
  show s.restartedAl = { s.al with response := s.restartedAl.response, resetLine := s.restartedAl.resetLine }
  unfold State.restartedAl
  rw [hpresent, h.al]
  rfl

end State.PoweredOn

/-- What a row answers in a part that holds its power-on state holds it too. -/
def StaysPoweredOn (r : Result) : Prop := ∀ t, r = .next t → t.PoweredOn

theorem StaysPoweredOn.of_event {s : State} {f : State → State} (h : (f s.begin).PoweredOn) :
    StaysPoweredOn (event f s) := by
  intro t ht
  rw [event_of_settled h.settled] at ht
  cases ht
  exact h

/-- A row without effect before CONFIGURE. -/
theorem StaysPoweredOn.of_same {s : State} {f : State → State} (hs : s.begin.PoweredOn) (h : f s.begin = s.begin) :
    StaysPoweredOn (event f s) := .of_event (by rw [h]; exact hs)

/-- A transfer before CONFIGURE. -/
theorem StaysPoweredOn.of_transfer {s : State} {f : State → State} (hs : s.begin.PoweredOn)
    (h : (f s.begin).PoweredOn) : StaysPoweredOn (event (transfer f) s) := by
  refine .of_event ?_
  unfold transfer
  dsimp only
  rw [hs.activity]
  split
  · exact hs
  · split
    · exact hs.of_eq rfl rfl rfl rfl rfl rfl rfl
    · exact h

theorem StaysPoweredOn.of_command {s : State} (f : State → State) (hs : s.begin.PoweredOn) :
    StaysPoweredOn (command f s) := by
  refine .of_transfer hs ?_
  unfold whenConfigured
  rw [if_neg (by rw [hs.configured]; nofun)]
  exact hs.respond _

theorem StaysPoweredOn.of_feed {s : State} (kind length : Byte) (body : List Byte) (hs : s.begin.PoweredOn) :
    StaysPoweredOn (event (fun u => u.feedArrival kind length body) s) :=
  .of_same hs (if_neg (by rw [hs.configured]; nofun))

/-- A timed event whose timer does not run has no effect. -/
theorem StaysPoweredOn.of_timer {s : State} {due : State → Option Micros} {f : State → State} (hs : s.begin.PoweredOn)
    (h : due s.begin = none) : StaysPoweredOn (event (fun u => u.onTime (due u) f) s) := by
  refine .of_same hs ?_
  unfold State.onTime
  rw [h]

/-- Every row but POWER_ON_RESET and CONFIGURE keeps the power-on state. -/
theorem staysPoweredOn_exec {c : Instr} (hreset : ∀ m, c ≠ .powerOnReset m) (hconfigure : ∀ r, c ≠ .configure r)
    {s : State} (h : s.PoweredOn) : StaysPoweredOn (exec c s) := by
  have hs : s.begin.PoweredOn := h.of_eq rfl rfl rfl rfl rfl rfl rfl
  cases c with
  | powerOnReset m => exact absurd rfl (hreset m)
  | configure r => exact absurd rfl (hconfigure r)
  | setPosition zone =>
    show StaysPoweredOn (execSetPosition zone s)
    exact .of_command _ hs
  | clearPosition =>
    show StaysPoweredOn (execClearPosition s)
    exact .of_command _ hs
  | setOptIn marks =>
    show StaysPoweredOn (execSetOptIn marks s)
    exact .of_command _ hs
  | setParticipation p =>
    show StaysPoweredOn (execSetParticipation p s)
    exact .of_command _ hs
  | acknowledge handle =>
    show StaysPoweredOn (execAcknowledge handle s)
    exact .of_command _ hs
  | readAlert handle =>
    show StaysPoweredOn (execReadAlert handle s)
    exact .of_command _ hs
  | readText handle index offset length =>
    show StaysPoweredOn (execReadText handle index offset length s)
    exact .of_command _ hs
  | listAlerts =>
    show StaysPoweredOn (execListAlerts s)
    exact .of_command _ hs
  | fetchNotice =>
    show StaysPoweredOn (execFetchNotice s)
    exact .of_command _ hs
  | clearFlags marks =>
    show StaysPoweredOn (execClearFlags marks s)
    exact .of_command _ hs
  | restartLink =>
    show StaysPoweredOn (execRestartLink s)
    exact .of_command _ hs
  | readStatus =>
    show StaysPoweredOn (execReadStatus s)
    exact .of_transfer hs (by rw [hs.dropStale]; exact hs.respond _)
  | unknownCommand =>
    show StaysPoweredOn (execUnknownCommand s)
    exact .of_transfer hs (hs.respond _)
  | responseRead =>
    show StaysPoweredOn (execResponseRead s)
    refine .of_event ?_
    split
    · exact hs.of_eq rfl rfl rfl rfl rfl rfl rfl
    · exact hs.of_eq rfl rfl rfl rfl rfl rfl rfl
  | linkResetLineAsserted =>
    show StaysPoweredOn (execLinkResetLineAsserted s)
    refine .of_event ?_
    split
    · exact hs
    · rw [hs.activity]
      refine State.PoweredOn.restartLink ?_
      exact hs.of_eq rfl rfl rfl rfl rfl rfl rfl
  | linkResetLineReleased =>
    show StaysPoweredOn (execLinkResetLineReleased s)
    exact .of_event (hs.of_eq rfl rfl rfl rfl rfl rfl rfl)
  | page kind length body =>
    show StaysPoweredOn (execPage kind length body s)
    exact .of_feed _ _ _ hs
  | coverage length body =>
    show StaysPoweredOn (execCoverage length body s)
    exact .of_feed _ _ _ hs
  | reportDone length body =>
    show StaysPoweredOn (execReportDone length body s)
    exact .of_feed _ _ _ hs
  | reportRefused length body =>
    show StaysPoweredOn (execReportRefused length body s)
    exact .of_feed _ _ _ hs
  | feedMessageOtherKind kind length body =>
    show StaysPoweredOn (execFeedMessageOtherKind kind length body s)
    exact .of_feed _ _ _ hs
  | modemReadyDrop =>
    show StaysPoweredOn (execModemReadyDrop s)
    refine .of_event ?_
    rw [if_neg (by rw [hs.configured]; nofun)]
    exact hs.of_eq rfl rfl rfl rfl rfl rfl rfl
  | modemReadyRise =>
    show StaysPoweredOn (execModemReadyRise s)
    refine .of_event ?_
    rw [if_neg (by rw [hs.configured]; nofun)]
    exact hs.of_eq rfl rfl rfl rfl rfl rfl rfl
  | pageFifoProcess =>
    show StaysPoweredOn (execPageFifoProcess s)
    exact .of_same hs (by rw [hs.pageFifo])
  | answerTimerExpiry =>
    show StaysPoweredOn (execAnswerTimerExpiry s)
    exact .of_timer (due := State.answerDue) hs (by unfold State.answerDue; rw [hs.outstanding]; rfl)
  | frameReceived f rssi =>
    show StaysPoweredOn (execFrameReceived f rssi s)
    exact .of_same hs (by rw [hs.medium])
  | syncDetected =>
    show StaysPoweredOn (execSyncDetected s)
    exact .of_same hs (by rw [hs.medium])
  | rxFifoProcess =>
    show StaysPoweredOn (execRxFifoProcess s)
    exact .of_same hs (by rw [hs.medium]; rfl)
  | carrierBegin =>
    show StaysPoweredOn (execCarrierBegin s)
    refine .of_event ?_
    rw [hs.medium]
    exact hs.of_eq rfl rfl rfl rfl rfl rfl rfl
  | carrierEnd unfinished =>
    show StaysPoweredOn (execCarrierEnd unfinished s)
    refine .of_event ?_
    rw [hs.medium]
    exact hs.of_eq rfl rfl rfl rfl rfl rfl rfl
  | quietGapComplete =>
    show StaysPoweredOn (execQuietGapComplete s)
    exact .of_timer (due := State.gapInstant) hs (by unfold State.gapInstant; rw [hs.medium])
  | holdLimitReached =>
    show StaysPoweredOn (execHoldLimitReached s)
    exact .of_timer (due := State.jamDue) hs (by unfold State.jamDue; rw [hs.medium])
  | contentionSlotEnd =>
    show StaysPoweredOn (execContentionSlotEnd s)
    exact .of_timer (due := State.slotDue) hs (by unfold State.slotDue; rw [hs.medium])
  | preambleEnd =>
    show StaysPoweredOn (execPreambleEnd s)
    exact .of_timer (due := State.preambleDue) hs (by unfold State.preambleDue; rw [hs.medium])
  | burstCompletion =>
    show StaysPoweredOn (execBurstCompletion s)
    exact .of_timer (due := State.burstDue) hs (by unfold State.burstDue; rw [hs.medium])
  | collectLimit slot =>
    show StaysPoweredOn (execCollectLimit slot s)
    exact .of_timer (due := fun u => u.collectDue slot) hs (by unfold State.collectDue; rw [hs.entryAt])
  | lifetimeExpiry slot =>
    show StaysPoweredOn (execLifetimeExpiry slot s)
    exact .of_timer (due := fun u => u.lifetimeDue slot) hs (by unfold State.lifetimeDue; rw [hs.entryAt])
  | lingerExpiry slot =>
    show StaysPoweredOn (execLingerExpiry slot s)
    exact .of_timer (due := fun u => u.lingerDue slot) hs (by unfold State.lingerDue; rw [hs.entryAt])
  | relayWaitExpiry slot =>
    show StaysPoweredOn (execRelayWaitExpiry slot s)
    exact .of_timer (due := fun u => u.relayDue slot) hs (by unfold State.relayDue; rw [hs.entryAt])
  | tallyWaitExpiry slot =>
    show StaysPoweredOn (execTallyWaitExpiry slot s)
    exact .of_timer (due := fun u => u.tallyDue slot) hs (by unfold State.tallyDue; rw [hs.entryAt])
  | positionStale =>
    show StaysPoweredOn (execPositionStale s)
    exact .of_timer (due := State.staleDue) hs (by unfold State.staleDue; rw [hs.position]; rfl)
  | assemblyLimit slot =>
    show StaysPoweredOn (execAssemblyLimit slot s)
    exact .of_timer (due := fun u => u.assemblyDue slot) hs (by unfold State.assemblyDue; rw [hs.slotAt]; rfl)
  | awakeHoldRunOut =>
    show StaysPoweredOn (execAwakeHoldRunOut s)
    exact .of_timer (due := State.holdDue) hs (by unfold State.holdDue; rw [hs.hold])
  | sampleWindowOpen =>
    show StaysPoweredOn (execSampleWindowOpen s)
    exact .of_timer (due := State.windowDue) hs (if_neg (by rw [hs.power]; nofun))
  | sampleWindowClose =>
    show StaysPoweredOn (execSampleWindowClose s)
    exact .of_timer (due := State.closeDue) hs (by unfold State.closeDue; rw [hs.window]; rfl)
  | wakePattern =>
    show StaysPoweredOn (execWakePattern s)
    exact .of_timer (due := State.patternDue) hs (by unfold State.patternDue; rw [hs.window]; rfl)
  | warmUpEnd =>
    show StaysPoweredOn (execWarmUpEnd s)
    exact .of_timer (due := State.warmUpDue) hs hs.warmUp

/-! ### CONFIGURE and POWER_ON_RESET -/

theorem State.finish_config (s : State) : s.finish.al.config = s.al.config := by
  simp [State.finish, (sidelinkOnly_takeHead s).config]

/-- A refused CONFIGURE keeps the power-on state; one that is taken ends it. -/
theorem configure_poweredOn {r : ConfigRecord} {s t : State} (h : s.PoweredOn) (hexec : exec (.configure r) s = .next t)
    (hnone : t.al.config = none) : t.PoweredOn := by
  have hs : s.begin.PoweredOn := h.of_eq rfl rfl rfl rfl rfl rfl rfl
  have hexec' : event (transfer fun s => s.configure r) s = .next t := hexec
  have hconfigure : s.begin.configure r = match takenRecord r with
      | none => s.begin.refuse .badArgument
      | some (cfg, map) => s.begin.takeConfig cfg map := if_neg (by rw [hs.configured]; nofun)
  cases hr : takenRecord r with
  | none =>
    rw [hr] at hconfigure
    exact StaysPoweredOn.of_transfer hs (by rw [hconfigure]; exact hs.respond _) t hexec'
  | some taken =>
    obtain ⟨cfg, map⟩ := taken
    rw [hr] at hconfigure
    dsimp only at hconfigure
    by_cases hline : s.begin.al.resetLine = true
    · exact StaysPoweredOn.of_event (by rw [transfer_of_reset hline, hs.activity]; exact hs) t hexec'
    · by_cases hresponse : s.begin.al.response.isSome = true
      · refine StaysPoweredOn.of_event ?_ t hexec'
        rw [transfer_of_pending (Bool.eq_false_iff.2 hline) hresponse, hs.activity]
        exact hs.of_eq rfl rfl rfl rfl rfl rfl rfl
      · have hfree : s.begin.linkFree = true :=
          State.linkFree_iff.2 ⟨Bool.eq_false_iff.2 hline, Option.not_isSome_iff_eq_none.1 hresponse⟩
        rw [event_eq, transfer_of_linkFree hfree, hs.activity, hconfigure] at hexec'
        cases hexec'
        rw [State.finish_config, State.takeConfig_eq] at hnone
        cases hnone

/-- A row of a part that is sound before CONFIGURE leaves it so. -/
theorem unconfiguredOk_exec {c : Instr} {s t : State} (h : s.unconfiguredOk) (hexec : exec c s = .next t) :
    t.unconfiguredOk := by
  by_cases hreset : ∀ m, c ≠ .powerOnReset m
  · rw [State.unconfiguredOk_iff] at h ⊢
    intro hnone
    have hbefore : s.al.config = none := by
      cases hconfig : s.al.config with
      | none => rfl
      | some cfg =>
        rw [(configurationFixedOnceTaken c s t cfg hreset hconfig hexec).1] at hnone
        cases hnone
    by_cases hconfigure : ∀ r, c ≠ .configure r
    · exact staysPoweredOn_exec hreset hconfigure (h hbefore) t hexec
    · push Not at hconfigure
      obtain ⟨r, rfl⟩ := hconfigure
      exact configure_poweredOn (h hbefore) hexec hnone
  · push Not at hreset
    obtain ⟨m, rfl⟩ := hreset
    rw [powerOnReset_state hexec]
    exact fun _ => ⟨rfl, rfl, rfl, rfl, rfl, rfl, rfl⟩

theorem State.positionOk_of_none {s : State} (h : s.atc.position = none) : s.positionOk := by
  intro p hp
  rw [h] at hp
  cases hp

/-- CONFIGURE is refused in a configured part, and leaves the position record alone in any other. -/
theorem retains_configure {s : State} (r : ConfigRecord) (h : s.al.config = none → s.atc.position = none) :
    s.positionOk → (s.configure r).positionOk := by
  intro hpos
  unfold State.configure
  split
  · exact hpos
  · next hconfigured =>
    have hconfig : s.al.config = none := Option.not_isSome_iff_eq_none.1 hconfigured
    split
    · exact hpos
    · exact State.positionOk_of_none (by rw [State.takeConfig_eq]; exact h hconfig)

theorem positionOk_configure {r : ConfigRecord} {s t : State} (h : s.unconfiguredOk) (hpos : s.positionOk)
    (hexec : exec (.configure r) s = .next t) : t.positionOk := by
  have hexec' : event (transfer fun s => s.configure r) s = .next t := hexec
  cases hexec'
  have hbegin : s.begin.activity.positionOk :=
    ((retains_activity s.begin).position (show s.begin.positionOk from hpos))
  have hnone : s.begin.activity.al.config = none → s.begin.activity.atc.position = none := by
    intro hconfig
    rw [(retains_activity s.begin).config] at hconfig
    rw [State.activity_atc]
    exact (State.unconfiguredOk_iff.1 h hconfig).position
  refine (retains_finish _).position ?_
  unfold transfer
  dsimp only
  split
  · exact hbegin
  · split
    · exact hbegin
    · exact retains_configure r hnone hbegin

/-- A row leaves no position older than the zone hold time. -/
theorem positionOk_exec {c : Instr} {s t : State} (h : s.unconfiguredOk) (hpos : s.positionOk)
    (hexec : exec c s = .next t) : t.positionOk := by
  by_cases hreset : ∀ m, c ≠ .powerOnReset m
  · by_cases hconfigure : ∀ r, c ≠ .configure r
    · exact (retains_exec s hreset hconfigure t hexec).position hpos
    · push Not at hconfigure
      obtain ⟨r, rfl⟩ := hconfigure
      exact positionOk_configure h hpos hexec
  · push Not at hreset
    obtain ⟨m, rfl⟩ := hreset
    rw [powerOnReset_state hexec]
    exact State.positionOk_of_none rfl

/-- Time passes only while the staleness timer is not due. -/
theorem positionOk_tick {s : State} (hdue : s.dueTimers = []) : s.tick.positionOk := by
  have hmem : (Instr.positionStale, s.staleDue) ∈ s.timers :=
    List.mem_append_right _ (List.mem_append_right _ (by simp [State.partTimers]))
  have hnot := List.filterMap_eq_nil_iff.1 hdue _ hmem
  rw [State.staleDue_eq] at hnot
  intro p hp
  have hposition : s.atc.position = some p := hp
  rw [hposition] at hnot
  have hlate : ¬ p.written + 60000000 * s.settings.zoneHold ≤ s.now := by
    intro hle
    simp [hle] at hnot
  exact Nat.lt_of_not_le hlate

/-- Settles O24: rows by `unconfiguredOk_exec` and `positionOk_exec`; the clock ticks only where no timer is due. -/
theorem unconfiguredPartHoldsPowerOnState : Obligations.UnconfiguredPartHoldsPowerOnState := by
  unfold Obligations.UnconfiguredPartHoldsPowerOnState
  constructor
  · intro s t hs hstep
    obtain ⟨c, u, hu, hexec⟩ | ⟨-, rfl⟩ := step_cases hstep
    · refine unconfiguredOk_exec ?_ hexec
      rw [hu]
      exact hs
    · exact hs
  · intro s t hs hpos hstep
    obtain ⟨c, u, hu, hexec⟩ | ⟨hdue, rfl⟩ := step_cases hstep
    · refine positionOk_exec ?_ ?_ hexec
      · rw [hu]
        exact hs
      · rw [hu]
        exact hpos
    · exact positionOk_tick hdue

/-! ### Slots and entries -/

/-- CONFIGURE touches neither the table nor the slots. -/
theorem assembled_configure {r : ConfigRecord} {s t : State} (hs : s.Assembled)
    (hexec : exec (.configure r) s = .next t) : t.Assembled := by
  have hexec' : event (transfer fun s => s.configure r) s = .next t := hexec
  cases hexec'
  have hactive : s.begin.activity.Assembled := (retains_activity _).assembly (hs.of_eq rfl rfl)
  refine (retains_finish _).assembly ?_
  unfold transfer
  dsimp only
  split
  · exact hactive
  · split
    · exact hactive.of_eq rfl rfl
    · unfold State.configure
      split
      · exact hactive.of_eq rfl rfl
      · split
        · exact hactive.of_eq rfl rfl
        · rw [State.takeConfig_eq]
          exact hactive.of_eq rfl rfl

/-- A row keeps slots and entries in agreement. -/
theorem assembled_exec {c : Instr} {s t : State} (hs : s.Assembled) (hexec : exec c s = .next t) : t.Assembled := by
  by_cases hreset : ∀ m, c ≠ .powerOnReset m
  · by_cases hconfigure : ∀ r, c ≠ .configure r
    · exact (retains_exec s hreset hconfigure t hexec).assembly hs
    · push Not at hconfigure
      obtain ⟨r, rfl⟩ := hconfigure
      exact assembled_configure hs hexec
  · push Not at hreset
    obtain ⟨m, rfl⟩ := hreset
    obtain ⟨-, -, -, -, htable, -, -, -, hassembly, -⟩ := resetMeetsTheInvariants
    rw [powerOnReset_state hexec]
    exact State.Assembled.of_eq (s := State.reset) ⟨htable, hassembly⟩ rfl rfl

/-- Settles O22: pool and report queue as `Stepped` keeps them, slots and entries by `assembled_exec`. -/
theorem poolAndReportQueueKept : Obligations.PoolAndReportQueueKept := by
  obtain ⟨-, -, -, -, -, -, -, hpool, -, hreports, -⟩ := resetMeetsTheInvariants
  refine ⟨fun s t hs h => ?_, fun s t htable hassembly h => ?_, fun s t hs h => ?_⟩
  · exact step_keeps_of_stepped (fun _ _ _ _ => id) (fun _ _ => id)
      (fun s t m hr => by rw [powerOnReset_state hr]; exact hpool) (fun _ _ _ k => k.pool) hs h
  · obtain ⟨c, u, hu, hexec⟩ | ⟨-, rfl⟩ := step_cases h
    · refine (assembled_exec (s := u) ?_ hexec).slots
      rw [hu]
      exact ⟨htable, hassembly⟩
    · exact hassembly
  · exact step_keeps_of_stepped (fun _ _ _ _ => id) (fun _ _ => id)
      (fun s t m hr => by rw [powerOnReset_state hr]; exact hreports) (fun _ _ _ k => k.reports) hs h

end Sys2Proof.Machine
end

section
/-! The messages of the feed port and the modem's ready line (R165 to R169, R173 to R176). -/

namespace Sys2Proof.Machine

/-! ### An event that is activity of a configured part -/

/-- What is left of a state of rest after activity is at rest again, if nothing became due. -/
theorem settled_afterMessage {s t : State} {cfg : Settings} (h : s.settled = true) (hconfig : s.al.config = some cfg)
    (hpwc : t.pwc = s.begin.activity.pwc) (hslc : t.slc = s.slc)
    (hpart : t.al.participation = s.al.participation) (hreport : t.maySendReport = false) : t.settled = true := by
  refine State.settled_of_keepsPower
    (State.keepsPower_congr hpwc (State.keepsPower_activity (s := s.begin) hconfig)) ?_ hreport
  exact State.noHeadTaken_congr hslc hpart (State.noHeadTaken_of_settled h)

theorem State.maySendReport_of_settled {s : State} (h : s.settled = true) : s.maySendReport = false :=
  (State.settled_iff.1 h).2.1

/-! ### Arrival of a message -/

theorem feedArrival_unconfigured {s : State} (h : s.settled = true) (hconfig : s.al.config = none) (kind length : Byte)
    (body : List Byte) : event (fun s => s.feedArrival kind length body) s = .next s.begin := by
  refine event_rest (if_neg ?_) h
  show ¬ s.al.config.isSome = true
  rw [hconfig]
  nofun

theorem feedArrival_configured {s : State} {cfg : Settings} (hconfig : s.al.config = some cfg) (kind length : Byte)
    (body : List Byte) : s.begin.feedArrival kind length body =
      match readFeed kind length body with
      | none => s.begin.activity.setMalformed
      | some m => s.begin.activity.takeFeed m := by
  refine if_pos ?_
  show s.al.config.isSome = true
  rw [hconfig]
  rfl

/-- A malformed message is activity and sets MALFORMED (R11, R166). -/
theorem feedArrival_malformed {s : State} {cfg : Settings} (h : s.settled = true) (hconfig : s.al.config = some cfg)
    {kind length : Byte} {body : List Byte} (hread : readFeed kind length body = none) :
    event (fun s => s.feedArrival kind length body) s = .next s.begin.activity.setMalformed := by
  refine event_rest ((feedArrival_configured hconfig kind length body).trans (by rw [hread])) ?_
  have hpart : s.begin.activity.al.participation = s.al.participation := congrArg _ s.begin.activity_al
  exact settled_afterActivity h hconfig rfl s.begin.activity_slc hpart s.begin.activity_fp s.begin.activity_tu

theorem readFeed_of_length {kind length : Byte} {body : List Byte} (h : length.toNat ≠ body.length) :
    readFeed kind length body = none := if_pos h

theorem readFeed_of_kind {kind length : Byte} {body : List Byte} (h : kind = 0 ∨ 5 < kind.toNat) :
    readFeed kind length body = none := by
  have hne (k : Byte) (hk : 1 ≤ k.toNat ∧ k.toNat ≤ 5) : kind ≠ k := by
    rintro rfl
    rcases h with rfl | h
    · exact absurd hk.1 (by decide)
    · omega
  unfold readFeed
  rw [if_neg (hne 1 (by decide)), if_neg (hne 2 (by decide)), if_neg (hne 3 (by decide)), if_neg (hne 4 (by decide)),
    if_neg (hne 5 (by decide))]
  split <;> rfl

theorem readFeed_coverage {length : Byte} {body : List Byte} (h : length.toNat = body.length) :
    readFeed 3 length body = readCoverage body := if_neg (not_not.2 h)

theorem readCoverage_bad {body : List Byte} (h : body ≠ [0] ∧ (∀ a b c, body ≠ [1, a, b, c])
    ∨ ∃ a b c, body = [1, a, b, c] ∧ zoneOk (a ++ b ++ c) = false) : readCoverage body = none := by
  rcases h with ⟨hzero, hone⟩ | ⟨a, b, c, rfl, hzone⟩
  · unfold readCoverage
    split
    · exact if_neg fun hstate => hzero (by rw [hstate])
    · exact if_neg fun ⟨hstate, _⟩ => hone _ _ _ (by rw [hstate])
    · rfl
  · unfold readCoverage
    simp [hzone]

theorem readAnswer_bad {body : List Byte} (h : body.length ≠ 4) : readAnswer body = none := by
  unfold readAnswer
  split
  · exact absurd rfl h
  · rfl

theorem readFeed_done {length : Byte} {body : List Byte} (h : length.toNat = body.length) :
    readFeed 4 length body = (readAnswer body).map .reportDone := if_neg (not_not.2 h)

theorem readFeed_refused {length : Byte} {body : List Byte} (h : length.toNat = body.length) :
    readFeed 5 length body = (readAnswer body).map .reportRefused := if_neg (not_not.2 h)

theorem readFeed_page {length : Byte} {body : List Byte} (kind : PageKind) (h : length.toNat = body.length) :
    readFeed (pageKindByte kind) length body = some (.page kind body) := by
  refine (if_neg (not_not.2 h)).trans ?_
  cases kind <;> rfl

theorem joinPage_event {s : State} {cfg : Settings} (h : s.settled = true) (hconfig : s.al.config = some cfg)
    {kind : PageKind} {length : Byte} {body : List Byte} (hlength : length.toNat = body.length) :
    event (fun s => s.feedArrival (pageKindByte kind) length body) s = .next
      (if s.fp.pageFifo.length < 8 then
        { s.begin.activity with fp := { s.fp with pageFifo := s.fp.pageFifo ++ [⟨kind, body⟩] } }
      else s.begin.activity.setRxOverrun) := by
  have hfp : s.begin.activity.fp = s.fp := s.begin.activity_fp
  have hslc : s.begin.activity.slc = s.slc := s.begin.activity_slc
  have htu : s.begin.activity.tu = s.tu := s.begin.activity_tu
  have hpart : s.begin.activity.al.participation = s.al.participation := congrArg _ s.begin.activity_al
  refine event_rest ((feedArrival_configured hconfig ..).trans (by rw [readFeed_page kind hlength])) ?_ |>.trans ?_
  rotate_left
  · show Host.Outcome.next (s.begin.activity.joinPage ⟨kind, body⟩) = _
    unfold State.joinPage
    rw [hfp]
    rfl
  · show (s.begin.activity.joinPage ⟨kind, body⟩).settled = true
    unfold State.joinPage
    split
    · refine settled_afterMessage h hconfig rfl hslc hpart ?_
      rw [← State.maySendReport_of_settled h]
      unfold State.maySendReport State.withFp
      rw [hfp, htu]
    · exact settled_afterActivity h hconfig rfl hslc hpart hfp htu

/-- Settles O42, by the envelope and the body of the message. -/
theorem feedMessageArrivalCompletes : Obligations.FeedMessageArrivalCompletes := by
  intro s kind other length body h hother
  refine ⟨fun hconfig => ?_, fun cfg hconfig => ⟨?_, fun hlength => ?_, fun hbad => ?_, fun hbad => ?_, fun hlength => ?_⟩⟩
  · have hnone (k : Byte) := feedArrival_unconfigured h hconfig k length body
    exact ⟨hnone _, hnone _, hnone _, hnone _, hnone _⟩
  · exact feedArrival_malformed h hconfig (readFeed_of_kind hother)
  · exact feedArrival_malformed h hconfig (readFeed_of_length hlength)
  · refine feedArrival_malformed h hconfig ?_
    by_cases hlength : length.toNat = body.length
    · rw [readFeed_coverage hlength]
      exact readCoverage_bad (hbad.resolve_left (not_not.2 hlength))
    · exact readFeed_of_length hlength
  · by_cases hlength : length.toNat = body.length
    · have hnone := readAnswer_bad (hbad.resolve_left (not_not.2 hlength))
      exact ⟨feedArrival_malformed h hconfig (by rw [readFeed_done hlength, hnone]; rfl),
        feedArrival_malformed h hconfig (by rw [readFeed_refused hlength, hnone]; rfl)⟩
    · exact ⟨feedArrival_malformed h hconfig (readFeed_of_length hlength),
        feedArrival_malformed h hconfig (readFeed_of_length hlength)⟩
  · exact joinPage_event h hconfig hlength

end Sys2Proof.Machine
end

section
/-! Answers to the outstanding report and the modem's ready line (R165, R173 to R176). -/

namespace Sys2Proof.Machine

/-! ### Timed events (log entry 4) -/

/-- A timed event whose timer does not run has no effect. -/
theorem timer_idle {s : State} {due : State → Option Micros} {f : State → State} (h : s.settled = true)
    (hdue : due s.begin = none) : event (fun u => u.onTime (due u) f) s = .next s.begin := by
  refine event_rest ?_ h
  unfold State.onTime
  rw [hdue]

/-- A timed event is carried out at its timer's expiry. -/
theorem timer_fires {s : State} {due : State → Option Micros} {t : Micros} (f : State → State)
    (hdue : due s.begin = some t) (hfresh : s.freshUntil (max s.now t)) :
    event (fun u => u.onTime (due u) f) s = .next (f (s.begin.advance t)).finish := by
  rw [event_eq]
  unfold State.onTime
  rw [hdue]
  dsimp only
  have hadvance : s.begin.advancePast t = s.begin.advance t := State.advancePast_of_freshUntil (s := s.begin) hfresh
  rw [hadvance]

/-- A timed event whose effect is a state of rest. -/
theorem timer_rests {s m : State} {due : State → Option Micros} {t : Micros} {f : State → State}
    (hdue : due s.begin = some t) (hfresh : s.freshUntil (max s.now t)) (heffect : f (s.begin.advance t) = m)
    (hrest : m.settled = true) : event (fun u => u.onTime (due u) f) s = .next m := by
  rw [timer_fires f hdue hfresh, heffect, State.finish_of_settled hrest]

/-- A part at rest with work left keeps its power state, unless its awake hold has run out. -/
theorem State.keepsPower_of_settled {s : State} (h : s.settled = true)
    (hpower : s.pwc.power = .doze ∨ s.pwc.hold ≠ .runOut) (hwork : s.workless = false) : s.keepsPower := by
  obtain ⟨-, -, -, hrest⟩ := State.settled_iff.1 h
  cases hp : s.pwc.power with
  | awake => exact .inl ⟨hp, hpower.resolve_left (by rw [hp]; nofun)⟩
  | doze =>
    refine .inr ⟨hp, ?_⟩
    rcases hrest with hrest | hrest | hrest
    · rw [hp] at hrest
      cases hrest
    · rw [hwork] at hrest
      cases hrest
    · exact hrest

/-! ### Reports at the end of an event -/

/-- After activity of an awake part the awake hold stands where a report sent now would put it. -/
theorem State.reported_afterActivity {s m : State} {cfg : Settings} (hconfig : s.al.config = some cfg)
    (hmconfig : m.al.config = some cfg) (hnow : m.now = s.now) (hpwc : m.pwc = s.begin.activity.pwc)
    (hout : m.out = Outputs.none) (j : Nat) (f : Entry) (rest : List Nat) :
    m.reported j f rest = { m with
      tu := ⟨rest, some ⟨f.id, ⟨j, m.genAt j⟩, tallyCount f.tally, m.now + 10000000⟩⟩
      out := ⟨none, some (reportBytes (tallyCount f.tally) ⟨f.id, f.tally⟩), []⟩ } := by
  have hsettings : m.settings = cfg := by
    unfold State.settings
    rw [hmconfig]
    rfl
  have hhold : (m.reported j f rest).pwc = m.pwc := by
    unfold State.reported
    dsimp only
    rw [hpwc, hsettings, hnow]
    cases hp : s.pwc.power with
    | awake =>
      have hp' : s.begin.pwc.power = .awake := hp
      have hactive : s.begin.activity.pwc = { s.pwc with hold := .running (s.now + 1000000 * cfg.awakeHold) } := by
        rw [State.activity_awake hp' hconfig, seconds_eq]
        rfl
      rw [hactive]
      dsimp only
      rw [hp]
    | doze =>
      have hp' : s.begin.activity.pwc.power = .doze := by
        have hp'' : s.begin.pwc.power = .doze := hp
        cases hw : s.begin.pwc.warmUp with
        | none => rw [State.activity_doze hp'' hw]; exact hp''
        | some w => rw [State.activity_warming hp'' (by rw [hw]; nofun)]; exact hp''
      rw [hp']
  calc m.reported j f rest
      = { m with
          pwc := (m.reported j f rest).pwc
          tu := ⟨rest, some ⟨f.id, ⟨j, m.genAt j⟩, tallyCount f.tally, m.now + 10000000⟩⟩
          out := { m.out with feed := some (reportBytes (tallyCount f.tally) ⟨f.id, f.tally⟩) } } := rfl
    _ = _ := by rw [hhold, hout]; rfl

/-- Reports at the end of an event that is activity of a part at rest. -/
theorem endsWithReports_finish {s m : State} {cfg : Settings} (h : s.settled = true) (hconfig : s.al.config = some cfg)
    (hmconfig : m.al.config = some cfg) (hnow : m.now = s.now) (hpwc : m.pwc = s.begin.activity.pwc)
    (hout : m.out = Outputs.none) (hslc : m.slc = s.slc) (hpart : m.al.participation = s.al.participation)
    (queue : List Nat) : m.EndsWithReports queue (.next (State.finish { m with tu := ⟨queue, none⟩ })) := by
  have hk : m.keepsPower := State.keepsPower_congr hpwc (State.keepsPower_activity (s := s.begin) hconfig)
  rw [State.finish_eq_sendReport (m := { m with tu := ⟨queue, none⟩ }) h hk hslc hpart]
  refine ⟨fun hclosed => ?_, fun j f rest hqueue hentry hcoverage hblocked hready => ?_⟩
  · rw [State.sendReport_of_closed]
    rcases hclosed with hc | hc | hc | hc
    · exact .inl hc
    · exact .inr (.inl hc)
    · exact .inr (.inr (.inl hc))
    · exact .inr (.inr (.inr (.inl hc)))
  · have hconfigured : State.configured { m with tu := ⟨queue, none⟩ } = true := by
      show m.al.config.isSome = true
      rw [hmconfig]
      rfl
    rw [State.sendReport_of_open hconfigured hqueue hentry hcoverage hblocked hready rfl,
      State.reported_afterActivity (m := { m with tu := ⟨queue, none⟩ }) hconfig hmconfig hnow hpwc hout]
    rfl

/-! ### Answers (R173 to R175) -/

theorem readFeed_done_four (a b c d : Byte) : readFeed 4 4 [a, b, c, d] = some (.reportDone ⟨a ++ b, c ++ d⟩) := rfl

theorem readFeed_refused_four (a b c d : Byte) :
    readFeed 5 4 [a, b, c, d] = some (.reportRefused ⟨a ++ b, c ++ d⟩) := rfl

theorem State.answerReport_none {s : State} {id : Identity} (f : State → Outstanding → State)
    (h : ∀ o, s.tu.outstanding = some o → o.id ≠ id) : s.answerReport id f = s := by
  unfold State.answerReport
  split
  · next o ho => exact if_neg (h o ho)
  · rfl

theorem State.answerReport_some {s : State} {o : Outstanding} (f : State → Outstanding → State)
    (h : s.tu.outstanding = some o) : s.answerReport o.id f = f s o := by
  unfold State.answerReport
  rw [h]
  exact if_pos rfl

theorem State.handleOk_iff {s : State} {h : Handle} :
    s.handleOk h = true ↔ (s.entryAt h.slot).isSome = true ∧ s.genAt h.slot = h.gen := by
  simp [State.handleOk]

theorem State.reportDone_gone {s : State} {o : Outstanding} (h : s.handleOk o.handle = false) :
    s.reportDone o = { s with tu := ⟨s.tu.reportQueue, none⟩ } := by
  unfold State.reportDone State.creditedSlot
  dsimp only
  rw [if_neg]
  · rfl
  · show ¬ s.handleOk o.handle = true
    rw [h]
    nofun

/-- The count that was reported is credited, and the entry tested anew (R171, R173). -/
theorem State.reportDone_credited {s : State} {o : Outstanding} {e : Entry} (he : s.entryAt o.handle.slot = some e)
    (hgen : s.genAt o.handle.slot = o.handle.gen) :
    s.reportDone o = { s.modifyEntry o.handle.slot fun e => { e with lastReported := o.count } with
      tu := ⟨if (s.settings.reportStep + o.count ≤ tallyCount e.tally
            ∨ (e.state.name = .cancelled ∨ e.state.name = .expired) ∧ o.count < tallyCount e.tally)
          ∧ o.handle.slot ∉ s.tu.reportQueue then
        s.tu.reportQueue ++ [o.handle.slot]
      else s.tu.reportQueue, none⟩ } := by
  have hok : s.handleOk o.handle = true := State.handleOk_iff.2 ⟨by rw [he]; rfl, hgen⟩
  unfold State.reportDone State.creditedSlot
  dsimp only
  rw [if_pos (show State.handleOk (s.withTu { s.tu with outstanding := none }) o.handle = true from hok)]
  dsimp only
  have he' : (s.withTu { s.tu with outstanding := none }).entryAt o.handle.slot = some e := he
  rw [State.testReportDue_modifyEntry he']
  unfold State.reportJoins
  simp only [State.withTu_tu, Option.mem_def, reduceCtorEq, false_implies, implies_true, and_true]
  rfl

/-- An answer that is not REPORT_DONE: the entry returns to the head of the queue, and the uplink is blocked. -/
theorem State.reportRefused_eq (s : State) (o : Outstanding) :
    s.reportRefused o = { s with
      fp := { s.fp with blocked := true }
      tu := ⟨if s.handleOk o.handle then o.handle.slot :: s.tu.reportQueue.filter (· ≠ o.handle.slot)
        else s.tu.reportQueue, none⟩ } := by
  have hfilter : (s.tu.reportQueue.filter fun x => x != o.handle.slot) =
      s.tu.reportQueue.filter fun x => decide (x ≠ o.handle.slot) := by
    congr 1
    funext x
    by_cases hx : x = o.handle.slot <;> simp [hx]
  unfold State.reportRefused State.creditedSlot
  dsimp only
  by_cases hok : s.handleOk o.handle = true
  · rw [if_pos (show State.handleOk (s.withFp { s.fp with blocked := true }) o.handle = true from hok), if_pos hok, ← hfilter]
    rfl
  · rw [if_neg (show ¬ State.handleOk (s.withFp { s.fp with blocked := true }) o.handle = true from hok), if_neg hok]
    rfl

/-- The event of a sound feed message. -/
theorem feedArrival_event {s : State} {cfg : Settings} (hconfig : s.al.config = some cfg) {kind length : Byte}
    {body : List Byte} {m : FeedMessage} (hread : readFeed kind length body = some m) :
    event (fun s => s.feedArrival kind length body) s = .next (s.begin.activity.takeFeed m).finish := by
  rw [event_eq, feedArrival_configured hconfig, hread]

theorem State.answerDue_eq (s : State) : s.answerDue = s.tu.outstanding.map Outstanding.expiry := rfl

/-- An answer that nothing waits for is activity only. -/
theorem answer_ignored {s : State} {cfg : Settings} (h : s.settled = true) (hconfig : s.al.config = some cfg)
    {kind length : Byte} {body : List Byte} {m : FeedMessage} (hread : readFeed kind length body = some m)
    (hnone : s.begin.activity.takeFeed m = s.begin.activity) :
    event (fun s => s.feedArrival kind length body) s = .next s.begin.activity := by
  rw [feedArrival_event hconfig hread, hnone, State.finish_of_settled]
  exact State.settled_activity (s.settled_begin.trans h)

/-- A refusal that was recorded leaves nothing to send. -/
theorem State.finish_reportRefused {s m : State} (h : s.settled = true) (hk : m.keepsPower) (hslc : m.slc = s.slc)
    (hpart : m.al.participation = s.al.participation) (hblocked : m.fp.blocked = true) : m.finish = m := by
  rw [State.finish_eq_sendReport h hk hslc hpart, State.sendReport_of_closed (.inr (.inr (.inl hblocked)))]

/-- REPORT_DONE for the outstanding identity ends the report. -/
theorem reportDone_event {s : State} {cfg : Settings} {a b c d : Byte} {o : Outstanding} (hconfig : s.al.config = some cfg)
    (ho : s.tu.outstanding = some o) (hid : o.id = ⟨a ++ b, c ++ d⟩) :
    exec (.reportDone 4 [a, b, c, d]) s = .next (s.begin.activity.reportDone o).finish := by
  show execReportDone 4 _ s = _
  unfold execReportDone
  rw [feedArrival_event hconfig (readFeed_done_four a b c d)]
  show Host.Outcome.next (s.begin.activity.answerReport ⟨a ++ b, c ++ d⟩ State.reportDone).finish = _
  rw [← hid, State.answerReport_some _ (by rw [State.activity_tu]; exact ho)]

/-- REPORT_REFUSED for the outstanding identity ends the report. -/
theorem reportRefused_event {s : State} {cfg : Settings} {a b c d : Byte} {o : Outstanding}
    (hconfig : s.al.config = some cfg) (ho : s.tu.outstanding = some o) (hid : o.id = ⟨a ++ b, c ++ d⟩) :
    exec (.reportRefused 4 [a, b, c, d]) s = .next (s.begin.activity.reportRefused o).finish := by
  show execReportRefused 4 _ s = _
  unfold execReportRefused
  rw [feedArrival_event hconfig (readFeed_refused_four a b c d)]
  show Host.Outcome.next (s.begin.activity.answerReport ⟨a ++ b, c ++ d⟩ State.reportRefused).finish = _
  rw [← hid, State.answerReport_some _ (by rw [State.activity_tu]; exact ho)]

/-- Settles O44: an answer ends the outstanding report, and R172 follows. -/
theorem reportAnswersComplete : Obligations.ReportAnswersComplete := by
  intro s cfg a b c d h hconfig
  have hactive : s.begin.activity.keepsPower := State.keepsPower_activity (s := s.begin) hconfig
  have htu : s.begin.activity.tu = s.tu := s.begin.activity_tu
  have hfp : s.begin.activity.fp = s.fp := s.begin.activity_fp
  have hal : s.begin.activity.al = s.al := s.begin.activity_al
  have hslc : s.begin.activity.slc = s.slc := s.begin.activity_slc
  have hnow : s.begin.activity.now = s.now := s.begin.activity_now
  have hout : s.begin.activity.out = Outputs.none := s.begin.activity_out
  have hsettings : s.begin.activity.settings = cfg := by
    unfold State.settings
    rw [hal, hconfig]
    rfl
  have hreports (m : State) (hm : m.al = s.begin.activity.al) (hn : m.now = s.begin.activity.now)
      (hp : m.pwc = s.begin.activity.pwc) (ho : m.out = s.begin.activity.out) (hx : m.slc = s.begin.activity.slc)
      (queue : List Nat) : m.EndsWithReports queue (.next (State.finish { m with tu := ⟨queue, none⟩ })) :=
    have hmal : m.al = s.al := hm.trans hal
    endsWithReports_finish h hconfig (by rw [hmal]; exact hconfig) (hn.trans hnow) hp (ho.trans hout) (hx.trans hslc)
      (by rw [hmal]) queue
  refine ⟨fun hnone => ⟨?_, ?_⟩, fun hnone => ?_, fun o ho => ⟨fun hid => ⟨fun hgone => ?_, fun e he hgen => ?_, ?_⟩,
    fun hpower hfresh => ?_⟩⟩
  · refine answer_ignored h hconfig (readFeed_done_four a b c d) ?_
    exact State.answerReport_none _ fun o ho => hnone o (by rw [← htu]; exact ho)
  · refine answer_ignored h hconfig (readFeed_refused_four a b c d) ?_
    exact State.answerReport_none _ fun o ho => hnone o (by rw [← htu]; exact ho)
  · exact timer_idle (due := State.answerDue) h (by rw [State.answerDue_eq]; show s.tu.outstanding.map _ = _; rw [hnone]; rfl)
  · have hstale : s.begin.activity.handleOk o.handle = false := by
      rw [Bool.eq_false_iff, Ne, State.handleOk_iff, s.begin_activity_entryAt, s.begin_activity_genAt]
      rintro ⟨hsome, hgen⟩
      rcases hgone with hgone | hgone
      · rw [hgone] at hsome
        cases hsome
      · exact hgone hgen
    rw [reportDone_event hconfig ho hid, State.reportDone_gone hstale, htu]
    exact hreports _ rfl rfl rfl rfl rfl _
  · rw [reportDone_event hconfig ho hid, State.reportDone_credited ((s.begin_activity_entryAt _).trans he) ((s.begin_activity_genAt _).trans hgen),
      htu, hsettings]
    exact hreports (s.begin.activity.modifyEntry o.handle.slot fun e => { e with lastReported := o.count })
      rfl rfl rfl rfl rfl _
  · rw [reportRefused_event hconfig ho hid, State.reportRefused_eq, htu, hfp]
    have hok : s.begin.activity.handleOk o.handle = s.handleOk o.handle := by
      unfold State.handleOk
      rw [s.begin_activity_entryAt, s.begin_activity_genAt]
    have hpart : s.begin.activity.al.participation = s.al.participation := congrArg _ hal
    rw [hok]
    refine congrArg Host.Outcome.next (State.finish_reportRefused h ?_ ?_ ?_ rfl)
    · exact hactive
    · exact hslc
    · exact hpart
  · have hwork : s.workless = false := by
      unfold State.workless
      rw [ho]
      simp
    have hk : s.keepsPower := State.keepsPower_of_settled h hpower hwork
    have hdue : State.answerDue s.begin = some o.expiry := by
      show s.tu.outstanding.map _ = _
      rw [ho]
      rfl
    refine timer_rests (due := State.answerDue) hdue hfresh ?_ ?_
    · have hadvanced : (s.begin.advance o.expiry).tu.outstanding = some o := ho
      rw [hadvanced]
      exact State.reportRefused_eq _ o
    · refine State.settled_of_keepsPower hk (State.noHeadTaken_congr (s := s) rfl rfl (State.noHeadTaken_of_settled h)) ?_
      simp [State.maySendReport]

/-! ### The ready line (R165, R176) -/

/-- The feed port changed where no report can go. -/
theorem State.settled_withModem {s : State} (h : s.settled = true) (ready : Bool)
    (hclosed : ready = false ∨ s.tu.reportQueue = []) :
    State.settled { s with fp := { s.fp with modemReady := ready } } = true := by
  obtain ⟨hhead, -, hdoze, hpower⟩ := State.settled_iff.1 h
  refine State.settled_iff.2 ⟨hhead, ?_, hdoze, hpower⟩
  rw [Bool.eq_false_iff, Ne, State.maySendReport_iff]
  rintro ⟨hqueue, -, -, hready, -⟩
  rcases hclosed with hc | hc
  · rw [hc] at hready
    cases hready
  · exact hqueue hc

theorem State.setCoverage_eq (s : State) (c : Bool) :
    s.setCoverage c = { s with
      fp := { s.fp with coverage := c }
      al := if s.fp.coverage = c then s.al else s.al.queued .coverageChanged } := by
  unfold State.setCoverage
  split
  · next hc =>
    subst hc
    rfl
  · rw [State.queueNotice_eq]
    rfl

/-- The modem is lost (R176): page FIFO emptied, an outstanding report refused, coverage ABSENT. -/
theorem State.loseModem_eq (s : State) :
    s.loseModem = { s with
      fp := ⟨[], false, false, s.fp.blocked || s.tu.outstanding.isSome⟩
      tu := ⟨match s.tu.outstanding with
        | some o =>
          if s.handleOk o.handle then o.handle.slot :: s.tu.reportQueue.filter (· ≠ o.handle.slot)
          else s.tu.reportQueue
        | none => s.tu.reportQueue, none⟩
      al := if s.fp.coverage then s.al.queued .coverageChanged else s.al } := by
  unfold State.loseModem
  dsimp only
  have hal : (if s.fp.coverage = false then s.al else s.al.queued .coverageChanged) =
      if s.fp.coverage then s.al.queued .coverageChanged else s.al := by
    cases s.fp.coverage <;> rfl
  rw [← hal]
  cases ho : s.tu.outstanding with
  | none =>
    have hnone : (s.withFp { s.fp with modemReady := false, pageFifo := [] }).tu.outstanding = none := ho
    rw [hnone]
    dsimp only
    rw [State.setCoverage_eq]
    have htu : s.tu = ⟨s.tu.reportQueue, none⟩ := by rw [← ho]
    rw [Option.isSome_none, Bool.or_false, ← htu]
    rfl
  | some o =>
    have hsome : (s.withFp { s.fp with modemReady := false, pageFifo := [] }).tu.outstanding = some o := ho
    rw [hsome]
    dsimp only
    rw [State.reportRefused_eq, State.setCoverage_eq, Option.isSome_some, Bool.or_true]
    rfl

theorem State.configured_of_config {s : State} {cfg : Settings} (h : s.al.config = some cfg) : s.configured = true := by
  rw [State.configured, h]
  rfl

theorem State.configured_of_none {s : State} (h : s.al.config = none) : ¬ s.configured = true := by
  rw [State.configured, h]
  nofun

/-- A rise of the line while no report can go. -/
theorem modemReadyRise_rests {s : State} {cfg : Settings} (h : s.settled = true) (hconfig : s.al.config = some cfg)
    (hclosed : s.tu.reportQueue = [] ∨ s.fp.coverage = false ∨ s.fp.blocked = true ∨ s.tu.outstanding.isSome = true) :
    exec .modemReadyRise s = .next { s.begin.activity with fp := { s.fp with modemReady := true } } := by
  have htu : s.begin.activity.tu = s.tu := s.begin.activity_tu
  have hpart : s.begin.activity.al.participation = s.al.participation := congrArg _ s.begin.activity_al
  show execModemReadyRise s = _
  refine event_rest ?_ ?_
  · dsimp only
    rw [if_pos (State.configured_of_config (s := s.begin) hconfig)]
    rfl
  · refine settled_afterMessage h hconfig rfl s.begin.activity_slc hpart ?_
    rw [Bool.eq_false_iff, Ne, State.maySendReport_iff]
    dsimp only
    rw [htu]
    rintro ⟨hqueue, hcoverage, hblocked, -, hnone⟩
    rcases hclosed with hc | hc | hc | hc
    · exact hqueue hc
    · rw [hc] at hcoverage
      cases hcoverage
    · rw [hc] at hblocked
      cases hblocked
    · rw [hnone] at hc
      cases hc

/-- A drop of the line leaves the uplink closed, so nothing follows. -/
theorem modemReadyDrop_rests {s : State} {cfg : Settings} (h : s.settled = true) (hconfig : s.al.config = some cfg) :
    exec .modemReadyDrop s = .next s.begin.activity.loseModem := by
  show execModemReadyDrop s = _
  refine event_rest (if_pos (State.configured_of_config (s := s.begin) hconfig)) ?_
  have hpart : s.begin.activity.loseModem.al.participation = s.al.participation := by
    rw [State.loseModem_eq, s.begin.activity_al]
    dsimp only
    split <;> rfl
  rw [State.loseModem_eq] at hpart ⊢
  exact settled_afterMessage h hconfig rfl s.begin.activity_slc hpart (by simp [State.maySendReport])

/-- Settles O45: before CONFIGURE the line is recorded only; a drop leaves the uplink closed. -/
theorem modemReadyLineCompletes : Obligations.ModemReadyLineCompletes := by
  intro s h
  refine ⟨fun hconfig => ⟨?_, fun hqueue => ?_⟩, fun cfg hconfig => ⟨modemReadyRise_rests h hconfig,
    _, modemReadyDrop_rests h hconfig, ?_⟩⟩
  · show execModemReadyDrop s = _
    exact event_rest (if_neg (State.configured_of_none (s := s.begin) hconfig))
      (State.settled_withModem (s := s.begin) h false (.inl rfl))
  · show execModemReadyRise s = _
    refine event_rest (t := { s.begin with fp := { s.fp with modemReady := true } }) ?_
      (State.settled_withModem (s := s.begin) h true (.inr hqueue))
    dsimp only
    rw [if_neg (State.configured_of_none (s := s.begin) hconfig)]
    rfl
  · have hok (h : Handle) : s.begin.activity.handleOk h = s.handleOk h := by
      unfold State.handleOk
      rw [s.begin_activity_entryAt, s.begin_activity_genAt]
    rw [State.loseModem_eq]
    dsimp only
    simp only [hok, State.activity_fp, State.activity_tu, State.activity_al, State.activity_atc, State.activity_sa,
      State.activity_slc, s.begin_activity_pwc]
    exact ⟨rfl, trivial, rfl, rfl, rfl, rfl, rfl, trivial⟩

end Sys2Proof.Machine
end

section
/-! COVERAGE messages and the serving zone (R71, R169). -/

namespace Sys2Proof.Machine

/-! ### What a position change is, and what it leaves alone -/

/-- A written position is the position change of the statements (R72). -/
theorem State.positionChange_changePosition (s : State) (p : Option Position) :
    s.PositionChange (s.changePosition p) p := by
  have hqualifies : (s.changePosition p).qualifies = s.qualifies :=
    State.qualifies_congr (s.changePosition_map p) (s.changePosition_optIn p)
  have hreevaluated : (s.changePosition p).reevaluated = s.reevaluated :=
    State.reevaluated_congr (s.changePosition_map p) (s.changePosition_optIn p)
  refine ⟨s.changePosition_position p, s.changePosition_optIn p, fun i => ?_, fun i => s.changePosition_genAt p i, ?_,
    s.changePosition_map p, s.changePosition_sa p, s.changePosition_slc p, s.changePosition_fp p,
    s.changePosition_tu p, s.changePosition_pending p⟩
  · rw [State.changePosition_entryAt, hreevaluated]
    rfl
  · rw [hqualifies, State.changePosition_eq]
    dsimp only
    unfold State.movedNotices
    rw [Al.foldl_queued]

/-- What position changes leave as it was. -/
structure PositionOnly (s t : State) : Prop where
  now : t.now = s.now
  out : t.out = s.out
  slc : t.slc = s.slc
  pwc : t.pwc = s.pwc
  fp : t.fp = s.fp
  tu : t.tu = s.tu
  config : t.al.config = s.al.config
  participation : t.al.participation = s.al.participation
  genAt : ∀ i, t.genAt i = s.genAt i
  entryAt : ∀ i, (t.entryAt i).map (fun e => (e.id, e.tally)) = (s.entryAt i).map fun e => (e.id, e.tally)

namespace PositionOnly

theorem refl (s : State) : PositionOnly s s :=
  ⟨rfl, rfl, rfl, rfl, rfl, rfl, rfl, rfl, fun _ => rfl, fun _ => rfl⟩

theorem trans {s t u : State} (h : PositionOnly s t) (k : PositionOnly t u) : PositionOnly s u :=
  ⟨k.now.trans h.now, k.out.trans h.out, k.slc.trans h.slc, k.pwc.trans h.pwc, k.fp.trans h.fp, k.tu.trans h.tu,
    k.config.trans h.config, k.participation.trans h.participation, fun i => (k.genAt i).trans (h.genAt i),
    fun i => (k.entryAt i).trans (h.entryAt i)⟩

theorem changePosition (s : State) (p : Option Position) : PositionOnly s (s.changePosition p) := by
  have hal : (s.changePosition p).al.participation = s.al.participation := by
    rw [State.changePosition_eq, Al.foldl_queued]
  refine ⟨s.changePosition_now p, s.changePosition_out p, s.changePosition_slc p, s.changePosition_pwc p,
    s.changePosition_fp p, s.changePosition_tu p, s.changePosition_config p, hal, s.changePosition_genAt p, fun i => ?_⟩
  rw [State.changePosition_entryAt, Option.map_map]
  congr 1
  funext e
  simp only [Function.comp_apply, State.moved, State.reevaluated]
  split <;> rfl

theorem dropStale (s : State) : PositionOnly s s.dropStale := by
  rcases s.dropStale_cases with ⟨-, h⟩ | ⟨-, h⟩ <;> rw [h]
  · exact .refl s
  · exact .changePosition s none

theorem applyServingZone (s : State) (zone : ZoneCode) : PositionOnly s (s.applyServingZone zone) := by
  have hdrop : PositionOnly s s.dropStaleApplication := by
    unfold State.dropStaleApplication
    split
    · exact .dropStale s
    · exact .refl s
  unfold State.applyServingZone
  dsimp only
  split
  · split
    · exact hdrop.trans (.changePosition _ _)
    · exact hdrop
  · exact hdrop.trans (.changePosition _ _)

theorem some_left {s t : State} (h : PositionOnly s t) {i : Nat} {e : Entry} (he : s.entryAt i = some e) :
    ∃ e', t.entryAt i = some e' ∧ e'.id = e.id ∧ e'.tally = e.tally := by
  have hi := h.entryAt i
  rw [he, Option.map_some] at hi
  obtain ⟨e', he', heq⟩ := Option.map_eq_some_iff.1 hi
  simp only [Prod.mk.injEq] at heq
  exact ⟨e', he', heq⟩

end PositionOnly

/-! ### The serving zone (R71) -/

/-- An APPLICATION position that is not stale stays unless the serving zone is finer. -/
theorem State.applyServingZone_application {s : State} {held : ZoneCode} {written : Micros} {zone : ZoneCode}
    (hp : s.atc.position = some ⟨held, .application, written⟩) (hfresh : s.freshAt s.now) :
    s.applyServingZone zone =
      if (zoneLevel held).rank < (zoneLevel zone).rank then s.changePosition (some ⟨zone, .feed, s.now⟩) else s := by
  unfold State.applyServingZone State.dropStaleApplication
  rw [hp]
  dsimp only
  rw [State.dropStale_of_freshAt hfresh, hp]

/-- Any other record is replaced. -/
theorem State.applyServingZone_replaces {s : State} (hp : ∀ p, s.atc.position = some p → p.source ≠ .application)
    (zone : ZoneCode) : s.applyServingZone zone = s.changePosition (some ⟨zone, .feed, s.now⟩) := by
  unfold State.applyServingZone State.dropStaleApplication
  cases hposition : s.atc.position with
  | none =>
    dsimp only
    rw [hposition]
  | some p =>
    obtain ⟨held, source, written⟩ := p
    cases source with
    | application => exact absurd rfl (hp _ hposition)
    | feed =>
      dsimp only
      rw [hposition]

/-! ### COVERAGE -/

theorem readFeed_absent : readFeed 3 1 [0] = some .coverageAbsent := rfl

theorem readFeed_present {a b c : Byte} (h : zoneOk (a ++ b ++ c) = true) :
    readFeed 3 4 [1, a, b, c] = some (.coveragePresent (a ++ b ++ c)) :=
  if_pos (c := (1 : Byte) = 1 ∧ zoneOk (a ++ b ++ c) = true) ⟨rfl, h⟩

/-- The part after a COVERAGE PRESENT, before its serving zone is applied. -/
def State.covered (s : State) : State :=
  let m : State := { s.begin.activity with fp := { s.fp with coverage := true, blocked := false } }
  if s.fp.coverage then m else m.queueNotice .coverageChanged

theorem State.covered_eq (s : State) :
    s.covered = { s.begin.activity with
      fp := { s.fp with coverage := true, blocked := false }
      al := if s.fp.coverage then s.al else s.al.queued .coverageChanged } := by
  have hal : s.begin.activity.al = s.al := s.begin.activity_al
  unfold State.covered
  dsimp only
  cases s.fp.coverage
  · simp only [Bool.false_eq_true, if_false]
    rw [State.queueNotice_eq, hal]
  · simp only [if_true]
    rw [← hal]

theorem State.coveragePresent_activity (s : State) (zone : ZoneCode) :
    s.begin.activity.coveragePresent zone = s.covered.applyServingZone zone := by
  unfold State.coveragePresent
  dsimp only
  congr 1
  rw [State.setCoverage_eq, State.covered_eq]
  simp only [State.activity_fp, State.activity_al, State.withFp, State.begin_fp, State.begin_al]

theorem coveragePresent_event {s : State} {cfg : Settings} (hconfig : s.al.config = some cfg) {a b c : Byte}
    (hzone : zoneOk (a ++ b ++ c) = true) :
    exec (.coverage 4 [1, a, b, c]) s = .next (s.covered.applyServingZone (a ++ b ++ c)).finish := by
  show execCoverage 4 _ s = _
  unfold execCoverage
  rw [feedArrival_event hconfig (readFeed_present hzone)]
  exact congrArg (Host.Outcome.next ·.finish) (s.coveragePresent_activity _)

theorem State.covered_participation (s : State) : s.covered.al.participation = s.al.participation := by
  rw [State.covered_eq]
  dsimp only
  split <;> rfl

theorem State.covered_config (s : State) : s.covered.al.config = s.al.config := by
  rw [State.covered_eq]
  dsimp only
  split <;> rfl

theorem State.covered_response (s : State) : s.covered.al.response = s.al.response := by
  rw [State.covered_eq]
  dsimp only
  split <;> rfl

/-- Whatever position change follows, the event ends with R172. -/
theorem State.finish_covered {s t : State} {cfg : Settings} (h : s.settled = true) (hconfig : s.al.config = some cfg)
    (ht : PositionOnly s.covered t) : t.finish = t.sendReport := by
  refine State.finish_eq_sendReport h (State.keepsPower_congr ht.pwc ?_) (ht.slc.trans ?_)
    (ht.participation.trans s.covered_participation)
  · rw [State.covered_eq]
    exact State.keepsPower_activity (s := s.begin) hconfig
  · rw [State.covered_eq]
    exact s.begin.activity_slc

theorem State.covered_tu (s : State) : s.covered.tu = s.tu := by
  rw [State.covered_eq]
  exact s.begin.activity_tu

/-- A position change ends the event where no report waits. -/
theorem coveragePresent_moves {s : State} {cfg : Settings} (h : s.settled = true) (hconfig : s.al.config = some cfg)
    {a b c : Byte} (hzone : zoneOk (a ++ b ++ c) = true) (hqueue : s.tu.reportQueue = []) {p : Option Position}
    (happly : s.covered.applyServingZone (a ++ b ++ c) = s.covered.changePosition p) :
    ∃ t, exec (.coverage 4 [1, a, b, c]) s = .next t ∧ s.covered.PositionChange t p
      ∧ t.al.response = s.al.response ∧ t.pwc = s.activity.pwc := by
  refine ⟨s.covered.changePosition p, ?_, s.covered.positionChange_changePosition p, ?_, ?_⟩
  · rw [coveragePresent_event hconfig hzone, happly, State.finish_covered h hconfig (.changePosition _ p),
      State.sendReport_of_closed]
    rw [State.changePosition_tu, State.covered_tu]
    exact .inl hqueue
  · rw [State.changePosition_eq, Al.foldl_queued]
    exact s.covered_response
  · rw [State.changePosition_pwc, State.covered_eq]
    exact s.begin_activity_pwc

/-- Settles O43, by the kind of message and the position record it finds. -/
theorem coverageMessageCompletes : Obligations.CoverageMessageCompletes := by
  intro s cfg h hconfig
  have hfp : s.begin.activity.fp = s.fp := s.begin.activity_fp
  have hslc : s.begin.activity.slc = s.slc := s.begin.activity_slc
  have htu : s.begin.activity.tu = s.tu := s.begin.activity_tu
  have hal : s.begin.activity.al = s.al := s.begin.activity_al
  refine ⟨fun hcoverage => ?_, fun hcoverage => ?_, fun a b c hzone => ⟨fun hqueue hfresh => ?_,
    fun i e rest hqueue he hready hnone => ?_⟩⟩
  · refine answer_ignored h hconfig readFeed_absent (if_pos ?_)
    rw [hfp]
    exact hcoverage
  · show execCoverage 1 [0] s = _
    unfold execCoverage
    rw [feedArrival_event hconfig readFeed_absent]
    show Host.Outcome.next (s.begin.activity.setCoverage false).finish = _
    rw [State.setCoverage_eq, State.queueNotice_eq, hfp, hcoverage, State.finish_of_settled]
    · rfl
    · refine settled_afterMessage h hconfig rfl hslc ?_ (by simp [State.maySendReport])
      show s.begin.activity.al.participation = s.al.participation
      rw [hal]
  · have hposition : s.covered.atc.position = s.atc.position := by
      rw [State.covered_eq]
      exact congrArg Atc.position s.begin.activity_atc
    have hnow : s.covered.now = s.now := by
      rw [State.covered_eq]
      exact s.begin.activity_now
    have hcovered : (let m : State := { s.begin.activity with fp := { s.fp with coverage := true, blocked := false } }
        if s.fp.coverage then m else m.queueNotice .coverageChanged) = s.covered := rfl
    simp only [hcovered]
    have hreplaces (hp : ∀ p, s.atc.position = some p → p.source ≠ .application) :=
      coveragePresent_moves h hconfig hzone hqueue (p := some ⟨a ++ b ++ c, .feed, s.now⟩)
        (hnow ▸ State.applyServingZone_replaces (fun p hp' => hp p (hposition ▸ hp')) _)
    split
    · next held written hp =>
      have hstays := State.applyServingZone_application (zone := a ++ b ++ c) (hposition.trans hp) fun q hq => by
        rw [hnow]
        have hqs : s.atc.position = some q := hposition ▸ hq
        rw [hp] at hqs
        cases hqs
        have hsettings : s.covered.settings = cfg := by
          unfold State.settings
          rw [s.covered_config, hconfig]
          rfl
        rw [hsettings]
        exact hfresh _ hp rfl
      rw [hnow] at hstays
      split
      · next hfiner =>
        rw [if_pos hfiner] at hstays
        exact coveragePresent_moves h hconfig hzone hqueue hstays
      · next hcoarser =>
        rw [if_neg hcoarser] at hstays
        rw [coveragePresent_event hconfig hzone, hstays, State.finish_covered h hconfig (.refl _),
          State.sendReport_of_closed (.inl (by rw [State.covered_tu]; exact hqueue))]
    · next hother =>
      refine hreplaces fun p hp hsource => ?_
      obtain ⟨held, source, written⟩ := p
      cases hsource
      exact hother held written hp
  · have honly := PositionOnly.applyServingZone s.covered (a ++ b ++ c)
    have he' : s.covered.entryAt i = some e := by
      rw [State.covered_eq]
      exact (s.begin_activity_entryAt i).trans he
    have hgen : s.covered.genAt i = s.genAt i := by
      rw [State.covered_eq]
      exact s.begin_activity_genAt i
    have hcoveredFp : s.covered.fp = { s.fp with coverage := true, blocked := false } := by rw [State.covered_eq]
    have hnow : s.covered.now = s.now := by
      rw [State.covered_eq]
      exact s.begin.activity_now
    obtain ⟨f, hf, hid, htally⟩ := honly.some_left he'
    refine ⟨_, coveragePresent_event hconfig hzone, ?_⟩
    rw [State.finish_covered h hconfig honly]
    generalize hu : s.covered.applyServingZone (a ++ b ++ c) = u at *
    have hopen : u.sendReport = u.reported i f rest := by
      refine State.sendReport_of_open ?_ ?_ hf ?_ ?_ ?_ ?_
      · exact State.configured_of_config ((honly.config.trans s.covered_config).trans hconfig)
      · rw [honly.tu, State.covered_tu]
        exact hqueue
      · rw [honly.fp, hcoveredFp]
      · rw [honly.fp, hcoveredFp]
      · rw [honly.fp, hcoveredFp]
        exact hready
      · rw [honly.tu, State.covered_tu]
        exact hnone
    rw [hopen]
    refine ⟨rfl, ?_, ?_, honly.fp.trans hcoveredFp⟩
    · show some (⟨f.id, ⟨i, u.genAt i⟩, tallyCount f.tally, u.now + 10000000⟩ : Outstanding) = _
      rw [hid, htally, honly.genAt, hgen, honly.now, hnow]
    · show some (reportBytes (tallyCount f.tally) ⟨f.id, f.tally⟩) = _
      rw [hid, htally]

end Sys2Proof.Machine
end

section
/-! Frames, syncs and the awake hold run out (R103, R104, R112 to R114): what a part at rest keeps when the medium
changes. -/

namespace Sys2Proof.Machine

/-! ### What R90, R172, R113 and R117 look at -/

/-- `t` gives R90 and R172 no more to do than `s`: queue, current job, stage, feed port and reports stay, and the SLC
measures only where it did. -/
structure HeadKept (s t : State) : Prop where
  queue : t.slc.queue = s.slc.queue
  current : t.slc.current = s.slc.current
  stage : t.slc.stage = s.slc.stage
  participation : t.al.participation = s.al.participation
  medium : t.slc.medium.measures = true → s.slc.medium.measures = true
  fp : t.fp = s.fp
  tu : t.tu = s.tu

theorem Medium.measures_iff {m : Medium} : m.measures = true ↔ m ≠ .off ∧ m ≠ .dozeSampling := by
  cases m <;> simp [Medium.measures]

theorem HeadKept.mayTakeHead {s t : State} (h : HeadKept s t) (hs : s.mayTakeHead = false ∨ s.slc.queue = []) :
    t.mayTakeHead = false ∨ t.slc.queue = [] := by
  rw [h.queue]
  refine hs.imp_left fun hs => Bool.eq_false_iff.2 fun ht => ?_
  obtain ⟨hcurrent, hstage, hpart, hmedium⟩ := State.mayTakeHead_iff.1 ht
  rw [h.current] at hcurrent
  rw [h.stage] at hstage
  rw [h.participation] at hpart
  have hmay : s.mayTakeHead = true :=
    State.mayTakeHead_iff.2 ⟨hcurrent, hstage, hpart, Medium.measures_iff.1 (h.medium (Medium.measures_iff.2 hmedium))⟩
  rw [hs] at hmay
  cases hmay

theorem HeadKept.maySendReport {s t : State} (h : HeadKept s t) : t.maySendReport = s.maySendReport :=
  State.maySendReport_congr h.fp h.tu

/-- A part at rest stays at rest where Power Control has nothing to do. -/
theorem HeadKept.settled_of_keepsPower {s t : State} (h : HeadKept s t) (hs : s.settled = true) (hk : t.keepsPower) :
    t.settled = true := by
  obtain ⟨hhead, hreport, -⟩ := State.settled_iff.1 hs
  exact State.settled_iff.2 ⟨h.mayTakeHead hhead, h.maySendReport.trans hreport, State.mayDoze_of_keepsPower hk,
    hk.imp And.left fun hd => .inr hd.2⟩

/-- A part at rest stays at rest where it has neither gained nor lost work (R113, R117). -/
theorem HeadKept.settled {s t : State} (h : HeadKept s t) (hs : s.settled = true) (hpower : t.pwc.power = s.pwc.power)
    (hhold : t.pwc.hold = s.pwc.hold) (hwarm : s.pwc.warmUp.isSome = true → t.pwc.warmUp.isSome = true)
    (hconfig : t.al.config = s.al.config) (hwork : t.workless = s.workless) : t.settled = true := by
  obtain ⟨hhead, hreport, hdoze, hrest⟩ := State.settled_iff.1 hs
  refine State.settled_iff.2 ⟨h.mayTakeHead hhead, h.maySendReport.trans hreport, ?_, ?_⟩
  · rw [← hdoze]
    unfold State.mayDoze State.configured State.settings
    rw [hpower, hhold, hconfig, hwork]
  · rw [hpower, hwork]
    exact hrest.imp_right fun hrest => hrest.imp_right hwarm

/-- An awake part at rest stays at rest where it has gained work (R113). -/
theorem HeadKept.settled_of_awake {s t : State} (h : HeadKept s t) (hs : s.settled = true) (hawake : s.pwc.power = .awake)
    (hpwc : t.pwc = s.pwc) (hconfig : t.al.config = s.al.config) (hwork : t.workless = true → s.workless = true) :
    t.settled = true := by
  obtain ⟨hhead, hreport, hdoze, -⟩ := State.settled_iff.1 hs
  refine State.settled_iff.2 ⟨h.mayTakeHead hhead, h.maySendReport.trans hreport, ?_, .inl (by rw [hpwc]; exact hawake)⟩
  have hmay : t.mayDoze = true → s.mayDoze = true := by
    unfold State.mayDoze State.configured State.settings
    simp only [Bool.and_eq_true]
    rw [hpwc, hconfig]
    exact fun ⟨hcond, hw⟩ => ⟨hcond, hwork hw⟩
  exact Bool.eq_false_iff.2 fun ht => by rw [hmay ht] at hdoze; cases hdoze

/-- What the end of an event looks at is as in `s`, but for the medium and its measuring: a part at rest rests. -/
theorem settled_withMedium {s : State} (h : s.settled = true) {x : Slc} {out : Outputs} {now : Micros}
    (hx : x = { s.slc with
      medium := x.medium, quietSince := x.quietSince, busyStart := x.busyStart, carrier := x.carrier
      lastActivity := x.lastActivity, losses := x.losses })
    (hmedium : x.medium.measures = true → s.slc.medium.measures = true) :
    State.settled { s with slc := x, out := out, now := now } = true := by
  have hqueue : x.queue = s.slc.queue := by rw [hx]
  have hcurrent : x.current = s.slc.current := by rw [hx]
  have hstage : x.stage = s.slc.stage := by rw [hx]
  have hrx : x.rxFifo = s.slc.rxFifo := by rw [hx]
  refine HeadKept.settled (s := s) ⟨hqueue, hcurrent, hstage, rfl, hmedium, rfl, rfl⟩ h rfl rfl (fun hw => hw) rfl ?_
  unfold State.workless State.noWaits
  dsimp only
  rw [hqueue, hcurrent, hstage, hrx]

/-- Flags and notices do not matter at the end of an event. -/
theorem settled_queueNotice {s : State} (h : s.settled = true) (n : Notice) : (s.queueNotice n).settled = true := by
  rw [State.queueNotice_eq]
  exact (State.settled_withAl rfl rfl).trans h

/-! ### Frames and syncs (R103, R104) -/

theorem clampRssi_eq (rssi : Int) : clampRssi rssi = max (-130) (min rssi (-20)) := rfl

/-- What a frame that completes reception does (R104). -/
theorem State.frameArrives_eq (s : State) (f : Frame) (rssi : Int) :
    s.frameArrives f rssi =
      if frameCheckOk f = false then s.setDamaged
      else if 4 ≤ s.slc.rxFifo.length then s.setRxOverrun
      else { s with slc := { s.slc with rxFifo := s.slc.rxFifo ++ [⟨f, max (-130) (min rssi (-20))⟩] } } := by
  unfold State.frameArrives
  rw [clampRssi_eq]
  cases frameCheckOk f
  · rfl
  · by_cases hfull : 4 ≤ s.slc.rxFifo.length
    · simp [hfull]
    · simp [hfull, Nat.lt_of_not_le hfull, State.withSlc]

/-- Settles O50: in RECEIVE a frame joins the FIFO; a sync enters RECEIVE from IDLE and DEFER. -/
theorem frameAndSyncComplete : Obligations.FrameAndSyncComplete := by
  intro s f rssi h
  refine ⟨fun hmedium => ?_, fun hmedium hawake => ?_, fun hmedium => ?_, fun hidle hdefer => ?_⟩
  · show execFrameReceived f rssi s = _
    refine event_rest ?_ h
    split
    · next hm => exact absurd hm hmedium
    · rfl
  · have hm : s.begin.slc.medium = .receive := hmedium
    show execFrameReceived f rssi s = _
    refine event_rest (t := s.begin.frameArrives f rssi) ?_ ?_ |>.trans (by rw [State.frameArrives_eq]; rfl)
    · rw [hm]
    · rw [State.frameArrives_eq]
      split
      · exact (State.settled_withAl (s := s.begin) rfl rfl).trans h
      · split
        · exact (State.settled_withAl (s := s.begin) rfl rfl).trans h
        · refine HeadKept.settled_of_awake (s := s) ⟨rfl, rfl, rfl, rfl, fun hm => hm, rfl, rfl⟩ h hawake rfl rfl ?_
          simp [State.workless]
  · show execSyncDetected s = _
    refine event_rest ?_ (settled_withMedium (s := s) h rfl fun _ => by rcases hmedium with hm | hm <;> rw [hm] <;> rfl)
    rcases hmedium with hm | hm
    · have hm' : s.begin.slc.medium = .idle := hm
      rw [hm']
      rfl
    · have hm' : s.begin.slc.medium = .defer := hm
      rw [hm']
      rfl
  · show execSyncDetected s = _
    refine event_rest ?_ h
    dsimp only
    split
    · next hm => exact absurd hm hidle
    · next hm => exact absurd hm hdefer
    · rfl

/-! ### The awake hold run out (R112 to R114) -/

theorem State.holdDue_of_running {s : State} {x : Micros} (h : s.pwc.hold = .running x) : s.holdDue = some x := by
  unfold State.holdDue
  rw [h]

theorem State.holdDue_eq_none {s : State} (h : ∀ x, s.pwc.hold ≠ .running x) : s.holdDue = none := by
  unfold State.holdDue
  split
  · next x hx => exact absurd hx (h x)
  · rfl

/-- R113's conditions 4 to 8, one by one. -/
theorem State.workless_of {s : State} (hqueue : s.slc.queue = []) (hcurrent : s.slc.current = none)
    (hstage : s.slc.stage = []) (hslots : ∀ n, s.slotAt n = none)
    (hwaits : ∀ k e, s.entryAt k = some e → e.relay.state.name ≠ .waiting ∧ e.tallySend.state.isWaiting = false)
    (hout : s.tu.outstanding = none) (hpages : s.fp.pageFifo = []) (hframes : s.slc.rxFifo = []) :
    s.workless = true := by
  have hempty : s.sa.slots.all Option.isNone = true := by
    rw [List.all_eq_true]
    intro o ho
    obtain ⟨n, hn, hget⟩ := List.mem_iff_getElem.1 ho
    have hslot := hslots n
    unfold State.slotAt at hslot
    rw [List.getElem?_eq_getElem hn, hget] at hslot
    rw [Option.isNone_iff_eq_none]
    exact hslot
  have hquiet : s.noWaits = true := by
    unfold State.noWaits
    rw [List.all_eq_true]
    intro sl hsl
    obtain ⟨k, hk, hget⟩ := List.mem_iff_getElem.1 hsl
    rw [Option.all_eq_true]
    intro e he
    have hentry : s.entryAt k = some e := by
      unfold State.entryAt
      rw [List.getElem?_eq_getElem hk, hget]
      exact he
    obtain ⟨hrelay, htally⟩ := hwaits k e hentry
    have hrelay' : e.relay.state.isWaiting = false := by
      cases hr : e.relay.state with
      | waiting w => exact absurd (by rw [hr]; rfl) hrelay
      | _ => rfl
    rw [hrelay', htally]
    rfl
  unfold State.workless
  rw [hqueue, hcurrent, hstage, hempty, hquiet, hout, hpages, hframes]
  rfl

/-- Without R113's other conditions the timer's end is recorded only. -/
theorem settled_withRunOut {s : State} (h : s.settled = true) (hawake : s.pwc.power = .awake) (now : Micros)
    (hstay : s.al.config = none ∨ (∃ cfg, s.al.config = some cfg ∧ cfg.doze = false) ∨ s.workless = false) :
    State.settled { s with now := now, pwc := { s.pwc with hold := .runOut } } = true := by
  obtain ⟨hhead, hreport, -, -⟩ := State.settled_iff.1 h
  refine State.settled_iff.2 ⟨hhead, hreport, Bool.eq_false_iff.2 fun hmay => ?_, .inl hawake⟩
  unfold State.mayDoze State.configured State.settings at hmay
  simp only [Bool.and_eq_true] at hmay
  obtain ⟨⟨⟨⟨hconfigured, hdoze⟩, -⟩, -⟩, hwork⟩ := hmay
  rcases hstay with hc | ⟨cfg, hc, hd⟩ | hw
  · simp [hc] at hconfigured
  · simp [hc, hd] at hdoze
  · rw [show s.workless = true from hwork] at hw
    cases hw

/-- DOZE entered (R110, R114). -/
theorem State.enterDoze_eq (s : State) : s.enterDoze = { s with
    slc := { s.slc with
      medium := .dozeSampling, busyStart := none, quietSince := none
      lastActivity :=
        if s.slc.carrier.isSome = true ∧ s.slc.medium ≠ .off ∧ s.slc.medium ≠ .dozeSampling then some s.now
        else s.slc.lastActivity }
    pwc := ⟨.doze, s.pwc.hold, none, some (s.now + 1000 * s.settings.listenInterval), none⟩ } := by
  have hlast : s.lastActivityTime =
      if s.slc.carrier.isSome = true ∧ s.slc.medium ≠ .off ∧ s.slc.medium ≠ .dozeSampling then some s.now
      else s.slc.lastActivity := by
    unfold State.lastActivityTime
    simp only [Medium.measures_iff, and_comm]
  unfold State.enterDoze
  rw [hlast, ← millis_eq s.settings.listenInterval]
  rfl

/-- Settles O59: the end of the awake hold, and DOZE where R113's conditions hold. -/
theorem awakeHoldRunOutCompletes : Obligations.AwakeHoldRunOutCompletes := by
  intro s h hawake
  refine ⟨fun hidle => timer_idle (due := State.holdDue) h (State.holdDue_eq_none (s := s.begin) hidle),
    fun x hx hfresh => ?_⟩
  have hdue : State.holdDue s.begin = some x := State.holdDue_of_running (s := s.begin) hx
  refine ⟨fun hstay => ?_, fun cfg hconfig hdoze hqueue hcurrent hstage hslots hwaits hout hpages hframes => ?_⟩
  · exact timer_rests (due := State.holdDue) hdue hfresh rfl (settled_withRunOut (s := s.begin) h hawake _ hstay)
  · show execAwakeHoldRunOut s = _
    unfold execAwakeHoldRunOut
    rw [timer_fires (due := State.holdDue) _ hdue hfresh]
    refine congrArg Host.Outcome.next ?_
    generalize hm : (s.begin.advance x).withHold .runOut = m
    have hhead : m.takeHead = m := State.takeHead_of_noHeadTaken (by subst hm; exact .inr (.inr (.inl hqueue)))
    have hreport : m.sendReport = m := by
      refine if_neg ?_
      rw [show m.maySendReport = s.maySendReport by subst hm; rfl, (State.settled_iff.1 h).2.1]
      nofun
    have hwork : m.workless = true := by
      subst hm
      exact State.workless_of (s := s) hqueue hcurrent hstage hslots hwaits hout hpages hframes
    have hsettings : m.settings = cfg := by
      subst hm
      show s.al.config.getD noSettings = cfg
      rw [hconfig]
      rfl
    have hmay : m.mayDoze = true := by
      unfold State.mayDoze
      have hconfigured : m.configured = true := State.configured_of_config (by subst hm; exact hconfig)
      have hpwc : m.pwc = { s.pwc with hold := .runOut } := by subst hm; rfl
      rw [hwork, hsettings, hdoze, hconfigured, hpwc, hawake]
      rfl
    unfold State.finish
    rw [hhead, hreport, State.settlePower, if_pos hmay]
    rw [State.enterDoze_eq, hsettings]
    subst hm
    rfl

end Sys2Proof.Machine
end

section
/-! Carrier begins and ends (R85, R95, R103, R106, R115, R116). -/

namespace Sys2Proof.Machine

theorem State.settings_of_config {s : State} {cfg : Settings} (h : s.al.config = some cfg) : s.settings = cfg := by
  unfold State.settings
  rw [h]
  rfl

/-- Activity of the SLC in AWAKE restarts the awake hold (R85, R112). -/
theorem State.slcActivity_awake {s : State} {cfg : Settings} (hawake : s.pwc.power = .awake)
    (hconfig : s.al.config = some cfg) :
    s.slcActivity = { s with pwc := { s.pwc with hold := .running (s.now + 1000000 * cfg.awakeHold) } } := by
  have hactivity : s.slcActivity = s.activity := by
    unfold State.slcActivity State.activity
    rw [hawake]
  rw [hactivity, State.activity_awake hawake hconfig, seconds_eq]
  rfl

theorem State.slcActivity_withSlc {s : State} {cfg : Settings} (x : Slc) (hawake : s.pwc.power = .awake)
    (hconfig : s.al.config = some cfg) :
    (s.withSlc x).slcActivity =
      { s with slc := x, pwc := { s.pwc with hold := .running (s.now + 1000000 * cfg.awakeHold) } } :=
  State.slcActivity_awake (s := s.withSlc x) hawake hconfig

/-- A restarted awake hold and another medium leave a part at rest. -/
theorem settled_withHold {s : State} (h : s.settled = true) (hawake : s.pwc.power = .awake) {x : Slc} {out : Outputs}
    {now expiry : Micros}
    (hx : x = { s.slc with
      medium := x.medium, quietSince := x.quietSince, busyStart := x.busyStart, carrier := x.carrier
      lastActivity := x.lastActivity, losses := x.losses })
    (hmedium : x.medium.measures = true → s.slc.medium.measures = true) :
    State.settled
      { s with slc := x, out := out, now := now, pwc := { s.pwc with hold := .running expiry } } = true := by
  have hqueue : x.queue = s.slc.queue := by rw [hx]
  have hcurrent : x.current = s.slc.current := by rw [hx]
  have hstage : x.stage = s.slc.stage := by rw [hx]
  exact HeadKept.settled_of_keepsPower (s := s) ⟨hqueue, hcurrent, hstage, rfl, hmedium, rfl, rfl⟩ h
    (.inl ⟨hawake, nofun⟩)

theorem settled_setDamaged {s : State} (h : s.settled = true) : s.setDamaged.settled = true :=
  (State.settled_withAl rfl rfl).trans h

/-! ### A sample window counts pairs (R116) -/

theorem Window.markBegins_eq (w : Window) (now : Micros) : w.markBegins now = { w with
    pairs :=
      match w.phase with
      | .space since => if since + 400 ≤ now ∧ now ≤ since + 600 then w.pairs + 1 else 0
      | _ => w.pairs
    phase := .mark now } := by
  unfold Window.markBegins pairLength
  cases w.phase <;> simp

theorem Window.markEnds_eq (w : Window) (now : Micros) : w.markEnds now =
    match w.phase with
    | .mark since =>
      if since + 400 ≤ now ∧ now ≤ since + 600 then { w with phase := .space now }
      else { w with pairs := 0, phase := .waiting }
    | _ => w := by
  unfold Window.markEnds pairLength
  cases w.phase <;> simp

/-- An open window that counts leaves a part at rest. -/
theorem settled_mapWindow {s : State} (h : s.settled = true) (carrier : Option Micros) (f : Window → Window) :
    ((s.withCarrier carrier).mapWindow f).settled = true :=
  HeadKept.settled (s := s) ⟨rfl, rfl, rfl, rfl, fun hm => hm, rfl, rfl⟩ h rfl rfl (fun hw => hw) rfl rfl

/-! ### Carrier begins (R85, R95) -/

/-- Carrier that begins outside contention (R85). -/
theorem State.hearCarrier_eq {s : State} {cfg : Settings} (hawake : s.pwc.power = .awake)
    (hconfig : s.al.config = some cfg) (hmedium : s.slc.medium.name ≠ .contend) : s.hearCarrier = { s with
      slc := { s.slc with
        carrier := some s.now, quietSince := none, busyStart := some (s.busySince.getD s.now) }
      pwc := { s.pwc with hold := .running (s.now + 1000000 * cfg.awakeHold) } } := by
  unfold State.hearCarrier
  rw [State.slcActivity_withSlc _ hawake hconfig]
  dsimp only
  split
  · next hm =>
    have hname : s.slc.medium.name = .contend := by
      rw [show s.slc.medium = _ from hm]
      rfl
    exact absurd hname hmedium
  · rfl

/-- Carrier that begins in a listening slot of CONTEND, in quiet, is a loss (R95). -/
theorem State.hearCarrier_loses {s : State} {cfg : Settings} {key : BitVec 16} {slot : Nat} {slotEnd : Micros}
    (hawake : s.pwc.power = .awake) (hconfig : s.al.config = some cfg)
    (hmedium : s.slc.medium = .contend key slot slotEnd) (hquiet : s.busySince = none) (hlimit : 0 < cfg.holdLimit) :
    s.hearCarrier = { s with
      slc := { s.slc with
        carrier := some s.now, quietSince := none, busyStart := some s.now, losses := s.slc.losses + 1
        medium := .defer }
      pwc := { s.pwc with hold := .running (s.now + 1000000 * cfg.awakeHold) } } := by
  unfold State.hearCarrier
  rw [State.slcActivity_withSlc _ hawake hconfig, hquiet]
  dsimp only
  split
  · unfold State.lose
    rw [State.enterDefer_waits]
    · rfl
    · nofun
    · intro b hb
      have hb' : s.now = b := Option.some.inj hb
      show s.now < b + 1000 * s.settings.holdLimit
      rw [State.settings_of_config hconfig, hb']
      exact Nat.lt_add_of_pos_right (Nat.mul_pos (by decide) hlimit)
  · next hnot => exact absurd hmedium (hnot key slot slotEnd)

/-- The event of carrier that begins where the SLC measures and is not sending. -/
theorem carrierBegin_heard {s : State} (hmeasures : s.slc.medium.measures = true)
    (hsending : s.slc.medium.sending = false) : exec .carrierBegin s = .next s.begin.hearCarrier.finish := by
  show execCarrierBegin s = _
  unfold execCarrierBegin
  rw [event_eq]
  rw [State.begin_slc]
  cases hm : s.slc.medium with
  | off => rw [hm] at hmeasures; cases hmeasures
  | dozeSampling => rw [hm] at hmeasures; cases hmeasures
  | _ =>
    rw [hm] at hsending
    dsimp only
    rw [hsending]
    rfl

/-! ### Carrier ends (R85, R103) -/

/-- Carrier that ends outside a reception (R85). -/
theorem State.loseCarrier_eq {s : State} {cfg : Settings} (unfinished : Nat) (hawake : s.pwc.power = .awake)
    (hconfig : s.al.config = some cfg) (hmedium : s.slc.medium ≠ .receive) : s.loseCarrier unfinished = { s with
      slc := { s.slc with carrier := none, quietSince := some s.now, lastActivity := some s.now }
      pwc := { s.pwc with hold := .running (s.now + 1000000 * cfg.awakeHold) } } := by
  unfold State.loseCarrier
  rw [State.slcActivity_withSlc _ hawake hconfig]
  dsimp only
  split
  · next hm => exact absurd hm hmedium
  · rfl

/-- Carrier that ends a reception (R103). -/
theorem State.loseCarrier_receive {s : State} {cfg : Settings} (unfinished : Nat) (hawake : s.pwc.power = .awake)
    (hconfig : s.al.config = some cfg) (hmedium : s.slc.medium = .receive) :
    s.loseCarrier unfinished = State.endReception
      { s with
        slc := { s.slc with carrier := none, quietSince := some s.now, lastActivity := some s.now }
        pwc := { s.pwc with hold := .running (s.now + 1000000 * cfg.awakeHold) } } unfinished := by
  unfold State.loseCarrier
  rw [State.slcActivity_withSlc _ hawake hconfig]
  dsimp only [State.withSlc]
  rw [hmedium]

/-- A reception that ends in a busy period short of the hold limit (R103). -/
theorem State.endReception_waits {s : State} (unfinished : Nat) (hgap : ∀ q, s.slc.quietSince = some q → s.now < q + 2000)
    (hbusy : s.slc.stage ≠ [] → ∀ b, s.slc.busyStart = some b → s.now < b + 1000 * s.settings.holdLimit) :
    s.endReception unfinished =
      (let x : State := { s with slc := { s.slc with medium := if s.slc.stage = [] then .idle else .defer } }
      if unfinished = 0 then x else x.setDamaged) := by
  unfold State.endReception
  dsimp only
  by_cases hstage : s.slc.stage = []
  · have hempty : s.slc.stage.isEmpty = true := List.isEmpty_iff.2 hstage
    rw [if_pos hstage]
    by_cases hwhole : unfinished = 0
    · rw [if_pos hwhole, if_pos hwhole, if_pos hempty]
      rfl
    · rw [if_neg hwhole, if_neg hwhole, if_pos (show s.setDamaged.slc.stage.isEmpty = true from hempty)]
      rfl
  · have hstaged : ¬ s.slc.stage.isEmpty = true := mt List.isEmpty_iff.1 hstage
    rw [if_neg hstage]
    by_cases hwhole : unfinished = 0
    · rw [if_pos hwhole, if_pos hwhole, if_neg hstaged]
      exact State.enterDefer_waits hgap (hbusy hstage)
    · rw [if_neg hwhole, if_neg hwhole, if_neg (show ¬ s.setDamaged.slc.stage.isEmpty = true from hstaged)]
      exact State.enterDefer_waits (s := s.setDamaged) hgap (hbusy hstage)

/-- A reception that ends with a burst staged in a busy period that has lasted the hold limit (R106). -/
theorem State.endReception_jams {s : State} {b : Micros} (unfinished : Nat) (hstage : s.slc.stage ≠ [])
    (hgap : ∀ q, s.slc.quietSince = some q → s.now < q + 2000) (hb : s.slc.busyStart = some b)
    (hle : b + 1000 * s.settings.holdLimit ≤ s.now) :
    s.endReception unfinished = State.queueNotice
      (let x : State := { s with slc := { s.slc with medium := .jammed } }
      if unfinished = 0 then x else x.setDamaged) .mediumJammed := by
  have hstaged : s.slc.stage.isEmpty = false := List.isEmpty_eq_false_iff.2 hstage
  unfold State.endReception
  split
  · simp only [hstaged, Bool.false_eq_true, if_false]
    exact State.enterDefer_jams hgap hb hle
  · simp only [State.setDamaged_slc, hstaged, Bool.false_eq_true, if_false]
    exact State.enterDefer_jams (s := s.setDamaged) hgap hb hle

/-- The event of carrier that ends where the SLC measures and is not sending. -/
theorem carrierEnd_heard {s : State} (unfinished : Nat) (hmeasures : s.slc.medium.measures = true)
    (hsending : s.slc.medium.sending = false) :
    exec (.carrierEnd unfinished) s = .next (s.begin.loseCarrier unfinished).finish := by
  show execCarrierEnd unfinished s = _
  unfold execCarrierEnd
  rw [event_eq]
  rw [State.begin_slc]
  cases hm : s.slc.medium with
  | off => rw [hm] at hmeasures; cases hmeasures
  | dozeSampling => rw [hm] at hmeasures; cases hmeasures
  | _ =>
    rw [hm] at hsending
    dsimp only
    rw [hsending]
    rfl

/-! ### The statement -/

/-- Quiet that has just begun is no complete gap (R85). -/
theorem lt_of_quiet_now {now q : Micros} (h : some now = some q) : now < q + 2000 := by
  rw [Option.some.inj h]
  exact Nat.lt_add_of_pos_right (by decide)

theorem carrierBegin_sending {s : State} (h : s.settled = true) (hsending : s.slc.medium.sending = true) :
    exec .carrierBegin s = .next s.begin := by
  show execCarrierBegin s = _
  refine event_rest ?_ h
  rw [State.begin_slc]
  cases hm : s.slc.medium with
  | off => rw [hm] at hsending; cases hsending
  | dozeSampling => rw [hm] at hsending; cases hsending
  | _ =>
    rw [hm] at hsending
    dsimp only
    rw [if_pos hsending]

theorem carrierEnd_sending {s : State} (unfinished : Nat) (h : s.settled = true)
    (hsending : s.slc.medium.sending = true) : exec (.carrierEnd unfinished) s = .next s.begin := by
  show execCarrierEnd unfinished s = _
  refine event_rest ?_ h
  rw [State.begin_slc]
  cases hm : s.slc.medium with
  | off => rw [hm] at hsending; cases hsending
  | dozeSampling => rw [hm] at hsending; cases hsending
  | _ =>
    rw [hm] at hsending
    dsimp only
    rw [if_pos hsending]

theorem Medium.name_eq_contend {m : Medium} : m.name = .contend ↔ ∃ key slot slotEnd, m = .contend key slot slotEnd := by
  cases m <;> simp [Medium.name]

/-- Settles O51: carrier by medium state. -/
theorem carrierEventsComplete : Obligations.CarrierEventsComplete := by
  refine ⟨fun s h => ⟨carrierBegin_sending h, fun hoff => ?_, fun hdoze => ?_, fun cfg hconfig hawake => ⟨fun hmedium => ?_,
    fun key slot slotEnd hmedium hlistens hquiet hlimit => ?_⟩⟩,
    fun s unfinished h => ⟨carrierEnd_sending unfinished h, fun hoff => ?_, fun hdoze => ?_, fun cfg hconfig hawake =>
      ⟨fun hmedium => ?_, fun b hmedium hstage hb hle => ?_, fun hmedium hbusy => ?_⟩⟩⟩
  · show execCarrierBegin s = _
    refine event_rest (t := s.begin.withCarrier (some s.now)) ?_ (settled_withMedium (s := s) h rfl fun hm => hm)
    rw [State.begin_slc, hoff]
    rfl
  · show execCarrierBegin s = _
    refine (event_rest (t := (s.begin.withCarrier (some s.now)).mapWindow fun w => w.markBegins s.now) ?_
      (settled_mapWindow (s := s.begin) h _ _)).trans ?_
    · rw [State.begin_slc, hdoze]
      rfl
    · simp only [Window.markBegins_eq]
      rfl
  · have hnot : s.slc.medium.name ≠ .contend ∧ s.slc.medium.measures = true ∧ s.slc.medium.sending = false := by
      rcases hmedium with hm | hm | hm | hm <;> rw [hm] <;> exact ⟨nofun, rfl, rfl⟩
    obtain ⟨hname, hmeasures, hsending⟩ := hnot
    rw [carrierBegin_heard hmeasures hsending, State.hearCarrier_eq (s := s.begin) hawake hconfig hname,
      State.finish_of_settled]
    · rfl
    · exact settled_withHold (s := s.begin) h hawake rfl fun hm => hm
  · have hmeasures : s.slc.medium.measures = true := by rw [hmedium]; rfl
    rw [carrierBegin_heard hmeasures (by rw [hmedium]; exact hlistens),
      State.hearCarrier_loses (s := s.begin) hawake hconfig hmedium hquiet hlimit,
      State.finish_of_settled]
    · rfl
    · exact settled_withHold (s := s.begin) h hawake rfl fun _ => hmeasures
  · show execCarrierEnd unfinished s = _
    refine event_rest (t := s.begin.withCarrier none) ?_ (settled_withMedium (s := s) h rfl fun hm => hm)
    rw [State.begin_slc, hoff]
  · show execCarrierEnd unfinished s = _
    refine (event_rest (t := (s.begin.withCarrier none).mapWindow fun w => w.markEnds s.now) ?_
      (settled_mapWindow (s := s.begin) h _ _)).trans ?_
    · rw [State.begin_slc, hdoze]
      rfl
    · simp only [Window.markEnds_eq]
      rfl
  · have hnot : s.slc.medium ≠ .receive ∧ s.slc.medium.measures = true ∧ s.slc.medium.sending = false := by
      rcases hmedium with hm | hm | hm | ⟨hm, hs⟩
      · rw [hm]; exact ⟨nofun, rfl, rfl⟩
      · rw [hm]; exact ⟨nofun, rfl, rfl⟩
      · rw [hm]; exact ⟨nofun, rfl, rfl⟩
      · obtain ⟨key, slot, slotEnd, hc⟩ := Medium.name_eq_contend.1 hm
        exact ⟨by rw [hc]; nofun, by rw [hc]; rfl, hs⟩
    obtain ⟨hreceive, hmeasures, hsending⟩ := hnot
    rw [carrierEnd_heard unfinished hmeasures hsending, State.loseCarrier_eq (s := s.begin) unfinished hawake hconfig hreceive,
      State.finish_of_settled]
    · rfl
    · exact settled_withHold (s := s.begin) h hawake rfl fun hm => hm
  · have hmeasures : s.slc.medium.measures = true := by rw [hmedium]; rfl
    rw [carrierEnd_heard unfinished hmeasures (by rw [hmedium]; rfl),
      State.loseCarrier_receive (s := s.begin) unfinished hawake hconfig hmedium,
      State.endReception_jams (b := b) unfinished ?_ ?_ ?_ ?_, State.finish_of_settled]
    · rfl
    · refine settled_queueNotice ?_ _
      dsimp only
      split
      · exact settled_withHold (s := s.begin) h hawake rfl fun _ => hmeasures
      · exact settled_setDamaged (settled_withHold (s := s.begin) h hawake rfl fun _ => hmeasures)
    · exact hstage
    · exact fun q hq => lt_of_quiet_now hq
    · exact hb
    · show b + 1000 * s.settings.holdLimit ≤ s.now
      rw [State.settings_of_config hconfig]
      exact hle
  · have hmeasures : s.slc.medium.measures = true := by rw [hmedium]; rfl
    rw [carrierEnd_heard unfinished hmeasures (by rw [hmedium]; rfl),
      State.loseCarrier_receive (s := s.begin) unfinished hawake hconfig hmedium,
      State.endReception_waits unfinished ?_ ?_, State.finish_of_settled]
    · rfl
    · dsimp only
      split
      · exact settled_withHold (s := s.begin) h hawake rfl fun _ => hmeasures
      · exact settled_setDamaged (settled_withHold (s := s.begin) h hawake rfl fun _ => hmeasures)
    · exact fun q hq => lt_of_quiet_now hq
    · intro hstage b hb
      show s.now < b + 1000 * s.settings.holdLimit
      rw [State.settings_of_config hconfig]
      exact hbusy hstage b hb

end Sys2Proof.Machine
end

section
/-! The quiet gap, the hold limit, contention slots and the preamble (R85, R92 to R98, R106, R107). -/

namespace Sys2Proof.Machine

/-! ### The quiet gap (R85, R92, R107) -/

theorem State.gapInstant_of_quiet {s : State} {q : Micros} (hq : s.slc.quietSince = some q)
    (hmedium : s.slc.medium = .idle ∨ s.slc.medium = .receive ∨ s.slc.medium = .defer ∨ s.slc.medium = .jammed) :
    s.gapInstant = some (q + 2000) := by
  unfold State.gapInstant
  rcases hmedium with hm | hm | hm | hm <;> rw [hm, hq] <;> rfl

theorem State.gapInstant_eq_none {s : State} (hq : s.slc.quietSince = none) : s.gapInstant = none := by
  unfold State.gapInstant
  rw [hq]
  cases s.slc.medium <;> rfl

/-- Where nothing waits for the gap, it ends a busy period only (R85). -/
theorem State.completeGap_quiet {s : State} (hmedium : s.slc.medium = .idle ∨ s.slc.medium = .receive) :
    s.completeGap = { s with slc := { s.slc with busyStart := none } } := by
  unfold State.completeGap
  dsimp only [State.withSlc]
  rcases hmedium with hm | hm <;> rw [hm]

/-- A jam that clears with no burst staged (R107). -/
theorem State.completeGap_clears {s : State} (hmedium : s.slc.medium = .jammed) (hstage : s.slc.stage = []) :
    s.completeGap =
      State.queueNotice { s with slc := { s.slc with busyStart := none, medium := .idle } } .mediumClear := by
  unfold State.completeGap
  dsimp only [State.withSlc]
  rw [hmedium]
  dsimp only
  rw [State.queueNotice_eq, State.queueNotice_eq]
  exact if_pos (List.isEmpty_iff.2 hstage)

/-- Contention begins in DEFER as the gap completes (R92). -/
theorem State.completeGap_contends {s : State} {q : Micros} {c : CurrentJob} {f : Frame} {frames : List Frame}
    (hmedium : s.slc.medium = .defer) (hq : s.slc.quietSince = some q) (hcurrent : s.slc.current = some c)
    (hstage : s.slc.stage = f :: frames) {key : BitVec 16}
    (hkey : key = contentionKey s.settings.tag c.job.precedence (4 - f.kind.toNat) s.slc.losses) :
    s.completeGap = { s with
      slc := { s.slc with
        medium := .contend key 1 (s.now + 100), busyStart := none
        quietSince := if key.getLsbD 15 then none else some q }
      out := { s.out with air := s.out.air ++ if key.getLsbD 15 then [.markTone 1] else [] } } := by
  unfold State.completeGap
  dsimp only [State.withSlc]
  rw [hmedium]
  refine (if_neg (by rw [hstage]; nofun)).trans ?_
  rw [State.beginContention_eq (q := q) (c := c) (f := f) (frames := frames) (key := key)]
  · exact hq
  · exact hcurrent
  · exact hstage
  · exact hkey

/-- A jam that clears with a burst staged goes on to contention (R92, R107). -/
theorem State.completeGap_resumes {s : State} {q : Micros} {c : CurrentJob} {f : Frame} {frames : List Frame}
    (hmedium : s.slc.medium = .jammed) (hq : s.slc.quietSince = some q) (hgap : q + 2000 ≤ s.now)
    (hcurrent : s.slc.current = some c) (hstage : s.slc.stage = f :: frames) {key : BitVec 16}
    (hkey : key = contentionKey s.settings.tag c.job.precedence (4 - f.kind.toNat) s.slc.losses) :
    s.completeGap = State.queueNotice { s with
      slc := { s.slc with
        medium := .contend key 1 (s.now + 100), busyStart := none
        quietSince := if key.getLsbD 15 then none else some q }
      out := { s.out with air := s.out.air ++ if key.getLsbD 15 then [.markTone 1] else [] } } .mediumClear := by
  unfold State.completeGap
  dsimp only [State.withSlc]
  rw [hmedium]
  dsimp only
  rw [State.queueNotice_eq, State.queueNotice_eq]
  refine (if_neg (by rw [hstage]; nofun)).trans ?_
  rw [State.enterDefer_of_gap (q := q) (c := c) (f := f) (frames := frames) (key := key)]
  · exact hq
  · exact hgap
  · exact hcurrent
  · exact hstage
  · exact hkey

/-! ### The hold limit (R106) -/

theorem State.jamDue_of_busy {s : State} {b : Micros} (hb : s.busySince = some b)
    (hmedium : s.slc.medium = .defer ∨ s.slc.medium = .receive) :
    s.jamDue = some (b + 1000 * s.settings.holdLimit) := by
  unfold State.jamDue
  rw [hb, ← millis_eq]
  rcases hmedium with hm | hm <;> rw [hm] <;> rfl

theorem State.jamDue_of_quiet {s : State} (hb : s.busySince = none) : s.jamDue = none := by
  unfold State.jamDue
  rw [hb]
  split
  · rfl
  · rfl
  · split <;> rfl
  · rfl

theorem State.jamDue_elsewhere {s : State} (hdefer : s.slc.medium ≠ .defer) (hreceive : s.slc.medium ≠ .receive)
    (hcontend : s.slc.medium.name ≠ .contend) : s.jamDue = none := by
  unfold State.jamDue
  split
  · next hm => exact absurd hm hdefer
  · next hm => exact absurd hm hreceive
  · next hm => exact absurd (Medium.name_eq_contend.2 ⟨_, _, _, hm⟩) hcontend
  · rfl

/-- Settles O52: the quiet gap and the hold limit by medium state. -/
theorem quietGapAndHoldLimitComplete : Obligations.QuietGapAndHoldLimitComplete := by
  refine ⟨fun s h => ⟨fun hq => ?_, fun q hq hfresh => ⟨fun hmedium => ?_, fun hmedium hstage => ?_,
    fun f frames c hstage hcurrent => ⟨fun hmedium => ?_, fun hmedium => ?_⟩⟩⟩,
    fun s h => ⟨fun hdefer hreceive hcontend => ?_, fun hb => ?_, fun b hmedium hb hfresh => ?_⟩⟩
  · exact timer_idle (due := State.gapInstant) h (State.gapInstant_eq_none (s := s.begin) hq)
  · refine timer_rests (due := State.gapInstant) (State.gapInstant_of_quiet (s := s.begin) hq ?_) hfresh
      (State.completeGap_quiet (s := s.begin.advance (q + 2000)) hmedium) ?_
    · exact hmedium.imp_right .inl
    · exact settled_withMedium (s := s.begin) h rfl fun hm => hm
  · refine timer_rests (due := State.gapInstant)
      (State.gapInstant_of_quiet (s := s.begin) hq (.inr (.inr (.inr hmedium)))) hfresh
      (State.completeGap_clears (s := s.begin.advance (q + 2000)) hmedium hstage) ?_
    exact settled_queueNotice (settled_withMedium (s := s.begin) h rfl fun _ => by rw [State.begin_slc, hmedium]; rfl) _
  · refine timer_rests (due := State.gapInstant)
      (State.gapInstant_of_quiet (s := s.begin) hq (.inr (.inr (.inl hmedium)))) hfresh
      (State.completeGap_contends (s := s.begin.advance (q + 2000)) hmedium hq hcurrent hstage rfl) ?_
    exact settled_withMedium (s := s.begin) h rfl fun _ => by rw [State.begin_slc, hmedium]; rfl
  · refine timer_rests (due := State.gapInstant)
      (State.gapInstant_of_quiet (s := s.begin) hq (.inr (.inr (.inr hmedium)))) hfresh
      (State.completeGap_resumes (s := s.begin.advance (q + 2000)) hmedium hq (Nat.le_max_right _ _) hcurrent hstage
        rfl) ?_
    exact settled_queueNotice (settled_withMedium (s := s.begin) h rfl fun _ => by rw [State.begin_slc, hmedium]; rfl) _
  · exact timer_idle (due := State.jamDue) h (State.jamDue_elsewhere (s := s.begin) hdefer hreceive hcontend)
  · exact timer_idle (due := State.jamDue) h (State.jamDue_of_quiet (s := s.begin) hb)
  · refine timer_rests (due := State.jamDue) (State.jamDue_of_busy (s := s.begin) hb hmedium) hfresh
      (f := State.enterJammed) rfl ?_
    refine settled_queueNotice (settled_withMedium (s := s.begin) h rfl fun _ => ?_) _
    rcases hmedium with hm | hm <;> rw [State.begin_slc, hm] <;> rfl

end Sys2Proof.Machine
end

section
/-! Contention slots, the win and the preamble (R94, R97, R98, R132). -/

namespace Sys2Proof.Machine

/-! ### A part with a current job -/

theorem State.workless_of_current {s : State} (h : s.slc.current.isSome = true) : s.workless = false := by
  obtain ⟨c, hc⟩ := Option.isSome_iff_exists.1 h
  unfold State.workless
  rw [hc]
  simp

/-- A part at rest with a current job stays at rest while it has one. -/
theorem settled_of_current {s t : State} (h : s.settled = true) (hs : s.slc.current.isSome = true)
    (ht : t.slc.current.isSome = true) (hpwc : t.pwc = s.pwc) (hfp : t.fp = s.fp) (htu : t.tu = s.tu) :
    t.settled = true := by
  obtain ⟨-, hreport, -, hrest⟩ := State.settled_iff.1 h
  refine State.settled_iff.2 ⟨.inl (Bool.eq_false_iff.2 fun hmay => ?_), (State.maySendReport_congr hfp htu).trans hreport,
    ?_, ?_⟩
  · rw [(State.mayTakeHead_iff.1 hmay).1] at ht
    cases ht
  · simp [State.mayDoze, State.workless_of_current ht]
  · rw [State.workless_of_current hs] at hrest
    rw [hpwc]
    exact hrest.imp_right fun hrest => .inr (hrest.resolve_left nofun)

/-! ### The entry a job names, before and after -/

theorem State.modifyNamed_entryAt_ne {s : State} {job : Job} {k : Nat} (h : s.slotOf job.id ≠ some k) (f : Entry → Entry) :
    (s.modifyNamed job f).entryAt k = s.entryAt k := by
  unfold State.modifyNamed
  split
  · next i hi => exact State.entryAt_modifyEntry_ne (fun hk => h (by rw [hi, hk])) f
  · rfl

theorem State.modifyNamed_entryAt_same {s : State} {job : Job} {i : Nat} {e : Entry} (hi : s.slotOf job.id = some i)
    (he : s.entryAt i = some e) (f : Entry → Entry) : (s.modifyNamed job f).entryAt i = some (f e) := by
  unfold State.modifyNamed
  rw [hi]
  exact State.entryAt_modifyEntry_same he f

theorem State.modifyNamed_self {s : State} {job : Job} {f : Entry → Entry} (h : ∀ e, f e = e) :
    s.modifyNamed job f = s := by
  unfold State.modifyNamed
  split
  · exact State.modifyEntry_self fun e _ => h e
  · rfl

/-! ### The win (R94, R97, R132) -/

/-- An entry after the first burst of its job has won (R132, R140). -/
def wonBy (c : CurrentJob) (e : Entry) : Entry :=
  if c.won then e
  else
    match c.job.kind with
    | .relay =>
      if c.job.update = some e.relay.update ∧ e.relay.state = .staged then
        { e with relay := { e.relay with state := .sending } }
      else e
    | .tally =>
      if e.tallySend.state = .staged then { e with tallySend := { e.tallySend with state := .sending } } else e

theorem wonBy_of_won {c : CurrentJob} {e : Entry} (h : c.won = true) : wonBy c e = e := if_pos h

theorem wonBy_relay {c : CurrentJob} {e : Entry} (h : c.won = false) (hkind : c.job.kind = .relay) :
    wonBy c e = if c.job.update = some e.relay.update ∧ e.relay.state = .staged then
      { e with relay := { e.relay with state := .sending } } else e := by
  unfold wonBy
  rw [h, hkind]
  rfl

theorem wonBy_tally {c : CurrentJob} {e : Entry} (h : c.won = false) (hkind : c.job.kind = .tally) :
    wonBy c e = if e.tallySend.state = .staged then
      { e with tallySend := { e.tallySend with state := .sending } } else e := by
  unfold wonBy
  rw [h, hkind]
  rfl

theorem State.reportWon_eq {s : State} {c : CurrentJob} (h : c.won = false) :
    s.reportWon c.job = s.modifyNamed c.job (wonBy c) := by
  unfold State.reportWon
  cases hkind : c.job.kind with
  | relay =>
    dsimp only
    rw [State.relayReport_eq_modifyNamed]
    congr 1
    funext e
    simp only [wonBy_relay h hkind, beq_iff_eq]
  | tally =>
    dsimp only
    rw [State.tallyReport_eq_modifyNamed]
    congr 1
    funext e
    simp only [wonBy_tally h hkind, beq_iff_eq]

/-- The preamble of a win at `now` (R97). -/
def preambleFor (cfg : Settings) (lastActivity : Option Micros) (now : Micros) : Preamble :=
  match lastActivity with
  | none => .long
  | some a => if a + 500000 * cfg.awakeHold ≤ now then .long else .short

theorem State.choosePreamble_eq {s : State} {cfg : Settings} (hconfig : s.al.config = some cfg)
    (hcarrier : s.slc.carrier = none) : s.choosePreamble = preambleFor cfg s.slc.lastActivity s.now := by
  have hlast : s.lastActivityTime = s.slc.lastActivity := by
    unfold State.lastActivityTime
    rw [hcarrier]
    exact if_neg fun h => by cases h.2
  unfold State.choosePreamble preambleFor
  rw [hlast, State.settings_of_config hconfig]
  cases s.slc.lastActivity with
  | none => rfl
  | some a =>
    dsimp only
    rw [Nat.mul_comm]

theorem preambleTime_eq (kind : Preamble) (listenInterval : Nat) :
    preambleTime kind listenInterval =
      match kind with
      | .short => 1000
      | .long => 1000 * (listenInterval + 20) := by
  cases kind with
  | short => rfl
  | long =>
    show (listenInterval + 19) * 1000 + 1000 = 1000 * (listenInterval + 20)
    omega

theorem preambleParts_eq (kind : Preamble) (listenInterval : Nat) :
    preambleParts kind listenInterval =
      match kind with
      | .short => [.sync 1000]
      | .long => [.pairs (listenInterval + 19) 500 500, .sync 1000] := by
  cases kind <;> rfl

/-- The contention won with a current job (R94). -/
theorem State.win_eq {s : State} {cfg : Settings} {c : CurrentJob} (hconfig : s.al.config = some cfg)
    (hcarrier : s.slc.carrier = none) (hcurrent : s.slc.current = some c) {kind : Preamble}
    (hkind : kind = preambleFor cfg s.slc.lastActivity s.now) :
    s.win = State.modifyNamed
      { s with
        slc := { s.slc with
          medium := .preamble kind (s.now + preambleTime kind cfg.listenInterval), quietSince := none
          current := some { c with won := true } }
        out := { s.out with air := s.out.air ++ [.preamble kind (preambleParts kind cfg.listenInterval)] } }
      c.job (wonBy c) := by
  unfold State.win
  rw [State.choosePreamble_eq hconfig hcarrier, ← hkind, State.settings_of_config hconfig]
  dsimp only [State.withSlc, State.emit]
  rw [hcurrent]
  dsimp only
  cases hwon : c.won with
  | true =>
    have hsame : ({ c with won := true } : CurrentJob) = c := by
      rw [← hwon]
    rw [hsame, State.modifyNamed_self fun e => wonBy_of_won hwon, if_pos rfl, ← hcurrent]
  | false =>
    rw [if_neg (by nofun)]
    exact State.reportWon_eq hwon

/-! ### The events -/

theorem State.slotDue_of_contend {s : State} {key : BitVec 16} {slot : Nat} {slotEnd : Micros}
    (h : s.slc.medium = .contend key slot slotEnd) : s.slotDue = some slotEnd := by
  unfold State.slotDue
  rw [h]

theorem State.slotDue_elsewhere {s : State} (h : s.slc.medium.name ≠ .contend) : s.slotDue = none := by
  unfold State.slotDue
  split
  · next hm => exact absurd (Medium.name_eq_contend.2 ⟨_, _, _, hm⟩) h
  · rfl

theorem State.preambleDue_elsewhere {s : State} (h : s.slc.medium.name ≠ .preamble) : s.preambleDue = none := by
  unfold State.preambleDue
  split
  · next hm =>
    rw [hm] at h
    exact absurd rfl h
  · rfl

/-- The next contention slot (R94). -/
theorem State.endSlot_next {s : State} {key : BitVec 16} {slot : Nat} {slotEnd : Micros}
    (h : s.slc.medium = .contend key slot slotEnd) (hslot : slot < 16) : s.endSlot = { s with
      slc := { s.slc with
        medium := .contend key (slot + 1) (s.now + 100)
        quietSince := if key.getLsbD (15 - slot) then none else some (s.slc.quietSince.getD s.now) }
      out := { s.out with air := s.out.air ++ if key.getLsbD (15 - slot) then [.markTone (slot + 1)] else [] } } := by
  have hindex : 16 - (slot + 1) = 15 - slot := by omega
  unfold State.endSlot
  rw [h]
  dsimp only
  rw [if_pos hslot]
  cases hbit : key.getLsbD (15 - slot) with
  | true =>
    rw [State.beginSlot_tone (by rw [hindex]; exact hbit)]
    rfl
  | false =>
    rw [State.beginSlot_listens (by rw [hindex]; exact hbit)]
    simp only [Bool.false_eq_true, if_false, List.append_nil]

theorem State.endSlot_wins {s : State} {key : BitVec 16} {slotEnd : Micros}
    (h : s.slc.medium = .contend key 16 slotEnd) : s.endSlot = s.win := by
  unfold State.endSlot
  rw [h]
  rfl

theorem burstAirtime_eq (frames : List Frame) :
    burstAirtime frames = (frames.map fun f => 32 * (8 + f.body.length)).sum := by
  have hframe : frameAirtime = fun f => 32 * (8 + f.body.length) := by
    funext f
    exact Nat.mul_comm _ 32
  unfold burstAirtime
  rw [hframe]

/-- Settles O53: a contention slot ends in the next one or in the win; the preamble ends in the burst. -/
theorem contentionAndPreambleComplete : Obligations.ContentionAndPreambleComplete := by
  refine ⟨fun s cfg h hconfig => ⟨fun hmedium => ?_, fun key slot slotEnd hmedium hfresh => ⟨fun hslot => ?_,
    fun c hslot hcarrier hcurrent => ?_⟩⟩, fun s h => ⟨fun hmedium => ?_, fun kind ends hmedium hfresh => ?_⟩⟩
  · exact timer_idle (due := State.slotDue) h (State.slotDue_elsewhere (s := s.begin) hmedium)
  · refine timer_rests (due := State.slotDue) (State.slotDue_of_contend (s := s.begin) hmedium) hfresh
      (State.endSlot_next (s := s.begin.advance slotEnd) hmedium hslot) ?_
    exact settled_withMedium (s := s.begin) h rfl fun _ => by rw [State.begin_slc, hmedium]; rfl
  · subst hslot
    have hwin := State.win_eq (s := s.begin.advance slotEnd) hconfig hcarrier hcurrent rfl
    generalize hx : ({ s.begin.advance slotEnd with slc := _, out := _ } : State) = x at hwin
    refine ⟨x.modifyNamed c.job (wonBy c), ?_, ?_⟩
    · refine timer_rests (due := State.slotDue) (State.slotDue_of_contend (s := s.begin) hmedium) hfresh
        ((State.endSlot_wins (s := s.begin.advance slotEnd) hmedium).trans hwin) ?_
      rw [State.modifyNamed_eq, ← hx]
      exact settled_of_current (s := s) h (by rw [hcurrent]; rfl) rfl rfl rfl rfl
    · have hentry (k : Nat) : x.entryAt k = s.entryAt k := by subst hx; rfl
      have hslotOf (id : Identity) : x.slotOf id = s.slotOf id := by subst hx; rfl
      have hx' : x.modifyNamed c.job (wonBy c) =
          { x with atc := (x.modifyNamed c.job (wonBy c)).atc } := by
        rw [State.modifyNamed_eq]
        rfl
      refine ⟨?_, ?_, ?_, ?_, ?_, ?_, ?_, fun k hk => ?_,
        fun i e hi he => ⟨wonBy c e, ?_, wonBy_of_won, wonBy_relay, wonBy_tally⟩⟩
      · rw [hx', ← hx]
        rfl
      · rw [hx', ← hx, preambleTime_eq]
        rfl
      · rw [hx', ← hx, preambleParts_eq]
        rfl
      · rw [hx', ← hx]
        rfl
      · rw [hx', ← hx]
        rfl
      · rw [hx', ← hx]
        rfl
      · rw [hx', ← hx]
        rfl
      · rw [State.modifyNamed_entryAt_ne (by rw [hslotOf]; exact hk), hentry]
      · exact State.modifyNamed_entryAt_same ((hslotOf _).trans hi) ((hentry _).trans he) _
  · exact timer_idle (due := State.preambleDue) h (State.preambleDue_elsewhere (s := s.begin) hmedium)
  · have hdue : State.preambleDue s.begin = some ends := by
      show State.preambleDue s = _
      unfold State.preambleDue
      rw [hmedium]
    refine timer_rests (due := State.preambleDue) (f := State.sendBurst) hdue hfresh ?_ ?_
    · unfold State.sendBurst
      rw [burstAirtime_eq]
      rfl
    · exact settled_withMedium (s := s.begin) h rfl fun _ => by rw [State.begin_slc, hmedium]; rfl

end Sys2Proof.Machine
end

section
/-! Sample windows, the wake pattern and the end of the warm-up (R115 to R118). -/

namespace Sys2Proof.Machine

/-- An event whose effect leaves Power Control at rest and gives no report to send ends with R90 (R113, R172). -/
theorem State.finish_eq_takeHead {s m : State} (h : s.settled = true) (hk : m.keepsPower) (hfp : m.fp = s.fp)
    (htu : m.tu = s.tu) : m.finish = m.takeHead := by
  have honly := sidelinkOnly_takeHead m
  rw [State.finish_of_keepsPower hk]
  refine if_neg ?_
  rw [State.maySendReport_congr (honly.fp.trans hfp) (honly.tu.trans htu), (State.settled_iff.1 h).2.1]
  nofun

theorem endsWithHead_finish {s m : State} (h : s.settled = true) (hk : m.keepsPower) (hfp : m.fp = s.fp)
    (htu : m.tu = s.tu) : m.EndsWithHead (.next m.finish) := by
  rw [State.finish_eq_takeHead h hk hfp htu]
  exact m.endsWithHead_takeHead

/-! ### When the windows' timers run (R115, R116) -/

theorem State.windowDue_eq_none {s : State}
    (h : s.pwc.power = .awake ∨ s.pwc.warmUp.isSome = true ∨ s.pwc.nextWindow = none) : s.windowDue = none := by
  unfold State.windowDue
  split
  · next hrun =>
    rcases h with h | h | h
    · rw [hrun.1] at h
      cases h
    · rw [hrun.2] at h
      cases h
    · exact h
  · rfl

theorem Window.sixthPair_of_few {w : Window} (h : w.pairs < 5) : w.sixthPair = none := by
  unfold Window.sixthPair
  cases w.phase with
  | space since =>
    dsimp only
    rw [if_neg (by omega), if_neg (by omega)]
  | mark since => exact if_neg (by omega)
  | waiting => rfl

theorem State.patternDue_of_few {s : State} {w : Window} (hw : s.pwc.window = some w) (h : w.pairs < 5) :
    s.patternDue = none := by
  unfold State.patternDue
  rw [hw]
  show w.sixthPair.filter _ = none
  rw [Window.sixthPair_of_few h]
  rfl

/-- The pattern of five whole pairs and a space is seen 400 µs into that space, within the window (R116). -/
theorem State.patternDue_of_five {s : State} {opened since : Micros} (hw : s.pwc.window = some ⟨opened, 5, .space since⟩) :
    s.patternDue = if since + 400 ≤ opened + 8000 then some (since + 400) else none := by
  have hsixth : (⟨opened, 5, .space since⟩ : Window).sixthPair = some (since + 400) := by
    simp [Window.sixthPair]
  unfold State.patternDue
  rw [hw]
  dsimp only [Option.bind_some]
  rw [hsixth, Option.filter_some]
  simp only [decide_eq_true_eq, millis_eq]

/-! ### The wake (R117, R118) -/

theorem State.wakeCause_starts {s : State} (hdoze : s.pwc.power = .doze) (hwarm : s.pwc.warmUp = none) :
    s.wakeCause =
      { s with pwc := { s.pwc with warmUp := some (s.now + 2000), nextWindow := none, window := none } } :=
  if_pos ⟨hdoze, hwarm⟩

/-- AWAKE entered: the hold restarted, the SLC in IDLE, measuring anew (R118). -/
theorem State.wake_eq {s : State} {cfg : Settings} (hconfig : s.al.config = some cfg) : s.wake = { s with
    pwc := { s.pwc with power := .awake, warmUp := none, hold := .running (s.now + 1000000 * cfg.awakeHold) }
    slc := { s.slc with
      medium := .idle
      quietSince := if s.slc.carrier.isSome then none else some s.now
      busyStart := if s.slc.carrier.isSome then some s.now else none } } := by
  have hwoken (x : Pwc) : (s.withPwc x).restartHold = (s.withPwc x).withHold (.running (s.now + 1000000 * cfg.awakeHold)) := by
    unfold State.restartHold
    rw [if_pos (State.configured_of_config (s := s.withPwc x) hconfig), seconds_eq,
      State.settings_of_config (s := s.withPwc x) hconfig]
    rfl
  unfold State.wake
  dsimp only
  rw [hwoken, State.startMeasuring_eq]
  rfl

/-- Settles O60: the windows open and close, the pattern wakes, and AWAKE is entered with R90. -/
theorem sampleWindowsAndWarmUpComplete : Obligations.SampleWindowsAndWarmUpComplete := by
  intro s h
  refine ⟨fun hidle => ?_, fun w hdoze hwarm hw hfresh => ?_, fun hw => ⟨?_, ?_⟩, fun w hw hfresh => ?_,
    fun w hw hfew => ?_, fun opened since hw hlate => ?_, fun opened since hw hdoze hwarm hin hfresh => ?_,
    fun hwarm => ?_, fun w cfg hwarm hconfig hdoze hfresh => ?_⟩
  · exact timer_idle (due := State.windowDue) h (State.windowDue_eq_none (s := s.begin) hidle)
  · have hdue : State.windowDue s.begin = some w := (if_pos ⟨hdoze, hwarm⟩).trans hw
    refine timer_rests (due := State.windowDue) (f := State.openWindow) hdue hfresh ?_ ?_
    · unfold State.openWindow
      rw [millis_eq]
      rfl
    · exact HeadKept.settled (s := s) ⟨rfl, rfl, rfl, rfl, fun hm => hm, rfl, rfl⟩ h rfl rfl (fun hw => hw) rfl rfl
  · exact timer_idle (due := State.closeDue) h (congrArg (Option.map _) hw)
  · exact timer_idle (due := State.patternDue) h (by show s.pwc.window.bind _ = none; rw [hw]; rfl)
  · have hdue : State.closeDue s.begin = some (w.opened + 8000) := congrArg (Option.map _) hw
    refine timer_rests (due := State.closeDue) hdue hfresh rfl ?_
    exact HeadKept.settled (s := s) ⟨rfl, rfl, rfl, rfl, fun hm => hm, rfl, rfl⟩ h rfl rfl (fun hw => hw) rfl rfl
  · exact timer_idle (due := State.patternDue) h (State.patternDue_of_few (s := s.begin) hw hfew)
  · refine timer_idle (due := State.patternDue) h ((State.patternDue_of_five (s := s.begin) hw).trans ?_)
    exact if_neg (Nat.not_le_of_lt hlate)
  · have hdue : State.patternDue s.begin = some (since + 400) :=
      (State.patternDue_of_five (s := s.begin) hw).trans (if_pos hin)
    refine timer_rests (due := State.patternDue) hdue hfresh
      (State.wakeCause_starts (s := s.begin.advance (since + 400)) hdoze hwarm) ?_
    exact HeadKept.settled_of_keepsPower (s := s) ⟨rfl, rfl, rfl, rfl, fun hm => hm, rfl, rfl⟩ h (.inr ⟨hdoze, rfl⟩)
  · exact timer_idle (due := State.warmUpDue) h hwarm
  · show State.EndsWithHead _ (execWarmUpEnd s)
    unfold execWarmUpEnd
    rw [timer_fires (due := State.warmUpDue) State.wake hwarm hfresh, State.wake_eq (s := s.begin.advance w) hconfig]
    exact endsWithHead_finish h (.inl ⟨rfl, nofun⟩) rfl rfl

end Sys2Proof.Machine
end

section
/-! The burst completion (R99, R132, R140). -/

namespace Sys2Proof.Machine

theorem State.modifyNamed_congr {s : State} {job : Job} {f g : Entry → Entry} (h : ∀ e, f e = g e) :
    s.modifyNamed job f = s.modifyNamed job g := by
  rw [funext h]

/-! ### The job's reports (R132, R140) -/

/-- An entry after its job has ended on the air (R100, R132, R140). -/
def endedUnder (part : Participation) (job : Job) (e : Entry) : Entry :=
  match job.kind with
  | .relay =>
    if part = .listenOnly ∧ job.update = some e.relay.update ∧ e.relay.state = .sending then
      { e with relay := { e.relay with state := .withheld } }
    else e
  | .tally =>
    if e.tallySend.state = .queued ∨ e.tallySend.state = .staged ∨ e.tallySend.state = .sending then
      { e with tallySend := { e.tallySend with state := .idle } }
    else e

theorem State.reportEnded_eq_modifyNamed (s : State) (job : Job) :
    s.reportEnded job = s.modifyNamed job (endedUnder s.al.participation job) := by
  unfold State.reportEnded
  cases hkind : job.kind with
  | relay =>
    dsimp only
    cases hpart : s.al.participation with
    | full =>
      rw [if_pos (show s.fullPart = true by unfold State.fullPart; rw [hpart]; rfl), State.modifyNamed_self]
      intro e
      simp [endedUnder, hkind]
    | listenOnly =>
      rw [if_neg (show ¬ s.fullPart = true by unfold State.fullPart; rw [hpart]; nofun),
        State.relayReport_eq_modifyNamed]
      refine State.modifyNamed_congr fun e => ?_
      simp only [endedUnder, hkind, beq_iff_eq, true_and]
  | tally =>
    dsimp only
    rw [State.tallyReport_eq_modifyNamed]
    refine State.modifyNamed_congr fun e => ?_
    simp only [endedUnder, hkind, beq_iff_eq, Bool.or_eq_true, or_assoc]

/-- An entry after its job was completed at `now` (R132, R140). -/
def completedBy (tag : Tag) (part : Participation) (now : Micros) (job : Job) (e : Entry) : Entry :=
  match job.kind with
  | .relay =>
    if job.update = some e.relay.update ∧ e.relay.state = .sending then
      { e with relay := { e.relay with state := .done } }
    else e
  | .tally =>
    if e.tallySend.state = .sending then
      { e with tallySend :=
        ⟨if e.tallySend.resend = true ∧ part = .full ∧ e.state.name ≠ .expired then
          .waiting (tallyWaitExpiry tag e.id.serial (some now) now) else .idle, some now, false⟩ }
    else e

theorem State.tallySent_eq {s : State} {i : Nat} {e : Entry} {job : Job} (he : s.entryAt i = some e)
    (hkind : job.kind = .tally) :
    s.tallySent i = s.modifyEntry i (completedBy s.settings.tag s.al.participation s.now job) := by
  have hdone : completedBy s.settings.tag s.al.participation s.now job e =
      if e.tallySend.state = .sending then
        { e with tallySend :=
          ⟨if e.tallySend.resend = true ∧ s.al.participation = .full ∧ e.state.name ≠ .expired then
            .waiting (tallyWaitExpiry s.settings.tag e.id.serial (some s.now) s.now) else .idle, some s.now, false⟩ }
      else e := by
    unfold completedBy
    rw [hkind]
  unfold State.tallySent
  rw [he, State.modifyEntry_of_entryAt (f := completedBy _ _ _ job) he, hdone]
  dsimp only
  by_cases hsending : e.tallySend.state = .sending
  · rw [if_pos hsending, if_pos hsending, State.modifyEntry_of_entryAt he]
    cases hresend : e.tallySend.resend with
    | false =>
      rw [if_neg (by nofun), if_neg fun hc => by cases hc.1]
    | true =>
      rw [if_pos rfl, State.startTallyWait_of_entryAt (State.entryAt_modifyEntry_same he _),
        State.modifyEntry_modifyEntry]
      refine State.modifyEntry_congr fun x _ => ?_
      dsimp only [State.modifyEntry_al, State.modifyEntry_settings, State.modifyEntry_now]
      by_cases hwait : s.al.participation = .full ∧ e.state.name ≠ .expired
      · simp [hwait]
      · simp [hwait]
  · rw [if_neg hsending, if_neg hsending, State.modifyEntry_self]
    intro x hx
    exact (Option.some.inj (hx.symm.trans he)).symm

theorem State.reportCompleted_eq {s : State} {cfg : Settings} (hconfig : s.al.config = some cfg) (job : Job) :
    s.reportCompleted job =
      s.modifyNamed job (completedBy cfg.tag s.al.participation s.now job) := by
  rw [← State.settings_of_config hconfig]
  unfold State.reportCompleted
  cases hkind : job.kind with
  | relay =>
    dsimp only
    rw [State.relayReport_eq_modifyNamed]
    refine State.modifyNamed_congr fun e => ?_
    simp only [completedBy, hkind, beq_iff_eq]
  | tally =>
    dsimp only
    unfold State.modifyNamed
    cases hi : s.slotOf job.id with
    | none => rfl
    | some i =>
      obtain ⟨e, he, -⟩ := State.slotOf_spec hi
      exact State.tallySent_eq he hkind

/-! ### The event -/

theorem endsWithHead_modifyNamed {s m : State} (h : s.settled = true) (hk : m.keepsPower) (hfp : m.fp = s.fp)
    (htu : m.tu = s.tu) (job : Job) (f : Entry → Entry) :
    (m.modifyNamed job f).EndsWithHead (.next (m.modifyNamed job f).finish) := by
  rw [State.modifyNamed_eq]
  exact endsWithHead_finish h hk hfp htu

theorem State.burstDue_elsewhere {s : State} (h : s.slc.medium.name ≠ .send) : s.burstDue = none := by
  unfold State.burstDue
  split
  · next hm =>
    rw [hm] at h
    exact absurd rfl h
  · rfl

/-- The completion of a burst of the current job, in AWAKE (R85, R99). -/
theorem State.completeBurst_awake {s : State} {cfg : Settings} {c : CurrentJob} (hawake : s.pwc.power = .awake)
    (hconfig : s.al.config = some cfg) (hcurrent : s.slc.current = some c) :
    s.completeBurst = State.afterBurst
      { s with
        slc := { s.slc with stage := [], losses := 0, lastActivity := some s.now, quietSince := some s.now }
        pwc := { s.pwc with hold := .running (s.now + 1000000 * cfg.awakeHold) } } c := by
  rw [State.completeBurst_eq, hcurrent, State.slcActivity_awake hawake hconfig]
  rfl

theorem State.buildBurst_nil (s : State) (id : Identity) : s.buildBurst id [] = [] := by
  unfold State.buildBurst
  split <;> rfl

theorem State.afterBurst_ended {u : State} {c : CurrentJob} (hend : c.endMark = true) :
    u.afterBurst c = State.modifyNamed u.clearCurrent c.job
      (endedUnder u.al.participation c.job) := by
  unfold State.afterBurst
  rw [if_pos hend, State.reportEnded_eq_modifyNamed]
  rfl

theorem State.afterBurst_complete {u : State} {cfg : Settings} {c : CurrentJob} (hconfig : u.al.config = some cfg)
    (hend : c.endMark = false) (hlast : c.unstaged = []) :
    u.afterBurst c = State.modifyNamed u.clearCurrent c.job
      (completedBy cfg.tag u.al.participation u.now c.job) := by
  unfold State.afterBurst
  rw [hend, if_neg (by nofun), hlast, List.take_nil, State.buildBurst_nil, if_pos (by rfl),
    State.reportCompleted_eq (s := u.clearCurrent) hconfig]
  rfl

/-- A job with frames left waits in DEFER again, the quiet gap counted from now (R99). -/
theorem State.afterBurst_continues {u : State} {cfg : Settings} {c : CurrentJob} (hconfig : u.al.config = some cfg)
    (hend : c.endMark = false) (hburst : u.buildBurst c.job.id (c.unstaged.take 6) ≠ [])
    (hquiet : u.slc.quietSince = some u.now)
    (hbusy : ∀ b, u.slc.busyStart = some b → u.now < b + 1000 * cfg.holdLimit) :
    u.afterBurst c = { u with slc := { u.slc with
      medium := .defer
      losses := 0
      stage := u.buildBurst c.job.id (c.unstaged.take 6)
      current := some { c with unstaged := c.unstaged.drop 6 } } } := by
  unfold State.afterBurst
  rw [if_neg (by rw [hend]; nofun), if_neg (mt List.isEmpty_iff.1 hburst), State.enterDefer_waits]
  · rfl
  · intro q hq
    exact lt_of_quiet_now (hquiet.symm.trans hq)
  · intro b hb
    show u.now < b + 1000 * u.settings.holdLimit
    rw [State.settings_of_config hconfig]
    exact hbusy b hb

/-- A part at `now` whose burst has ended: the awake hold restarted, the stage empty (R85, R99). -/
def State.burstSent (s : State) (cfg : Settings) (now : Micros) : State :=
  { s.begin with
    now := now
    pwc := { s.pwc with hold := .running (now + 1000000 * cfg.awakeHold) }
    slc := { s.slc with stage := [], losses := 0, lastActivity := some now, quietSince := some now } }

/-- Settles O54: the job ended, complete, or continued with its next burst. -/
theorem burstCompletionCompletes : Obligations.BurstCompletionCompletes := by
  intro s cfg c h hconfig
  refine ⟨fun hmedium => timer_idle (due := State.burstDue) h (State.burstDue_elsewhere (s := s.begin) hmedium),
    fun ends hmedium hawake hcurrent hfresh => ?_⟩
  have hdue : State.burstDue s.begin = some ends := by
    show State.burstDue s = _
    unfold State.burstDue
    rw [hmedium]
  have hevent : exec .burstCompletion s = .next ((s.burstSent cfg (max s.now ends)).afterBurst c).finish := by
    show execBurstCompletion s = _
    unfold execBurstCompletion
    rw [timer_fires State.completeBurst hdue hfresh,
      State.completeBurst_awake (s := s.begin.advance ends) hawake hconfig hcurrent]
    rfl
  have hk : (s.burstSent cfg (max s.now ends)).keepsPower := .inl ⟨hawake, nofun⟩
  rw [hevent]
  refine ⟨fun hend => ?_, fun hend hlast => ?_, fun hend hburst hbusy => ?_⟩
  · rw [State.afterBurst_ended hend]
    have hover := endsWithHead_modifyNamed (m := (s.burstSent cfg (max s.now ends)).clearCurrent) h hk rfl rfl c.job
      (endedUnder s.al.participation c.job)
    exact hover
  · rw [State.afterBurst_complete (u := s.burstSent cfg (max s.now ends)) hconfig hend hlast]
    have hover := endsWithHead_modifyNamed (m := (s.burstSent cfg (max s.now ends)).clearCurrent) h hk rfl rfl c.job
      (completedBy cfg.tag s.al.participation (max s.now ends) c.job)
    exact hover
  · rw [State.afterBurst_continues (u := s.burstSent cfg (max s.now ends)) hconfig hend hburst rfl hbusy,
      State.finish_of_settled]
    · rfl
    · exact State.settled_of_keepsPower hk (.inl rfl)
        ((State.maySendReport_congr (s := s) rfl rfl).trans (State.settled_iff.1 h).2.1)

end Sys2Proof.Machine
end

section
/-! Leaving COLLECTING (R37, R38, R75 to R77, R127) and the collect limit (R36). -/

namespace Sys2Proof.Machine

/-! ### What leaving COLLECTING makes of the entry (R37) -/

/-- The entry with its area result computed anew in `s` (R22, R37). -/
def State.placed (s : State) (e : Entry) : Entry := { e with area := areaTest (s.atc.position.map Position.zone) e.zones }

/-- A started relay looks at no more than the category, the relay record, the lifetime and the serial number. -/
theorem State.startRelay_modifyEntry {s : State} {i : Nat} {e : Entry} (he : s.entryAt i = some e)
    (h : e.state.name ≠ .expired) : s.startRelay i = s.modifyEntry i fun _ => s.relayStarted e :=
  State.startRelay_eq he (Bool.eq_false_iff.2 (mt Entry.isExpired_iff.1 h))

theorem State.leaveCollecting_eq {u : State} {i : Nat} {e : Entry} (he : u.entryAt i = some e) :
    u.leaveCollecting i =
      (let v := u.modifyEntry i fun _ => u.placed e
      State.startRelay (match u.outcomeFor (u.placed e) with
        | .present => v.enterPresenting i
        | .hold => v.modifyEntry i fun e => { e with state := .held }
        | .acknowledge => v.enterAcknowledged i) i) := by
  have hplaced : u.computeArea i = u.modifyEntry i fun _ => u.placed e := by
    unfold State.computeArea
    rw [State.modifyEntry_of_entryAt he]
    rfl
  unfold State.leaveCollecting
  rw [hplaced]
  dsimp only
  rw [State.entryAt_modifyEntry_same he]
  rfl

theorem State.leaveCollecting_presents {u : State} {i : Nat} {e : Entry} (he : u.entryAt i = some e)
    (hout : u.outcomeFor (u.placed e) = .present) :
    u.leaveCollecting i =
      { u.modifyEntry i fun _ => u.relayStarted { u.placed e with state := .presenting, presented := true } with
        al := u.al.queued (.present ⟨i, u.genAt i⟩) } := by
  rw [State.leaveCollecting_eq he]
  dsimp only
  rw [hout]
  dsimp only
  have hentered : (u.modifyEntry i fun _ => u.placed e).enterPresenting i =
      { u.modifyEntry i fun _ => { u.placed e with state := .presenting, presented := true } with
        al := u.al.queued (.present ⟨i, u.genAt i⟩) } := by
    unfold State.enterPresenting
    rw [State.queueNotice_eq, State.modifyEntry_modifyEntry]
    unfold State.handleAt
    rw [State.genAt_modifyEntry]
    rfl
  rw [hentered, State.startRelay_modifyEntry (e := { u.placed e with state := .presenting, presented := true })]
  · have htwice := State.modifyEntry_modifyEntry u i (fun _ => { u.placed e with state := .presenting, presented := true })
      fun _ => u.relayStarted { u.placed e with state := .presenting, presented := true }
    exact congrArg (fun v : State => { v with al := u.al.queued (.present ⟨i, u.genAt i⟩) }) htwice
  · exact State.entryAt_modifyEntry_same he _
  · nofun

theorem State.leaveCollecting_holds {u : State} {i : Nat} {e : Entry} (he : u.entryAt i = some e)
    (hout : u.outcomeFor (u.placed e) = .hold) :
    u.leaveCollecting i = u.modifyEntry i fun _ => u.relayStarted { u.placed e with state := .held } := by
  rw [State.leaveCollecting_eq he]
  dsimp only
  rw [hout]
  dsimp only
  rw [State.modifyEntry_modifyEntry, State.startRelay_modifyEntry (State.entryAt_modifyEntry_same he _) (by nofun),
    State.modifyEntry_modifyEntry]
  rfl

theorem State.leaveCollecting_acknowledges {u : State} {i : Nat} {e : Entry} (he : u.entryAt i = some e)
    (hout : u.outcomeFor (u.placed e) = .acknowledge) (hsame : addTag e.tally u.settings.tag = e.tally) :
    u.leaveCollecting i = u.modifyEntry i fun _ => u.relayStarted ((u.placed e).acknowledgedAt u.now) := by
  rw [State.leaveCollecting_eq he]
  dsimp only
  rw [hout]
  dsimp only
  rw [State.enterAcknowledged_same (State.entryAt_modifyEntry_same he _) hsame, State.modifyEntry_modifyEntry,
    State.startRelay_modifyEntry (State.entryAt_modifyEntry_same he _) (by nofun), State.modifyEntry_modifyEntry]
  rfl

theorem State.leaveCollecting_tags {u : State} {i : Nat} {e : Entry} (he : u.entryAt i = some e)
    (hout : u.outcomeFor (u.placed e) = .acknowledge) (hnew : addTag e.tally u.settings.tag ≠ e.tally) :
    u.leaveCollecting i =
      { u.modifyEntry i fun _ => u.relayStarted (u.tagged ((u.placed e).acknowledgedAt u.now)) with
        tu := { u.tu with reportQueue := u.reportJoins i (u.tagged ((u.placed e).acknowledgedAt u.now)) } } := by
  rw [State.leaveCollecting_eq he]
  dsimp only
  rw [hout]
  dsimp only
  have hentered := State.enterAcknowledged_new (State.entryAt_modifyEntry_same he fun _ => u.placed e) hnew
  have hjoins := State.reportJoins_congr (s := u) (t := u.modifyEntry i fun _ => u.placed e) (i := i)
    (e := u.tagged ((u.placed e).acknowledgedAt u.now)) rfl rfl (u.genAt_modifyEntry i i _)
  rw [State.modifyEntry_modifyEntry] at hentered
  have hentered' : (u.modifyEntry i fun _ => u.placed e).enterAcknowledged i =
      { u.modifyEntry i fun _ => u.tagged ((u.placed e).acknowledgedAt u.now) with
        tu := { u.tu with reportQueue := u.reportJoins i (u.tagged ((u.placed e).acknowledgedAt u.now)) } } := by
    rw [← hjoins]
    exact hentered
  rw [hentered', State.startRelay_modifyEntry (e := u.tagged ((u.placed e).acknowledgedAt u.now))]
  · have htwice := State.modifyEntry_modifyEntry u i (fun _ => u.tagged ((u.placed e).acknowledgedAt u.now))
      fun _ => u.relayStarted (u.tagged ((u.placed e).acknowledgedAt u.now))
    exact congrArg (fun v : State => { v with tu := { u.tu with
      reportQueue := u.reportJoins i (u.tagged ((u.placed e).acknowledgedAt u.now)) } }) htwice
  · exact State.entryAt_modifyEntry_same he _
  · nofun

/-! ### The rows of R75's table as the statements write them -/

/-- What leaving COLLECTING does to the entry besides its decision (R37). -/
def State.LeftAs (s t : State) (e e' : Entry) : Prop :=
  e' = { e with
    area := areaTest (s.atc.position.map Position.zone) e.zones
    state := e'.state
    presented := e'.presented
    ownAck := e'.ownAck
    acked := e'.acked
    tally := e'.tally
    tallySend := e'.tallySend
    relay := { e.relay with
      state := startedRelay (s.category e.category).relay s.settings s.al.participation t.now e } }

theorem State.LeavesCollecting.of_presents {s t : State} {i : Nat} {e e' : Entry}
    (hout : s.outcomeFor (s.placed e) = .present) (hleft : s.LeftAs t e e') (hstate : e'.state = .presenting)
    (hpresented : e'.presented = true) (hown : e'.ownAck = e.ownAck) (hacked : e'.acked = e.acked)
    (htally : e'.tally = e.tally) (hsend : e'.tallySend = e.tallySend)
    (hal : t.al = s.al.queued (.present ⟨i, s.genAt i⟩)) (htu : t.tu = s.tu) : s.LeavesCollecting t i e e' := by
  refine ⟨hleft, ?_⟩
  unfold State.outcomeFor decision State.placed at hout
  dsimp only at hout
  split
  case h_5 | h_6 | h_7 | h_8 | h_9 =>
    simp_all
  all_goals exact ⟨hstate, hpresented, hown, hacked, htally, hsend, hal, htu⟩

theorem State.LeavesCollecting.of_holds {s t : State} {i : Nat} {e e' : Entry}
    (hout : s.outcomeFor (s.placed e) = .hold) (hleft : s.LeftAs t e e') (hstate : e'.state = .held)
    (hpresented : e'.presented = e.presented) (hown : e'.ownAck = e.ownAck) (hacked : e'.acked = e.acked)
    (htally : e'.tally = e.tally) (hsend : e'.tallySend = e.tallySend) (hal : t.al = s.al) (htu : t.tu = s.tu) :
    s.LeavesCollecting t i e e' := by
  refine ⟨hleft, ?_⟩
  unfold State.outcomeFor decision State.placed at hout
  dsimp only at hout
  split
  case h_1 | h_2 | h_3 | h_4 | h_9 =>
    simp_all
  all_goals exact ⟨hstate, hpresented, hown, hacked, htally, hsend, hal, htu⟩

theorem State.LeavesCollecting.of_acknowledges {s t : State} {i : Nat} {e e' : Entry}
    (hout : s.outcomeFor (s.placed e) = .acknowledge) (hleft : s.LeftAs t e e') (hstate : e'.state = .acknowledged)
    (hpresented : e'.presented = e.presented) (hown : e'.ownAck = true) (hacked : e'.acked = some t.now)
    (htally : e'.tally = addTag e.tally s.settings.tag) (hal : t.al = s.al)
    (hsame : e'.tally = e.tally → e'.tallySend = e.tallySend ∧ t.tu = s.tu)
    (hnew : e'.tally ≠ e.tally → e'.tallySend = s.dirtied t.now e ∧ s.ReportTested t i e') :
    s.LeavesCollecting t i e e' := by
  refine ⟨hleft, ?_⟩
  unfold State.outcomeFor decision State.placed at hout
  dsimp only at hout
  split
  case h_9 => exact ⟨hstate, hpresented, hown, hacked, htally, hal, hsame, hnew⟩
  all_goals simp_all

/-! ### The end of the event in which an entry leaves COLLECTING -/

/-- `u` decides as `s` does: position, opt-in marks, category map, Application Link, reports and feed port are its. -/
structure DecidesAs (s u : State) : Prop where
  position : u.atc.position = s.atc.position
  optIn : u.atc.optIn = s.atc.optIn
  map : u.atc.map = s.atc.map
  al : u.al = s.al
  tu : u.tu = s.tu
  fp : u.fp = s.fp

section
variable {s u : State}

theorem DecidesAs.settings (h : DecidesAs s u) : u.settings = s.settings := by
  unfold State.settings
  rw [h.al]

theorem DecidesAs.placed (h : DecidesAs s u) (e : Entry) : u.placed e = s.placed e := by
  unfold State.placed
  rw [h.position]

theorem DecidesAs.outcomeFor (h : DecidesAs s u) (e : Entry) : u.outcomeFor e = s.outcomeFor e := by
  unfold State.outcomeFor State.category
  rw [h.map, h.optIn]

/-- The entry of slot `i` changed, the Application Link and the report queue besides: what leaving COLLECTING leaves. -/
structure LeftWith (u m : State) (i : Nat) (e' : Entry) : Prop where
  eq : m = { u.modifyEntry i fun _ => e' with al := m.al, tu := m.tu }
  participation : m.al.participation = u.al.participation
  config : m.al.config = u.al.config

theorem LeftWith.noHeadTaken {m : State} {i : Nat} {e' : Entry} (h : LeftWith u m i e') (hu : u.noHeadTaken) :
    m.noHeadTaken :=
  State.noHeadTaken_congr (by rw [h.eq]; rfl) h.participation hu

theorem LeftWith.finish_atc {m : State} {i : Nat} {e' : Entry} (h : LeftWith u m i e') (hu : u.noHeadTaken) :
    m.finish.atc = (u.modifyEntry i fun _ => e').atc := by
  unfold State.finish
  rw [State.settlePower_atc, State.sendReport_atc, State.takeHead_of_noHeadTaken (h.noHeadTaken hu), h.eq]

/-- What the end of the event leaves of it where R90 takes no head. -/
theorem LeftWith.finish {m : State} {i : Nat} {e e' : Entry} (h : LeftWith u m i e') (he : u.entryAt i = some e)
    (hu : u.noHeadTaken) :
    m.finish.entryAt i = some e' ∧ (∀ k, k ≠ i → m.finish.entryAt k = u.entryAt k) ∧ (∀ k, m.finish.genAt k = u.genAt k)
      ∧ m.finish.now = u.now ∧ m.finish.al = m.al ∧ m.finish.sa = u.sa
      ∧ (m.maySendReport = false → m.finish.tu = m.tu) := by
  have hhead : m.takeHead = m := State.takeHead_of_noHeadTaken (h.noHeadTaken hu)
  have hatc := h.finish_atc hu
  have hentry (k : Nat) : m.finish.entryAt k = (u.modifyEntry i fun _ => e').entryAt k := by
    unfold State.entryAt
    rw [hatc]
  refine ⟨(hentry i).trans (State.entryAt_modifyEntry_same he _),
    fun k hk => (hentry k).trans (State.entryAt_modifyEntry_ne hk _), fun k => ?_, ?_, ?_, ?_, fun hreport => ?_⟩
  · rw [← State.genAt_modifyEntry u i k fun _ => e']
    unfold State.genAt
    rw [hatc]
  · unfold State.finish
    rw [State.settlePower_now, State.sendReport_now, hhead, h.eq]
    rfl
  · unfold State.finish
    rw [State.settlePower_al, State.sendReport_al, hhead]
  · unfold State.finish
    rw [State.settlePower_sa, State.sendReport_sa, hhead, h.eq]
    rfl
  · unfold State.finish
    rw [State.settlePower_tu, hhead, State.sendReport, hreport]
    rfl

theorem LeftWith.of_eq {m : State} {i : Nat} {e' : Entry} {al : Al} {tu : Tu}
    (hm : m = { u.modifyEntry i fun _ => e' with al := al, tu := tu }) (hpart : al.participation = u.al.participation)
    (hconfig : al.config = u.al.config) : LeftWith u m i e' := by
  subst hm
  exact ⟨rfl, hpart, hconfig⟩

/-- The entry that left COLLECTING, in whatever state the decision put it. -/
theorem DecidesAs.leftAs {t : State} (h : DecidesAs s u) (hnow : t.now = u.now) (e : Entry) (st : EntryState)
    (presented own : Bool) (acked : Option Micros) (tally : Tally) (send : TallySend) :
    s.LeftAs t e (u.relayStarted { u.placed e with
      state := st, presented := presented, ownAck := own, acked := acked, tally := tally, tallySend := send }) := by
  have hcategory (c : Nat) : u.category c = s.category c := by
    unfold State.category
    rw [h.map]
  rw [h.placed]
  unfold State.LeftAs State.relayStarted
  rw [hnow, h.settings, h.al, hcategory]
  rfl

/-- An entry that leaves COLLECTING while R90 has no head to take and R172 no report to send. -/
theorem leavesCollecting_finish {i : Nat} {e : Entry} (h : DecidesAs s u) (hgen : u.genAt i = s.genAt i)
    (he : u.entryAt i = some e) (hlive : e.state.name ≠ .expired)
    (hhead : u.noHeadTaken) (hreport : u.maySendReport = false) (hfeed : u.out.feed = none) :
    ∃ e', LeftWith u (u.leaveCollecting i) i e' ∧ s.LeavesCollecting (u.leaveCollecting i).finish i e e' := by
  have hdecides : u.outcomeFor (u.placed e) = s.outcomeFor (s.placed e) := by
    rw [h.placed, h.outcomeFor]
  cases hout : s.outcomeFor (s.placed e) with
  | present =>
    have hleave := State.leaveCollecting_presents he (hdecides.trans hout)
    have hwith := LeftWith.of_eq hleave rfl rfl
    obtain ⟨-, -, -, hnow, hal, -, htu⟩ := hwith.finish he hhead
    refine ⟨_, hwith, .of_presents hout (h.leftAs hnow e _ _ _ _ _ _) rfl rfl rfl rfl rfl rfl ?_ ?_⟩
    · rw [hal, hleave, ← h.al, ← hgen]
    · rw [htu (by rw [hleave]; exact hreport), hleave, ← h.tu]
      rfl
  | hold =>
    have hleave := State.leaveCollecting_holds he (hdecides.trans hout)
    have hwith := LeftWith.of_eq (al := u.al) (tu := u.tu) hleave rfl rfl
    obtain ⟨-, -, -, hnow, hal, -, htu⟩ := hwith.finish he hhead
    refine ⟨_, hwith, .of_holds hout (h.leftAs hnow e _ _ _ _ _ _) rfl rfl rfl rfl rfl rfl ?_ ?_⟩
    · rw [hal, hleave, ← h.al]
      rfl
    · rw [htu (by rw [hleave]; exact hreport), hleave, ← h.tu]
      rfl
  | acknowledge =>
    by_cases hsame : addTag e.tally u.settings.tag = e.tally
    · have hleave := State.leaveCollecting_acknowledges he (hdecides.trans hout) hsame
      have hwith := LeftWith.of_eq (al := u.al) (tu := u.tu) hleave rfl rfl
      obtain ⟨-, -, -, hnow, hal, -, htu⟩ := hwith.finish he hhead
      refine ⟨_, hwith, .of_acknowledges hout (h.leftAs hnow e _ _ _ _ _ _) rfl rfl rfl ?_ ?_ ?_ (fun _ => ⟨rfl, ?_⟩)
        fun hne => absurd rfl hne⟩
      · rw [hnow]
        rfl
      · rw [← h.settings, hsame]
        rfl
      · rw [hal, hleave, ← h.al]
        rfl
      · rw [htu (by rw [hleave]; exact hreport), hleave, ← h.tu]
        rfl
    · have hleave := State.leaveCollecting_tags he (hdecides.trans hout) hsame
      have htagged := u.tagged_acknowledgedAt (e := u.placed e) hlive
      rw [htagged] at hleave
      have hwith := LeftWith.of_eq (al := u.al) hleave rfl rfl
      obtain ⟨-, -, -, hnow, hal, -, -⟩ := hwith.finish he hhead
      refine ⟨_, hwith, .of_acknowledges hout (h.leftAs hnow e _ _ _ _ _ _) rfl rfl rfl ?_ ?_ ?_
        (fun heq => absurd heq hsame) fun _ => ⟨?_, ?_⟩⟩
      · rw [hnow]
        rfl
      · rw [← h.settings]
        rfl
      · rw [hal, hleave, ← h.al]
        rfl
      · rw [hnow, ← State.dirtied_congr h.al]
        rfl
      · refine State.reportTested_finish ?_ ?_ ?_
        · rw [← State.reportJoins_congr (congrArg Al.config h.al) h.tu hgen, hleave, ← h.tu]
          rfl
        · rw [hleave, ← h.fp]
          rfl
        · rw [hleave]
          exact hfeed

end

/-! ### The collect limit (R36) -/

theorem State.collectDue_of_collecting {s : State} {i : Nat} {e : Entry} {limit : Micros} (he : s.entryAt i = some e)
    (hstate : e.state = .collecting limit) : s.collectDue i = some limit := by
  unfold State.collectDue
  rw [he]
  dsimp only
  rw [hstate]

theorem State.collectDue_eq_none {s : State} {i : Nat} (h : ∀ e, s.entryAt i = some e → e.state.name ≠ .collecting) :
    s.collectDue i = none := by
  unfold State.collectDue
  split
  · next e he =>
    split
    · next hstate =>
      refine absurd ?_ (h e he)
      rw [hstate]
      rfl
    · rfl
  · rfl

theorem State.freshUntil_of_freshAt {s : State} {t : Micros} (h : s.freshAt t) : s.freshUntil t :=
  fun p hp => Nat.le_of_lt (h p hp)

/-- The part as the entry of slot `i` leaves COLLECTING at its limit: bound slots discarded, COLLECTING texts ABSENT,
and the entry marked for it (R36). -/
def State.abandoned (s : State) (i : Nat) (e : Entry) : State :=
  (s.abandonTexts i e.id).modifyEntry i fun e => { e with partialMark := true }

/-- Settles O55: texts given up, and the entry leaves COLLECTING. -/
theorem collectLimitCompletes : Obligations.CollectLimitCompletes := by
  intro s i h
  refine ⟨fun hnone => timer_idle (due := fun s => s.collectDue i) h (State.collectDue_eq_none (s := s.begin) hnone),
    fun e limit he hstate hfresh => ?_⟩
  have hdue : s.begin.collectDue i = some limit := State.collectDue_of_collecting (s := s.begin) he hstate
  generalize hx : s.begin.advance limit = x
  have hevent : exec (.collectLimit i) s = .next ((x.abandoned i e).leaveCollecting i).finish := by
    show execCollectLimit i s = _
    unfold execCollectLimit
    have hstale : x.dropStale = x := State.dropStale_of_freshAt (by subst hx; exact hfresh)
    have hxe : x.entryAt i = some e := by subst hx; exact he
    rw [timer_fires (due := fun s => s.collectDue i) _ hdue (State.freshUntil_of_freshAt hfresh), hx]
    unfold State.forEntry
    rw [hstale, hxe]
    rfl
  have hdecides : DecidesAs s (x.abandoned i e) := by
    subst hx
    exact ⟨rfl, rfl, rfl, rfl, rfl, rfl⟩
  have hentry (k : Nat) : (x.abandoned i e).entryAt k =
      if i = k then (s.entryAt k).map fun e => { e.dropCollecting with partialMark := true } else s.entryAt k := by
    unfold State.abandoned State.abandonTexts
    rw [State.modifyEntry_modifyEntry, State.entryAt_modifyEntry]
    subst hx
    rfl
  have hgen (k : Nat) : (x.abandoned i e).genAt k = s.genAt k := by
    unfold State.abandoned State.abandonTexts
    rw [State.modifyEntry_modifyEntry, State.genAt_modifyEntry]
    subst hx
    rfl
  have hslot (n : Nat) : (x.abandoned i e).slotAt n = (s.slotAt n).filter fun sl => !(sl.bound && sl.key.id == e.id) := by
    subst hx
    exact State.slotAt_discardSlots (s.begin.advance limit) _ n
  have hmade : (x.abandoned i e).entryAt i = some { e.dropCollecting with partialMark := true } := by
    rw [hentry, if_pos rfl, he]
    rfl
  have hhead : (x.abandoned i e).noHeadTaken := by
    subst hx
    exact State.noHeadTaken_congr (s := s) rfl rfl (State.noHeadTaken_of_settled h)
  have hreport : (x.abandoned i e).maySendReport = false := by
    subst hx
    exact (State.maySendReport_congr (s := s) rfl rfl).trans (State.settled_iff.1 h).2.1
  obtain ⟨e', hwith, hleaves⟩ := leavesCollecting_finish hdecides (hgen i) hmade
    (by show e.state.name ≠ _; rw [hstate]; nofun) hhead hreport (by subst hx; rfl)
  obtain ⟨hsame, hothers, hgens, hnow, -, hsa, -⟩ := hwith.finish hmade hhead
  have hatc := hwith.finish_atc hhead
  generalize ((x.abandoned i e).leaveCollecting i).finish = t at *
  have htslot (n : Nat) : t.slotAt n = (s.slotAt n).filter fun sl => !(sl.bound && sl.key.id == e.id) := by
    rw [← hslot]
    unfold State.slotAt
    rw [hsa]
  refine ⟨t, e', hevent, ?_, hsame, (hgens i).trans (hgen i), hleaves, fun n sl hsl => ?_, fun n sl hsl hkeep => ?_,
    fun k hk => ⟨?_, (hgens k).trans (hgen k)⟩, ?_, ?_, ?_⟩
  · rw [hnow]
    subst hx
    rfl
  · rw [htslot, Option.filter_eq_some_iff] at hsl
    refine ⟨hsl.1, fun hboth => ?_⟩
    simp [hboth] at hsl
  · rw [htslot, Option.filter_eq_some_iff]
    refine ⟨hsl, ?_⟩
    simpa [imp_iff_not_or] using hkeep
  · rw [hothers k hk, hentry, if_neg (Ne.symm hk)]
  · rw [hatc]
    exact hdecides.position
  · rw [hatc]
    exact hdecides.optIn
  · rw [hatc]
    exact hdecides.map

end Sys2Proof.Machine
end

section
/-! Endings for all the jobs of an identity (R89, R100), and what R90 leaves of an entry with no job queued. -/

namespace Sys2Proof.Machine

/-! ### Endings by kind (R100) -/

/-- An ending touches the send record of the identity's entry at most, as the report of the ended job does. -/
theorem State.endJob_of_slotOf {s : State} {id : Identity} {i : Nat} (kind : JobKind) (hi : s.slotOf id = some i) :
    ∃ f : Entry → Entry,
      (f = (fun e => e) ∨ ∃ job : Job, job.kind = kind ∧ f = endedUnder s.al.participation job)
        ∧ s.endJob id kind = (s.withSlc (s.slc.ending s.now id kind)).modifyEntry i f := by
  have hnone {t : State} (ht : t.atc.table = s.atc.table) : t.modifyEntry i (fun e => e) = t :=
    State.modifyEntry_self fun _ _ => rfl
  rw [← State.endJob_slc]
  unfold State.endJob
  dsimp only
  split
  · next c hc =>
    split
    · next hnamed =>
      unfold State.endCurrent
      split
      · exact ⟨_, .inl rfl, (hnone (by rfl)).symm⟩
      · have hid : c.job.id = id := by
          unfold Job.named at hnamed
          simp only [Bool.and_eq_true, beq_iff_eq] at hnamed
          exact hnamed.1
        have hkind : c.job.kind = kind := by
          unfold Job.named at hnamed
          simp only [Bool.and_eq_true, beq_iff_eq] at hnamed
          exact hnamed.2
        refine ⟨endedUnder s.al.participation c.job, .inr ⟨c.job, hkind, rfl⟩, ?_⟩
        have hempty : (s.removeQueued id kind).emptyStage = s.withSlc (s.removeQueued id kind).emptyStage.slc :=
          State.emptyStage_eq _
        generalize (s.removeQueued id kind).emptyStage = v at hempty
        have hv : v.slotOf c.job.id = some i := by
          rw [hempty, hid]
          exact hi
        rw [State.reportEnded_eq_modifyNamed, State.modifyNamed, hv, hempty]
        rfl
    · exact ⟨_, .inl rfl, (hnone (by rfl)).symm⟩
  · exact ⟨_, .inl rfl, (hnone (by rfl)).symm⟩

/-- A report of an ended job changes nothing of a record that is not under way. -/
theorem endedUnder_of_idle {part : Participation} {job : Job} {e : Entry} (hrelay : e.relay.state ≠ .sending)
    (htally : e.tallySend.state = .idle) : endedUnder part job e = e := by
  unfold endedUnder
  split
  · exact if_neg fun h => hrelay h.2.2
  · exact if_neg (by rw [htally]; rintro (h | h | h) <;> cases h)

/-! ### Endings of both kinds (R100) -/

/-- The Sidelink Controller after an ending at `now` for all jobs of an identity. -/
def Slc.endingAll (slc : Slc) (now : Micros) (id : Identity) : Slc :=
  let x : Slc := { slc with queue := slc.queue.filter fun j => j.id ≠ id }
  match slc.current with
  | some c =>
    if c.job.id ≠ id then x
    else if slc.medium.onAir = true then { x with current := some { c with endMark := true } }
    else x.emptied now
  | none => x

theorem filter_named_both (q : List Job) (id : Identity) :
    (q.filter fun j => !(decide (j.id = id) && decide (j.kind = .relay))).filter
      (fun j => !(decide (j.id = id) && decide (j.kind = .tally))) = q.filter fun j => j.id ≠ id := by
  rw [List.filter_filter]
  refine List.filter_congr fun j _ => ?_
  cases j.kind <;> by_cases h : j.id = id <;> simp [h]

theorem Slc.ending_relay_tally (slc : Slc) (now : Micros) (id : Identity) :
    (slc.ending now id .relay).ending now id .tally = slc.endingAll now id := by
  have hqueue := filter_named_both slc.queue id
  unfold Slc.endingAll
  rw [← hqueue]
  cases hc : slc.current with
  | none =>
    unfold Slc.ending
    simp only [hc]
  | some c =>
    by_cases hid : c.job.id = id
    · have hrelay : c.job.kind = .relay ∨ c.job.kind = .tally := by cases c.job.kind <;> simp
      unfold Slc.ending
      by_cases hair : slc.medium.onAir = true
      · rcases hrelay with hkind | hkind <;> simp [hc, hid, hkind, hair]
      · rcases hrelay with hkind | hkind <;> simp [hc, hid, hkind, hair, Slc.emptied]
    · unfold Slc.ending
      simp only [hc, hid, false_and, if_false, ne_eq, not_false_eq_true, if_true]

/-- The statements' account of an ending for both kinds. -/
theorem State.JobsEnded.of_endingAll {s t : State} {id : Identity} (h : t.slc = s.slc.endingAll t.now id) :
    s.JobsEnded t id := by
  unfold State.JobsEnded
  dsimp only
  unfold Slc.endingAll at h
  dsimp only at h
  cases hc : s.slc.current with
  | none =>
    rw [hc] at h
    exact h
  | some c =>
    rw [hc] at h
    dsimp only at h ⊢
    split
    · next hid => rw [h, if_pos hid]
    · next hid =>
      rw [if_neg hid] at h
      split
      · next hair => rw [h, if_pos hair]
      · next hair =>
        intro hempty
        rw [h, if_neg hair]

/-! ### An entry with no job queued (R90) -/

/-- Neither record of the entry waits for its job in the send queue. -/
def Entry.unqueued (e : Entry) : Prop := e.relay.state ≠ .queued ∧ e.tallySend.state ≠ .queued

theorem stagedBy_of_unqueued {e : Entry} (h : e.unqueued) (job : Job) : stagedBy job e = e := by
  unfold stagedBy
  split
  · exact if_neg fun hq => h.1 hq.2
  · exact if_neg h.2

/-- An entry after its job was given up at its staging (R91, R133). -/
def givenUpBy (job : Job) (e : Entry) : Entry :=
  match job.kind with
  | .relay =>
    if job.update = some e.relay.update ∧ e.relay.state = .queued then
      { e with relay := { e.relay with state := .done } }
    else e
  | .tally =>
    if e.tallySend.state = .queued then { e with tallySend := { e.tallySend with state := .idle } } else e

theorem givenUpBy_of_unqueued {e : Entry} (h : e.unqueued) (job : Job) : givenUpBy job e = e := by
  unfold givenUpBy
  split
  · exact if_neg fun hq => h.1 hq.2
  · exact if_neg h.2

theorem State.giveUpAtStaging_eq (s : State) (job : Job) : s.giveUpAtStaging job = s.modifyNamed job (givenUpBy job) := by
  unfold State.giveUpAtStaging
  cases hkind : job.kind with
  | relay =>
    dsimp only
    rw [State.relayReport_eq_modifyNamed]
    refine State.modifyNamed_congr fun e => ?_
    simp only [givenUpBy, hkind, beq_iff_eq]
  | tally =>
    dsimp only
    rw [State.tallyReport_eq_modifyNamed]
    refine State.modifyNamed_congr fun e => ?_
    simp only [givenUpBy, hkind, beq_iff_eq]

theorem State.modifyNamed_entryAt_of_fixed {s : State} {i : Nat} {e : Entry} {job : Job} {f : Entry → Entry}
    (he : s.entryAt i = some e) (hf : f e = e) : (s.modifyNamed job f).entryAt i = some e := by
  unfold State.modifyNamed
  split
  · next k _ =>
    rw [State.entryAt_modifyEntry]
    split
    · rw [he, Option.map_some, hf]
    · exact he
  · exact he

theorem State.enterDefer_entryAt (s : State) (i : Nat) : s.enterDefer.entryAt i = s.entryAt i := by
  unfold State.enterDefer State.beginContention State.beginSlot
  dsimp only
  split
  · split <;> rfl
  · split
    · unfold State.enterJammed
      rw [State.queueNotice_eq]
      rfl
    · rfl

/-- A head that is taken changes no entry without a queued record. -/
theorem State.takeFrom_entryAt {i : Nat} {e : Entry} (h : e.unqueued) :
    ∀ (q : List Job) {s : State}, s.entryAt i = some e → (s.takeFrom q).entryAt i = some e
  | [], _, he => he
  | job :: rest, s, he => by
    unfold State.takeFrom
    split
    · rw [State.giveUpAtStaging_eq]
      exact State.takeFrom_entryAt h rest (State.modifyNamed_entryAt_of_fixed he (givenUpBy_of_unqueued h job))
    · rw [State.stageFirst_eq]
      dsimp only
      split
      · rw [State.enterDefer_entryAt]
        exact State.modifyNamed_entryAt_of_fixed he (stagedBy_of_unqueued h job)
      · exact State.modifyNamed_entryAt_of_fixed he (stagedBy_of_unqueued h job)

theorem State.finish_entryAt (m : State) (i : Nat) : m.finish.entryAt i = m.takeHead.entryAt i := by
  unfold State.entryAt State.finish
  rw [State.settlePower_atc, State.sendReport_atc]

theorem State.finish_entryAt_of_unqueued {m : State} {i : Nat} {e : Entry} (he : m.entryAt i = some e)
    (h : e.unqueued) : m.finish.entryAt i = some e := by
  rw [State.finish_entryAt]
  unfold State.takeHead
  split
  · exact State.takeFrom_entryAt h _ he
  · exact he

theorem State.finish_genAt (m : State) (i : Nat) : m.finish.genAt i = m.genAt i := by
  rw [← (sidelinkOnly_takeHead m).genAt i]
  unfold State.genAt State.finish
  rw [State.settlePower_atc, State.sendReport_atc]

theorem State.finish_sa (m : State) : m.finish.sa = m.sa := by
  unfold State.finish
  rw [State.settlePower_sa, State.sendReport_sa, (sidelinkOnly_takeHead m).sa]

theorem State.finish_now (m : State) : m.finish.now = m.now := by
  unfold State.finish
  rw [State.settlePower_now, State.sendReport_now, (sidelinkOnly_takeHead m).now]

/-- Where R90 takes no head, the end of the event leaves the table and the Application Link. -/
theorem State.finish_atc_of_noHeadTaken {m : State} (h : m.noHeadTaken) : m.finish.atc = m.atc := by
  unfold State.finish
  rw [State.settlePower_atc, State.sendReport_atc, State.takeHead_of_noHeadTaken h]

theorem State.finish_al_of_noHeadTaken {m : State} (h : m.noHeadTaken) : m.finish.al = m.al := by
  unfold State.finish
  rw [State.settlePower_al, State.sendReport_al, State.takeHead_of_noHeadTaken h]

theorem State.finish_slc_of_noHeadTaken {m : State} (hk : m.keepsPower) (h : m.noHeadTaken) : m.finish.slc = m.slc := by
  rw [State.finish_of_keepsPower hk, State.sendReport_slc, State.takeHead_of_noHeadTaken h]

end Sys2Proof.Machine
end

section
/-! Expiry of an entry and the end of its linger (R44, R46, R100, R135, R142). -/

namespace Sys2Proof.Machine

/-! ### The expired entry (R44) -/

/-- The entry with its waits cancelled and its jobs' records ended (R135, R142). -/
def Entry.stopped (e : Entry) : Entry :=
  { e with
    relay := { e.relay with
      state :=
        match e.relay.state with
        | .waiting _ | .queued | .staged | .sending => .none
        | x => x }
    tallySend := { e.tallySend with state := .idle, resend := false } }

/-- The entry as it enters EXPIRED at `now` (R44). -/
def Entry.expiredAt (e : Entry) (now : Micros) : Entry :=
  { (if e.state.name = .collecting then e.dropCollecting else e).stopped with state := .expired (now + 120000000) }

theorem Entry.stopped_unqueued (e : Entry) : e.stopped.relay.state ≠ .sending ∧ e.stopped.unqueued := by
  unfold Entry.unqueued Entry.stopped
  dsimp only
  refine ⟨?_, ?_, nofun⟩
  · cases h : e.relay.state <;> simp
  · cases h : e.relay.state <;> simp

/-- The slots that are left when the entry expires (R44). -/
def State.slotsAfterExpiry (s : State) (e : Entry) : List (Option Slot) :=
  if e.state.name = .collecting then s.sa.slots.map fun o => o.filter fun sl => !(sl.bound && sl.key.id == e.id)
  else s.sa.slots

/-- The jobs' endings find the records ended (R100). -/
theorem State.endJob_of_stopped {s : State} {i : Nat} {e : Entry} {id : Identity} (kind : JobKind)
    (hi : s.slotOf id = some i) (he : s.entryAt i = some e.stopped) :
    s.endJob id kind = s.withSlc (s.slc.ending s.now id kind) := by
  obtain ⟨f, hf, hend⟩ := State.endJob_of_slotOf kind hi
  rw [hend]
  refine State.modifyEntry_self fun x hx => ?_
  have hx' : x = e.stopped := Option.some.inj (hx.symm.trans he)
  rcases hf with rfl | ⟨job, -, rfl⟩
  · rfl
  · rw [hx']
    exact endedUnder_of_idle e.stopped_unqueued.1 rfl

theorem State.stopSends_eq {s : State} {i : Nat} {e : Entry} {id : Identity} (he : s.entryAt i = some e)
    (hi : s.slotOf id = some i) :
    s.stopSends i id = State.modifyEntry { s with slc := s.slc.endingAll s.now id } i fun _ => e.stopped := by
  have hrelay : (if e.relay.state.unfinished = true ∨ e.relay.state = .sending then RelayState.none else e.relay.state) =
      e.stopped.relay.state := by
    unfold Entry.stopped RelayState.unfinished
    cases h : e.relay.state <;> simp
  have hslot := State.slotOf_modifyEntry s i (fun e => { e with
      relay := { e.relay with
        state := if e.relay.state.unfinished ∨ e.relay.state = .sending then .none else e.relay.state }
      tallySend := { e.tallySend with state := .idle, resend := false } }) id fun _ => rfl
  unfold State.stopSends
  dsimp only
  rw [State.modifyEntry_of_entryAt he] at hslot ⊢
  rw [hrelay] at hslot ⊢
  have hstopped : (s.modifyEntry i fun _ => e.stopped).entryAt i = some e.stopped := State.entryAt_modifyEntry_same he _
  have hslot' : (s.modifyEntry i fun _ => e.stopped).slotOf id = some i := hslot.trans hi
  show ((s.modifyEntry i fun _ => e.stopped).endJob id .relay).endJob id .tally = _
  have htally (x : Slc) : State.endJob ((s.modifyEntry i fun _ => e.stopped).withSlc x) id .tally =
      (s.modifyEntry i fun _ => e.stopped).withSlc (x.ending s.now id .tally) :=
    State.endJob_of_stopped (s := (s.modifyEntry i fun _ => e.stopped).withSlc x) .tally hslot' hstopped
  rw [State.endJob_of_stopped .relay hslot' hstopped, htally, ← Slc.ending_relay_tally]
  rfl

theorem State.slotOf_modifyEntry_const {s : State} {i : Nat} {e e' : Entry} (he : s.entryAt i = some e)
    (hid : e'.id = e.id) (id : Identity) : (s.modifyEntry i fun _ => e').slotOf id = s.slotOf id := by
  have hkeeps : (s.modifyEntry i fun _ => e') = s.modifyEntry i fun x => { e' with id := x.id } :=
    State.modifyEntry_congr fun x hx => by rw [Option.some.inj (hx.symm.trans he), ← hid]
  rw [hkeeps]
  exact State.slotOf_modifyEntry s i _ id fun _ => rfl

/-- The texts given up as an entry expires (R44). -/
theorem State.abandoned_eq {x : State} {i : Nat} {e : Entry} (he : x.entryAt i = some e) :
    (if e.collecting then x.abandonTexts i e.id else x) =
      (x.withSlots (x.slotsAfterExpiry e)).modifyEntry i fun _ =>
        if e.state.name = .collecting then e.dropCollecting else e := by
  unfold State.slotsAfterExpiry
  by_cases hc : e.state.name = .collecting
  · rw [if_pos hc, if_pos hc, if_pos (Entry.collecting_iff_name.2 hc)]
    exact State.modifyEntry_of_entryAt (s := x.discardSlots fun sl => sl.bound && sl.key.id == e.id) he _
  · rw [if_neg hc, if_neg hc, if_neg (mt Entry.collecting_iff_name.1 hc), State.modifyEntry_self]
    · rfl
    · exact fun f hf => Option.some.inj (he.symm.trans hf)

/-- What the expiry of an entry does before its event ends (R44, R171). -/
theorem State.expireEntry_eq {x : State} {i : Nat} {e : Entry} (he : x.entryAt i = some e) (hi : x.slotOf e.id = some i) :
    x.expireEntry i e =
      { x.modifyEntry i fun _ => e.expiredAt x.now with
        slc := x.slc.endingAll x.now e.id
        sa := { x.sa with slots := x.slotsAfterExpiry e }
        al :=
          if e.presented = true ∧ e.state.name ≠ .cancelled then x.al.queued (.expired ⟨i, x.genAt i⟩) else x.al
        tu := { x.tu with reportQueue := x.reportJoins i (e.expiredAt x.now) } } := by
  have hname : e.state ≠ .cancelled ↔ e.state.name ≠ .cancelled := by
    cases e.state <;> simp [EntryState.name]
  generalize he0 : (if e.state.name = .collecting then e.dropCollecting else e) = e0
  have hid : e0.id = e.id := by
    subst he0
    split <;> rfl
  have hexpired : e.expiredAt x.now = { e0.stopped with state := .expired (x.now + 120000000) } := by
    rw [Entry.expiredAt, he0]
  have hxe : (x.withSlots (x.slotsAfterExpiry e)).entryAt i = some e := he
  have hve := State.entryAt_modifyEntry_same hxe fun _ => e0
  have hvi := (State.slotOf_modifyEntry_const hxe hid e.id).trans hi
  generalize hy : ({ x.withSlots (x.slotsAfterExpiry e) with slc := x.slc.endingAll x.now e.id } : State) = y
  have hstop : ((x.withSlots (x.slotsAfterExpiry e)).modifyEntry i fun _ => e0).stopSends i e.id =
      y.modifyEntry i fun _ => e0.stopped := by
    rw [State.stopSends_eq hve hvi, ← hy]
    exact State.modifyEntry_modifyEntry { x.withSlots (x.slotsAfterExpiry e) with slc := x.slc.endingAll x.now e.id } i
      (fun _ => e0) fun _ => e0.stopped
  unfold State.expireEntry
  dsimp only
  rw [State.abandoned_eq he, he0, hstop, State.modifyEntry_modifyEntry]
  have hye : y.entryAt i = some e := by subst hy; exact he
  have hnow : (y.modifyEntry i fun _ => e0.stopped).now = x.now := by subst hy; rfl
  rw [hnow, seconds_eq, ← hexpired]
  generalize hw : (y.modifyEntry i fun _ => e.expiredAt x.now) = w
  have hwe : w.entryAt i = some (e.expiredAt x.now) := by
    subst hw
    exact State.entryAt_modifyEntry_same hye _
  have hwgen : w.genAt i = x.genAt i := by
    subst hw
    rw [State.genAt_modifyEntry]
    subst hy
    rfl
  have hnotice : (if e.presented = true ∧ e.state ≠ .cancelled then w.queueNotice (.expired (w.handleAt i)) else w) =
      { w with al := if e.presented = true ∧ e.state.name ≠ .cancelled then x.al.queued (.expired ⟨i, x.genAt i⟩)
        else x.al } := by
    have hal : w.al = x.al := by
      subst hw hy
      rfl
    unfold State.handleAt
    rw [State.queueNotice_eq, hal, hwgen]
    by_cases hc : e.presented = true ∧ e.state ≠ .cancelled
    · rw [if_pos hc, if_pos ⟨hc.1, hname.1 hc.2⟩]
    · rw [if_neg hc, if_neg fun h => hc ⟨h.1, hname.2 h.2⟩, ← hal]
  rw [hnotice]
  generalize hal : (if e.presented = true ∧ e.state.name ≠ .cancelled then x.al.queued (.expired ⟨i, x.genAt i⟩)
    else x.al) = al
  have hconfig : al.config = x.al.config := by
    subst hal
    split <;> rfl
  have hjoins : State.reportJoins { w with al := al } i (e.expiredAt x.now) = x.reportJoins i (e.expiredAt x.now) :=
    State.reportJoins_congr hconfig (by subst hw hy; rfl) hwgen
  have hwe' : State.entryAt { w with al := al } i = some (e.expiredAt x.now) := hwe
  rw [State.testReportDue_eq hwe', hjoins]
  subst hw hy
  rfl

/-! ### The events -/

theorem State.lifetimeDue_of_live {s : State} {i : Nat} {e : Entry} (he : s.entryAt i = some e)
    (hlive : e.state.name ≠ .expired) : s.lifetimeDue i = some e.lifetimeEnd := by
  unfold State.lifetimeDue
  rw [he]
  exact if_neg (mt Entry.isExpired_iff.1 hlive)

theorem State.lifetimeDue_eq_none {s : State} {i : Nat} (h : ∀ e, s.entryAt i = some e → e.state.name = .expired) :
    s.lifetimeDue i = none := by
  unfold State.lifetimeDue
  split
  · next e he => exact if_pos (Entry.isExpired_iff.2 (h e he))
  · rfl

theorem State.lingerDue_of_expired {s : State} {i : Nat} {e : Entry} {l : Micros} (he : s.entryAt i = some e)
    (hstate : e.state = .expired l) : s.lingerDue i = some l := by
  unfold State.lingerDue
  rw [he]
  dsimp only
  rw [hstate]

theorem State.lingerDue_eq_none {s : State} {i : Nat} (h : ∀ e, s.entryAt i = some e → e.state.name ≠ .expired) :
    s.lingerDue i = none := by
  unfold State.lingerDue
  split
  · next e he =>
    split
    · next hstate =>
      refine absurd ?_ (h e he)
      rw [hstate]
      rfl
    · rfl
  · rfl

/-- After the endings for an identity R90 takes no head, unless one of another identity follows a stage that was
emptied. -/
theorem State.noHeadTaken_of_endingAll {s m : State} {now : Micros} {id : Identity} (h : s.noHeadTaken)
    (hslc : m.slc = s.slc.endingAll now id) (hpart : m.al.participation = s.al.participation)
    (hfollows : s.noHeadFollows id) : m.noHeadTaken := by
  unfold Slc.endingAll at hslc
  dsimp only at hslc
  unfold State.noHeadTaken at h ⊢
  rw [hslc, hpart]
  cases hc : s.slc.current with
  | none =>
    dsimp only
    rw [hc] at h
    refine h.imp (fun hsome => by cases hsome) fun h => h.imp_right fun h => h.imp_left fun hqueue => ?_
    rw [hqueue]
    rfl
  | some c =>
    dsimp only
    by_cases hid : c.job.id = id
    · rw [if_neg (not_not.2 hid)]
      by_cases hair : s.slc.medium.onAir = true
      · rw [if_pos hair]
        exact .inl rfl
      · rw [if_neg hair]
        refine .inr (.inr (.inl (hfollows.resolve_right fun hother => ?_)))
        exact (hother c hc).elim (fun hne => hne hid) hair
    · rw [if_pos hid]
      exact .inl rfl

/-- The Sidelink Controller at the end of an event that ended all jobs of an identity (R100). -/
theorem State.jobsEnded_finish {s m : State} {id : Identity} (h : s.noHeadTaken)
    (hslc : m.slc = s.slc.endingAll m.now id) (hpart : m.al.participation = s.al.participation) (hk : m.keepsPower) :
    s.JobsEnded m.finish id := by
  by_cases hfollows : s.noHeadFollows id
  · refine .of_endingAll ?_
    rw [State.finish_slc_of_noHeadTaken hk (State.noHeadTaken_of_endingAll h hslc hpart hfollows), State.finish_now, hslc]
  · unfold State.noHeadFollows at hfollows
    push Not at hfollows
    obtain ⟨hqueue, c, hc, hid, hair⟩ := hfollows
    unfold State.JobsEnded
    dsimp only
    rw [hc]
    dsimp only
    rw [if_neg (not_not.2 hid), if_neg hair]
    exact fun hempty => absurd hempty hqueue

theorem Entry.expiredAt_eq (e : Entry) (now : Micros) : e.expiredAt now = { e with
    state := .expired (now + 120000000)
    texts :=
      if e.state.name = .collecting then
        e.texts.map fun x => if x.state = .collecting then { x with state := .absent } else x
      else e.texts
    tallySend := { e.tallySend with state := .idle, resend := false }
    relay := { e.relay with
      state :=
        match e.relay.state with
        | .waiting _ | .queued | .staged | .sending => .none
        | x => x } } := by
  unfold Entry.expiredAt
  by_cases hc : e.state.name = .collecting
  · rw [if_pos hc, if_pos hc]
    rfl
  · rw [if_neg hc, if_neg hc]
    rfl

theorem Entry.expiredAt_unqueued (e : Entry) (now : Micros) : (e.expiredAt now).unqueued :=
  (if e.state.name = .collecting then e.dropCollecting else e).stopped_unqueued.2

theorem filter_bne (q : List Nat) (i : Nat) : q.filter (· != i) = q.filter fun k => k ≠ i :=
  List.filter_congr fun k _ => by simp [bne, Bool.beq_eq_decide_eq]

theorem State.finish_tu_of_closed {m : State} (h : m.maySendReport = false) : m.finish.tu = m.tu := by
  have honly := sidelinkOnly_takeHead m
  unfold State.finish
  rw [State.settlePower_tu, State.sendReport, State.maySendReport_congr honly.fp honly.tu, h]
  exact honly.tu

/-- Settles O56: the entry expires, and leaves the table at the end of its linger. -/
theorem lifetimeAndLingerComplete : Obligations.LifetimeAndLingerComplete := by
  intro s i h
  refine ⟨fun hnone => timer_idle (due := fun s => s.lifetimeDue i) h (State.lifetimeDue_eq_none (s := s.begin) hnone),
    fun hnone => timer_idle (due := fun s => s.lingerDue i) h (State.lingerDue_eq_none (s := s.begin) hnone),
    fun e he hlive hi hfresh => ?_, fun e l he hstate hfresh => ?_⟩
  · have hdue : s.begin.lifetimeDue i = some e.lifetimeEnd := State.lifetimeDue_of_live (s := s.begin) he hlive
    generalize hx : s.begin.advance e.lifetimeEnd = x
    have hnow : x.now = max s.now e.lifetimeEnd := by subst hx; rfl
    have hxe : x.entryAt i = some e := by subst hx; exact he
    have hxi : x.slotOf e.id = some i := by subst hx; exact hi
    have hevent : exec (.lifetimeExpiry i) s = .next (x.expireEntry i e).finish := by
      show execLifetimeExpiry i s = _
      unfold execLifetimeExpiry
      rw [timer_fires (due := fun s => s.lifetimeDue i) _ hdue hfresh, hx]
      unfold State.forEntry
      rw [hxe]
    have hm := State.expireEntry_eq hxe hxi
    rw [hnow] at hm
    generalize x.expireEntry i e = m at hm hevent
    have hme : m.entryAt i = some (e.expiredAt (max s.now e.lifetimeEnd)) := by
      rw [hm]
      exact State.entryAt_modifyEntry_same hxe _
    have hhead : s.noHeadTaken := State.noHeadTaken_of_settled h
    have hmslc : m.slc = s.slc.endingAll m.now e.id := by
      rw [hm, ← hx]
      rfl
    have hpart : m.al.participation = s.al.participation := by
      rw [hm, ← hx]
      dsimp only
      split <;> rfl
    have hstate := e.expiredAt_eq (max s.now e.lifetimeEnd)
    intro collecting e'
    have he' : e' = e.expiredAt (max s.now e.lifetimeEnd) := hstate.symm
    rw [he']
    refine ⟨m.finish, hevent, ?_, State.finish_entryAt_of_unqueued hme (e.expiredAt_unqueued _), fun k => ?_, ?_,
      fun hawake hhold => ?_, ?_, fun hfollows => ⟨fun k hk => ?_, ?_⟩⟩
    · rw [State.finish_now, hm]
      exact hnow
    · rw [State.finish_genAt, hm]
      refine (State.genAt_modifyEntry x i k _).trans ?_
      subst hx
      rfl
    · rw [State.finish_sa, hm]
      subst hx
      rfl
    · refine State.jobsEnded_finish hhead hmslc hpart (.inl ?_)
      rw [hm, ← hx]
      exact ⟨hawake, hhold⟩
    · refine State.reportTested_finish ?_ ?_ ?_
      · rw [hm, ← hx]
        rfl
      · rw [hm, ← hx]
        rfl
      · rw [hm, ← hx]
        rfl
    · rw [State.entryAt, State.finish_atc_of_noHeadTaken (State.noHeadTaken_of_endingAll hhead hmslc hpart hfollows), hm]
      refine (State.entryAt_modifyEntry_ne hk _).trans ?_
      subst hx
      rfl
    · rw [State.finish_al_of_noHeadTaken (State.noHeadTaken_of_endingAll hhead hmslc hpart hfollows), hm, ← hx]
      rfl
  · have hdue : s.begin.lingerDue i = some l := State.lingerDue_of_expired (s := s.begin) he hstate
    generalize hx : s.begin.advance l = x
    have hevent : exec (.lingerExpiry i) s = .next (x.removeEntry i).finish := by
      show execLingerExpiry i s = _
      unfold execLingerExpiry
      rw [timer_fires (due := fun s => s.lingerDue i) _ hdue hfresh, hx]
    have hhead : (x.removeEntry i).noHeadTaken := by
      subst hx
      exact State.noHeadTaken_congr (s := s) rfl rfl (State.noHeadTaken_of_settled h)
    have hentry (k : Nat) : (x.removeEntry i).finish.entryAt k = if i = k then none else s.entryAt k := by
      rw [State.entryAt, State.finish_atc_of_noHeadTaken hhead]
      refine (State.removeEntry_entryAt x i k).trans ?_
      subst hx
      rfl
    have hgen (k : Nat) : (x.removeEntry i).finish.genAt k = s.genAt k := by
      rw [State.finish_genAt, State.removeEntry_genAt]
      subst hx
      rfl
    refine ⟨_, hevent, ?_, ?_, hgen i, fun k hk => ⟨?_, hgen k⟩, ?_, ?_, ?_⟩
    · rw [State.finish_now]
      subst hx
      rfl
    · rw [hentry, if_pos rfl]
    · rw [hentry, if_neg (Ne.symm hk)]
    · have hclosed : (x.removeEntry i).maySendReport = false := by
        refine Bool.eq_false_iff.2 fun hmay => ?_
        obtain ⟨hqueue, hopen⟩ := State.maySendReport_iff.1 hmay
        have hsend : s.maySendReport = true := by
          subst hx
          exact State.maySendReport_iff.2 ⟨fun hnil => hqueue (congrArg (List.filter _) hnil), hopen⟩
        rw [(State.settled_iff.1 h).2.1] at hsend
        cases hsend
      rw [State.finish_tu_of_closed hclosed]
      subst hx
      exact congrArg (fun q => (⟨q, s.tu.outstanding⟩ : Tu)) (filter_bne s.tu.reportQueue i)
    · rw [State.finish_al_of_noHeadTaken hhead]
      subst hx
      rfl
    · rw [State.finish_sa]
      subst hx
      rfl

end Sys2Proof.Machine
end

section
/-! A job placed in the send queue, and what the end of the event makes of it (R86 to R92, R106, R132, R134, R140). -/

namespace Sys2Proof.Machine

/-! ### Placing (R87, R88) -/

section
variable {m : State} {job : Job}

theorem State.placeJob_joins (hnew : ∀ j ∈ m.slc.queue, j.id = job.id → j.kind ≠ job.kind)
    (hroom : m.slc.queue.length < 12) : m.placeJob job = m.withQueue (insertJob job m.slc.queue) := by
  have hnamed : m.slc.queue.any (fun j => j.named job.id job.kind) = false := by
    rw [List.any_eq_false]
    intro j hj hn
    simp only [Job.named, Bool.and_eq_true, beq_iff_eq] at hn
    exact hnew j hj hn.1 hn.2
  unfold State.placeJob
  rw [hnamed, if_neg (by nofun), if_pos hroom]

theorem State.placeJob_full (hnew : ∀ j ∈ m.slc.queue, j.id = job.id → j.kind ≠ job.kind) {kept : List Job}
    {lowest : Job} (hqueue : m.slc.queue = kept ++ [lowest]) (hfull : kept.length = 11) :
    m.placeJob job =
      if lowest.precedence < job.precedence then
        ((m.withQueue (insertJob job kept)).setSendQueueFull).reportDropped lowest
      else m.setSendQueueFull.reportDropped job := by
  have hnamed : m.slc.queue.any (fun j => j.named job.id job.kind) = false := by
    rw [List.any_eq_false]
    intro j hj hn
    simp only [Job.named, Bool.and_eq_true, beq_iff_eq] at hn
    exact hnew j hj hn.1 hn.2
  have hlength : ¬ m.slc.queue.length < 12 := by
    simp [hqueue, hfull]
  have hlast : m.slc.queue.getLast? = some lowest := by
    rw [hqueue, List.getLast?_concat]
  have hdrop : m.slc.queue.dropLast = kept := by
    rw [hqueue, List.dropLast_concat]
  unfold State.placeJob
  rw [hnamed, if_neg (by nofun), if_neg hlength, hlast, hdrop]

end

theorem State.reportDropped_eq (s : State) (job : Job) : s.reportDropped job = s.modifyNamed job (notKept job) := by
  unfold State.reportDropped
  cases hkind : job.kind with
  | relay =>
    dsimp only
    rw [State.relayReport_eq_modifyNamed]
    refine State.modifyNamed_congr fun e => ?_
    simp only [notKept, hkind, beq_iff_eq]
  | tally =>
    dsimp only
    rw [State.tallyReport_eq_modifyNamed]
    refine State.modifyNamed_congr fun e => ?_
    simp only [notKept, hkind, beq_iff_eq]

/-! ### The end of an event that leaves work (R113, R117) -/

/-- A part with work to do that is awake or warming up stays so. -/
theorem State.settlePower_of_work {t : State} (hwork : t.workless = false)
    (hpower : t.pwc.power = .awake ∨ t.pwc.warmUp.isSome = true) : t.settlePower = t := by
  unfold State.settlePower
  rw [if_neg (by simp [State.mayDoze, hwork]), if_neg (by rw [hwork]; nofun)]
  exact State.wakeCause_self hpower

/-- Such a part ends its event with R90, where there is no report to send. -/
theorem State.finish_of_work {s m : State} (h : s.settled = true) (hfp : m.fp = s.fp) (htu : m.tu = s.tu)
    (hwork : m.takeHead.workless = false) (hpower : m.pwc.power = .awake ∨ m.pwc.warmUp.isSome = true) :
    m.finish = m.takeHead := by
  have honly := sidelinkOnly_takeHead m
  have hclosed : m.takeHead.sendReport = m.takeHead := by
    refine if_neg ?_
    rw [State.maySendReport_congr (honly.fp.trans hfp) (honly.tu.trans htu), (State.settled_iff.1 h).2.1]
    nofun
  unfold State.finish
  rw [hclosed, State.settlePower_of_work hwork (by rw [honly.pwc]; exact hpower)]

theorem State.workless_of_queue {t : State} (h : t.slc.queue ≠ []) : t.workless = false := by
  obtain ⟨j, js, hq⟩ := List.exists_cons_of_ne_nil h
  unfold State.workless
  rw [hq]
  rfl

/-! ### The statements' account of a placed job -/

/-- `job` is the one that the entry `e` places at `now`: the three functions give the entry its record QUEUED, STAGED
and not kept, and `cls` is the kind class of its first burst. -/
structure Places (e : Entry) (now : Micros) (job : Job) (cls : Nat) (queued staged dropped : Entry → Entry) : Prop where
  id : job.id = e.id
  keepsId : ∀ f, (queued f).id = f.id
  staged : stagedBy job (queued e) = staged e
  dropped : notKept job (queued e) = dropped e
  frame : ∀ (s : State) (ref : FrameRef), s.buildFrame (queued e) ref = s.buildFrame e ref
  remaining : (queued e).remaining now = e.remaining now
  first : ∀ s : State, ∃ f frames, (job.frames.take 6).filterMap (s.buildFrame e) = f :: frames
    ∧ 4 - f.kind.toNat = cls

section
variable {s : State} {i : Nat} {e : Entry} {now : Micros} {job : Job} {cls : Nat} {queued staged dropped : Entry → Entry}

theorem State.finish_of_placed {m : State} (h : s.settled = true) (hfp : m.fp = s.fp) (htu : m.tu = s.tu)
    (hpwc : m.pwc = s.pwc) (hpower : s.pwc.power = .awake ∨ s.pwc.warmUp.isSome = true) (hhead : m.noHeadTaken)
    (hqueue : m.slc.queue ≠ []) : m.finish = m := by
  have htaken := State.takeHead_of_noHeadTaken hhead
  rw [State.finish_of_work h hfp htu ?_ (by rw [hpwc]; exact hpower), htaken]
  rw [htaken]
  exact State.workless_of_queue hqueue

/-- The entry's slot after its record was changed twice. -/
theorem State.modifyNamed_of_queued {x : State} {f g : Entry → Entry} (hp : Places e now job cls queued staged dropped)
    (hi : x.slotOf e.id = some i) (he : x.entryAt i = some e) (hfg : f (queued e) = g e) :
    (x.modifyEntry i queued).modifyNamed job f = x.modifyEntry i g := by
  have hslot : (x.modifyEntry i queued).slotOf job.id = some i := by
    rw [State.slotOf_modifyEntry x i queued _ hp.keepsId, hp.id]
    exact hi
  unfold State.modifyNamed
  rw [hslot]
  dsimp only
  rw [State.modifyEntry_modifyEntry]
  refine State.modifyEntry_congr fun y hy => ?_
  rw [Option.some.inj (hy.symm.trans he)]
  exact hfg

/-- A job placed behind a current job, or in DOZE, joins the queue or does not stay in it (R87, R88). -/
theorem jobPlaced_queued (hp : Places e now job cls queued staged dropped) (h : s.settled = true)
    (he : s.entryAt i = some e) (hi : s.slotOf e.id = some i)
    (hpower : s.pwc.power = .awake ∨ s.pwc.warmUp.isSome = true)
    (hnew : ∀ j ∈ s.slc.queue, j.id = job.id → j.kind ≠ job.kind)
    (hwaits : s.slc.current.isSome = true ∨ s.slc.medium = .dozeSampling) :
    let x : State := { s.begin with now := now }
    let ex : Result := .next ((x.modifyEntry i queued).placeJob job).finish
    (s.slc.queue.length < 12 →
        ∃ before after, s.slc.queue = before ++ after
          ∧ (∀ j ∈ before, job.precedence ≤ j.precedence)
          ∧ (∀ j ∈ after.head?, j.precedence < job.precedence)
          ∧ ex = .next (State.modifyEntry
              { x with slc := { s.slc with queue := before ++ job :: after } } i queued))
      ∧ (s.slc.queue.length = 12 → (∀ j ∈ s.slc.queue, job.precedence ≤ j.precedence) →
        ex = .next (x.setSendQueueFull.modifyEntry i dropped))
      ∧ ∀ kept lowest, s.slc.queue = kept ++ [lowest] → kept.length = 11 →
        lowest.precedence < job.precedence →
        ∃ before after, kept = before ++ after
          ∧ (∀ j ∈ before, job.precedence ≤ j.precedence)
          ∧ (∀ j ∈ after.head?, j.precedence < job.precedence)
          ∧ ex = .next
              (let y := (State.setSendQueueFull
                { x with slc := { s.slc with queue := before ++ job :: after } }).modifyEntry i queued
              match s.slotOf lowest.id with
              | some k => y.modifyEntry k (notKept lowest)
              | none => y) := by
  intro x ex
  have hhead {m : State} (hcurrent : m.slc.current = s.slc.current) (hmedium : m.slc.medium = s.slc.medium) :
      m.noHeadTaken := by
    unfold State.noHeadTaken
    rw [hcurrent, hmedium]
    exact hwaits.imp_right fun hdoze => .inr (.inr (.inr (.inr hdoze)))
  refine ⟨fun hroom => ?_, fun hfull hhigh => ?_, fun kept lowest hqueue hfull hlow => ?_⟩
  · obtain ⟨before, after, hsplit, hinsert, hbefore, hafter⟩ := insertJob_split job s.slc.queue
    refine ⟨before, after, hsplit, hbefore, hafter, ?_⟩
    show Host.Outcome.next _ = _
    have hinsert' : insertJob job (x.modifyEntry i queued).slc.queue = before ++ job :: after := hinsert
    rw [State.placeJob_joins (m := x.modifyEntry i queued) hnew hroom, hinsert']
    refine congrArg Host.Outcome.next ((State.finish_of_placed
      (m := (x.modifyEntry i queued).withQueue (before ++ job :: after)) h rfl rfl rfl hpower (hhead rfl rfl) ?_).trans rfl)
    show before ++ job :: after ≠ []
    simp
  · obtain ⟨kept, lowest, hqueue⟩ : ∃ kept lowest, s.slc.queue = kept ++ [lowest] := by
      rcases List.eq_nil_or_concat s.slc.queue with hnil | ⟨kept, lowest, hq⟩
      · rw [hnil] at hfull
        cases hfull
      · exact ⟨kept, lowest, by rw [hq, List.concat_eq_append]⟩
    have hkept : kept.length = 11 := by
      rw [hqueue, List.length_append] at hfull
      simpa using hfull
    have hnot : ¬ lowest.precedence < job.precedence := Nat.not_lt.2 (hhigh lowest (by rw [hqueue]; simp))
    show Host.Outcome.next _ = _
    rw [State.placeJob_full (m := x.modifyEntry i queued) hnew hqueue hkept, if_neg hnot, State.reportDropped_eq]
    have hmade : (x.modifyEntry i queued).setSendQueueFull.modifyNamed job (notKept job) =
        x.setSendQueueFull.modifyEntry i dropped :=
      State.modifyNamed_of_queued (x := x.setSendQueueFull) hp hi he hp.dropped
    rw [hmade]
    refine congrArg Host.Outcome.next (State.finish_of_placed (m := x.setSendQueueFull.modifyEntry i dropped) h rfl rfl rfl
      hpower (hhead rfl rfl) ?_)
    show s.slc.queue ≠ []
    rw [hqueue]
    simp
  · obtain ⟨before, after, hsplit, hinsert, hbefore, hafter⟩ := insertJob_split job kept
    refine ⟨before, after, hsplit, hbefore, hafter, ?_⟩
    show Host.Outcome.next _ = _
    rw [State.placeJob_full (m := x.modifyEntry i queued) hnew hqueue hfull, if_pos hlow, State.reportDropped_eq, hinsert]
    have hslot : s.slotOf lowest.id = (((x.modifyEntry i queued).withQueue (before ++ job :: after)).setSendQueueFull).slotOf
        lowest.id := (State.slotOf_modifyEntry x i queued lowest.id hp.keepsId).symm
    rw [hslot]
    refine congrArg Host.Outcome.next ((State.finish_of_placed h ?_ ?_ ?_ hpower (hhead ?_ ?_) ?_).trans rfl)
    · rw [State.modifyNamed_eq]
      rfl
    · rw [State.modifyNamed_eq]
      rfl
    · rw [State.modifyNamed_eq]
      rfl
    · rw [State.modifyNamed_eq]
      rfl
    · rw [State.modifyNamed_eq]
      rfl
    · rw [State.modifyNamed_eq]
      show before ++ job :: after ≠ []
      simp

/-- A job placed where none is current is taken at once, and its burst staged (R90 to R92, R106). -/
theorem jobPlaced_taken (hp : Places e now job cls queued staged dropped) (h : s.settled = true)
    (he : s.entryAt i = some e) (hi : s.slotOf e.id = some i)
    (hpower : s.pwc.power = .awake ∨ s.pwc.warmUp.isSome = true) (hcurrent : s.slc.current = none)
    (hstage : s.slc.stage = []) (hqueue : s.slc.queue = []) (hpart : s.al.participation = .full)
    (htime : job.kind = .relay → 60 ≤ e.remaining now) :
    let x : State := { s.begin with now := now }
    let ex : Result := .next ((x.modifyEntry i queued).placeJob job).finish
    let slc : Slc := { s.slc with
      current := some ⟨job, job.frames.drop 6, false, false⟩
      stage := x.buildBurst e.id (job.frames.take 6)
      losses := 0 }
    (s.slc.medium = .receive ∨ s.slc.medium = .jammed →
        ex = .next (State.modifyEntry { x with slc := slc } i staged))
      ∧ (∀ q, s.slc.medium = .idle → s.slc.quietSince = some q → q + 2000 ≤ now →
        let key := contentionKey s.settings.tag job.precedence cls 0
        ex = .next (State.modifyEntry
          { x with
            slc := { slc with
              medium := .contend key 1 (now + 100), busyStart := none
              quietSince := if key.getLsbD 15 then none else some q }
            out := ⟨none, none, if key.getLsbD 15 then [.markTone 1] else []⟩ } i staged))
      ∧ (s.slc.medium = .idle → (∀ q, s.slc.quietSince = some q → now < q + 2000) →
        ((∀ b, s.slc.busyStart = some b → now < b + 1000 * s.settings.holdLimit) →
            ex = .next (State.modifyEntry { x with slc := { slc with medium := .defer } } i staged))
          ∧ ∀ b, s.slc.busyStart = some b → b + 1000 * s.settings.holdLimit ≤ now →
            ex = .next ((State.modifyEntry { x with slc := { slc with medium := .jammed } } i staged).queueNotice
              .mediumJammed)) := by
  intro x ex slc
  obtain ⟨f, frames, hburst, hcls⟩ := hp.first x
  have hplaced : (x.modifyEntry i queued).placeJob job =
      State.modifyEntry { x with slc := { s.slc with queue := [job] } } i queued := by
    have hnone : (x.modifyEntry i queued).slc.queue = [] := hqueue
    rw [State.placeJob_joins (by rw [hnone]; nofun) (by rw [hnone]; decide), hnone]
    rfl
  generalize hy : ({ x with slc := { s.slc with queue := [job] } } : State) = y at hplaced
  have hye : y.entryAt i = some e := by subst hy; exact he
  have hyi : y.slotOf e.id = some i := by subst hy; exact hi
  have hslot : (y.modifyEntry i queued).slotOf job.id = some i := by
    rw [State.slotOf_modifyEntry y i queued _ hp.keepsId, hp.id]
    exact hyi
  have hstaged : slc.stage = f :: frames := by
    show x.buildBurst e.id _ = _
    unfold State.buildBurst State.entryOf
    rw [show x.slotOf e.id = some i from hi, Option.bind_some, show x.entryAt i = some e from he]
    exact hburst
  have hbuilt : (y.modifyEntry i queued).buildBurst job.id (job.frames.take 6) = f :: frames := by
    unfold State.buildBurst State.entryOf
    rw [hslot, Option.bind_some, State.entryAt_modifyEntry_same hye]
    have hframe : (y.modifyEntry i queued).buildFrame (queued e) = x.buildFrame e := by
      funext ref
      rw [hp.frame]
      subst hy
      rfl
    dsimp only
    rw [hframe]
    exact hburst
  have hlate : ¬ (job.kind = .relay ∧ ∃ k g, (y.modifyEntry i queued).slotOf job.id = some k
      ∧ (y.modifyEntry i queued).entryAt k = some g ∧ g.remaining (y.modifyEntry i queued).now < 60) := by
    rintro ⟨hkind, k, g, hk, hg, hleft⟩
    obtain rfl : i = k := Option.some.inj (hslot.symm.trans hk)
    have hg' : g = queued e := Option.some.inj (hg.symm.trans (State.entryAt_modifyEntry_same hye _))
    have hnow : (y.modifyEntry i queued).now = now := by subst hy; rfl
    rw [hg', hnow, hp.remaining] at hleft
    exact Nat.not_lt.2 (htime hkind) hleft
  have htakes (hmedium : s.slc.medium ≠ .off) (hdoze : s.slc.medium ≠ .dozeSampling) :=
    ((y.modifyEntry i queued).endsWithHead_takeHead.2 (by subst hy; exact hcurrent) (by subst hy; exact hstage)
      (by subst hy; exact hpart) (by subst hy; exact hmedium) (by subst hy; exact hdoze) job [] (by subst hy; rfl)).2
      f frames hlate hbuilt
  have hends {t : State} (ht : (.next (y.modifyEntry i queued).takeHead : Result) = .next t)
      (hsome : t.slc.current.isSome = true) : ex = .next t := by
    have ht' : (y.modifyEntry i queued).takeHead = t := Host.Outcome.next.inj ht
    show Host.Outcome.next _ = _
    rw [hplaced, State.finish_of_work h, ht']
    · subst hy
      rfl
    · subst hy
      rfl
    · rw [ht']
      exact State.workless_of_current hsome
    · subst hy
      exact hpower
  have hnamed (v : Slc) (o : Outputs) :
      State.modifyNamed { y.modifyEntry i queued with slc := v, out := o } job (stagedBy job) =
        State.modifyEntry { y with slc := v, out := o } i staged :=
    State.modifyNamed_of_queued (x := { y with slc := v, out := o }) hp hyi hye hp.staged
  have hslc : slc = { s.slc with
      queue := [], current := some ⟨job, job.frames.drop 6, false, false⟩, stage := f :: frames, losses := 0 } := by
    rw [← hstaged, ← hqueue]
  clear_value slc
  subst hslc hcls
  have hthen {v : Slc} {o : Outputs} (hv : v.current.isSome = true)
      (ht : (.next (y.modifyEntry i queued).takeHead : Result) =
        .next (State.modifyNamed { y.modifyEntry i queued with slc := v, out := o } job (stagedBy job))) :
      ex = .next (State.modifyEntry { y with slc := v, out := o } i staged) := by
    rw [hnamed] at ht
    exact hends ht hv
  refine ⟨fun hmedium => ?_, fun q hmedium hq hgap => ?_, fun hmedium hgap => ⟨fun hbusy => ?_, fun b hb hle => ?_⟩⟩
  · have hnot : s.slc.medium ≠ .off ∧ s.slc.medium ≠ .dozeSampling := by
      rcases hmedium with hm | hm <;> rw [hm] <;> exact ⟨nofun, nofun⟩
    have hwaits := (htakes hnot.1 hnot.2).1 (by subst hy; exact hmedium)
    rw [hthen (v := { y.slc.taken job [] (f :: frames) with medium := y.slc.medium }) (o := y.out) rfl hwaits]
    subst hy
    rfl
  · intro key
    have hcontends := (htakes (by rw [hmedium]; nofun) (by rw [hmedium]; nofun)).2.1 q (by subst hy; exact hmedium)
      (by subst hy; exact hq) (by subst hy; exact hgap)
    rw [hthen (v := { y.slc.taken job [] (f :: frames) with
        medium := .contend key 1 (now + 100), busyStart := none
        quietSince := if key.getLsbD 15 then none else some q })
      (o := ⟨none, none, if key.getLsbD 15 then [.markTone 1] else []⟩) rfl (by
        rw [hcontends]
        subst hy
        rfl)]
    subst hy
    rfl
  · have hwaits := ((htakes (by rw [hmedium]; nofun) (by rw [hmedium]; nofun)).2.2 (by subst hy; exact hmedium)
      (by subst hy; exact hgap)).1 (by subst hy; exact hbusy)
    rw [hthen (v := { y.slc.taken job [] (f :: frames) with medium := .defer }) (o := y.out) rfl hwaits]
    subst hy
    rfl
  · have hjams := ((htakes (by rw [hmedium]; nofun) (by rw [hmedium]; nofun)).2.2 (by subst hy; exact hmedium)
      (by subst hy; exact hgap)).2 b (by subst hy; exact hb) (by subst hy; exact hle)
    have hnamed' := hnamed { y.slc.taken job [] (f :: frames) with medium := .jammed } y.out
    refine (hends hjams ?_).trans ?_
    · rw [State.queueNotice_eq, State.modifyNamed_eq]
      rfl
    · refine congrArg (fun t : State => Host.Outcome.next (t.queueNotice .mediumJammed)) (Eq.trans hnamed' ?_)
      subst hy
      rfl

theorem jobPlaced (hp : Places e now job cls queued staged dropped) (h : s.settled = true)
    (he : s.entryAt i = some e) (hi : s.slotOf e.id = some i)
    (hpower : s.pwc.power = .awake ∨ s.pwc.warmUp.isSome = true)
    (hnew : ∀ j ∈ s.slc.queue, j.id = job.id → j.kind ≠ job.kind) :
    s.JobPlaced (.next (((State.modifyEntry { s.begin with now := now } i queued).placeJob job).finish)) i e now job cls
      queued staged dropped :=
  ⟨jobPlaced_queued hp h he hi hpower hnew, jobPlaced_taken hp h he hi hpower⟩

end

end Sys2Proof.Machine
end

section
/-! The ends of the relay wait and of the tally wait (R86, R129, R133, R134, R140). -/

namespace Sys2Proof.Machine

/-! ### The jobs (R86, R134) -/

theorem flatMap_zipIdx_eq_range {α β : Type} (g : α → Nat → List β) (l : List α) :
    (l.zipIdx.flatMap fun p => g p.1 p.2) = (List.range l.length).flatMap fun k =>
      match l[k]? with
      | some x => g x k
      | none => [] := by
  induction l using List.reverseRecOn with
  | nil => rfl
  | append_singleton l x ih =>
    rw [List.zipIdx_append, List.flatMap_append, ih, List.length_append, List.length_singleton, List.range_succ,
      List.flatMap_append]
    congr 1
    · refine List.flatMap_congr fun k hk => ?_
      rw [List.getElem?_append_left (List.mem_range.1 hk)]
    · simp

/-- The frame list of a relay as the statements write it (R134). -/
theorem relayFrames_eq (e : Entry) : relayFrames e =
    match e.action with
    | .cancel => [.header]
    | .alert =>
      .header :: (List.range e.texts.length).flatMap fun k =>
        match (e.texts[k]?).map TextRecord.state with
        | some (.complete chain) => (List.range chain.length).map fun j => .text k j
        | _ => [] := by
  unfold relayFrames
  cases e.action with
  | cancel => rfl
  | alert =>
    refine congrArg (List.cons FrameRef.header) ((flatMap_zipIdx_eq_range (fun (x : TextRecord) k =>
      match x.state with
      | .complete chain => (List.range chain.length).map fun j => FrameRef.text k j
      | _ => []) e.texts).trans (congrArg (List.flatMap · _) (funext fun k => ?_)))
    cases e.texts[k]? with
    | none => rfl
    | some x => cases x with | mk lang count state => cases state <;> rfl

theorem relayJob_eq (e : Entry) (now : Micros) : relayJob e now =
    ⟨e.id, .relay, e.precedence, some e.relay.update,
      match e.action with
      | .cancel => [.header]
      | .alert =>
        .header :: (List.range e.texts.length).flatMap fun k =>
          match (e.texts[k]?).map TextRecord.state with
          | some (.complete chain) => (List.range chain.length).map fun j => .text k j
          | _ => [], now⟩ :=
  congrArg (Job.mk e.id .relay e.precedence (some e.relay.update) · now) (relayFrames_eq e)

theorem relayFrames_cons (e : Entry) : ∃ refs, relayFrames e = .header :: refs := by
  unfold relayFrames
  cases e.action with
  | cancel => exact ⟨_, rfl⟩
  | alert => exact ⟨_, rfl⟩

/-- The relay job of an entry whose relay wait has ended. -/
theorem places_relay (e : Entry) (now : Micros) :
    Places e now (relayJob e now) 3 (fun f => { f with relay := { f.relay with state := .queued } })
      (fun f => { f with relay := { f.relay with state := .staged } })
      fun f => { f with relay := { f.relay with state := .dropped } } where
  id := rfl
  keepsId _ := rfl
  staged := if_pos ⟨rfl, rfl⟩
  dropped := if_pos ⟨rfl, rfl⟩
  frame _ ref := by cases ref <;> rfl
  remaining := rfl
  first s := by
    obtain ⟨refs, hrefs⟩ := relayFrames_cons e
    refine ⟨makeFrame 1 s.settings.tag (headerBytes (relayedHeader e s.now)), (refs.take 5).filterMap (s.buildFrame e),
      ?_, rfl⟩
    show ((relayFrames e).take 6).filterMap (s.buildFrame e) = _
    rw [hrefs]
    rfl

/-- The tally job of an entry whose tally wait has ended. -/
theorem places_tally (e : Entry) (now : Micros) :
    Places e now (tallyJob e now) 1 (fun f => { f with tallySend := { f.tallySend with state := .queued } })
      (fun f => { f with tallySend := { f.tallySend with state := .staged } })
      fun f => { f with tallySend := { f.tallySend with state := .idle, resend := false } } where
  id := rfl
  keepsId _ := rfl
  staged := by simp [stagedBy, tallyJob]
  dropped := by simp [notKept, tallyJob]
  frame _ ref := by cases ref <;> rfl
  remaining := rfl
  first s := ⟨makeFrame 3 s.settings.tag (tallyBytes ⟨e.id, e.tally⟩), [], rfl, rfl⟩

/-! ### When the waits run -/

theorem State.relayDue_of_waiting {s : State} {i : Nat} {e : Entry} {w : Micros} (he : s.entryAt i = some e)
    (hstate : e.relay.state = .waiting w) : s.relayDue i = some w := by
  unfold State.relayDue
  rw [he]
  dsimp only
  rw [hstate]

theorem State.relayDue_eq_none {s : State} {i : Nat} {e : Entry} (he : s.entryAt i = some e)
    (hstate : e.relay.state.name ≠ .waiting) : s.relayDue i = none := by
  unfold State.relayDue
  rw [he]
  dsimp only
  split
  · next hw =>
    rw [hw] at hstate
    exact absurd rfl hstate
  · rfl

theorem State.tallyDue_of_waiting {s : State} {i : Nat} {e : Entry} {w : Micros} (he : s.entryAt i = some e)
    (hstate : e.tallySend.state = .waiting w) : s.tallyDue i = some w := by
  unfold State.tallyDue
  rw [he]
  dsimp only
  rw [hstate]

theorem State.tallyDue_eq_none {s : State} {i : Nat} {e : Entry} (he : s.entryAt i = some e)
    (hstate : e.tallySend.state.isWaiting = false) : s.tallyDue i = none := by
  unfold State.tallyDue
  rw [he]
  dsimp only
  split
  · next hw =>
    rw [hw] at hstate
    cases hstate
  · rfl

/-! ### The events -/

theorem relayWaitExpiry_fires {s : State} {i : Nat} {e : Entry} {w : Micros} (he : s.entryAt i = some e)
    (hstate : e.relay.state = .waiting w) (hfresh : s.freshUntil (max s.now w)) :
    exec (.relayWaitExpiry i) s = .next (((State.modifyEntry { s.begin with now := max s.now w } i fun f =>
      { f with relay := { f.relay with state := .queued } }).placeJob (relayJob e (max s.now w))).finish) := by
  have hdue : s.begin.relayDue i = some w := State.relayDue_of_waiting (s := s.begin) he hstate
  have hentry : (s.begin.advance w).entryAt i = some e := he
  show execRelayWaitExpiry i s = _
  unfold execRelayWaitExpiry
  rw [timer_fires (due := fun s => s.relayDue i) _ hdue hfresh]
  unfold State.forEntry
  rw [hentry]
  rfl

theorem tallyWaitExpiry_fires {s : State} {i : Nat} {e : Entry} {w : Micros} (he : s.entryAt i = some e)
    (hstate : e.tallySend.state = .waiting w) (hfresh : s.freshUntil (max s.now w)) :
    exec (.tallyWaitExpiry i) s = .next (((State.modifyEntry { s.begin with now := max s.now w } i fun f =>
      { f with tallySend := { f.tallySend with state := .queued } }).placeJob (tallyJob e (max s.now w))).finish) := by
  have hdue : s.begin.tallyDue i = some w := State.tallyDue_of_waiting (s := s.begin) he hstate
  have hentry : (s.begin.advance w).entryAt i = some e := he
  show execTallyWaitExpiry i s = _
  unfold execTallyWaitExpiry
  rw [timer_fires (due := fun s => s.tallyDue i) _ hdue hfresh]
  unfold State.forEntry
  rw [hentry]
  rfl

/-- A relay with less than a minute of lifetime left is given up as it is taken (R133). -/
theorem relayWaitExpiry_givesUp {s : State} {i : Nat} {e : Entry} {w : Micros} (h : s.settled = true)
    (he : s.entryAt i = some e) (hi : s.slotOf e.id = some i) (hstate : e.relay.state = .waiting w)
    (hfresh : s.freshUntil (max s.now w)) (hcurrent : s.slc.current = none) (hstage : s.slc.stage = [])
    (hqueue : s.slc.queue = []) (hpart : s.al.participation = .full)
    (hmedium : s.slc.medium = .idle ∨ s.slc.medium = .receive ∨ s.slc.medium = .jammed) (hk : s.keepsPower)
    (hleft : e.remaining (max s.now w) < 60) :
    exec (.relayWaitExpiry i) s = .next (State.modifyEntry { s.begin with now := max s.now w } i fun f =>
      { f with relay := { f.relay with state := .done } }) := by
  have hp := places_relay e (max s.now w)
  rw [relayWaitExpiry_fires he hstate hfresh]
  have hnone : (State.modifyEntry { s.begin with now := max s.now w } i fun f =>
      { f with relay := { f.relay with state := .queued } }).slc.queue = [] := hqueue
  rw [State.placeJob_joins (by rw [hnone]; nofun) (by rw [hnone]; decide), hnone]
  generalize hx : ({ s.begin with now := max s.now w } : State) = x at *
  have hxe : x.entryAt i = some e := by subst hx; exact he
  have hxi : x.slotOf e.id = some i := by subst hx; exact hi
  generalize hm : State.withQueue (x.modifyEntry i fun f => { f with relay := { f.relay with state := .queued } })
    (insertJob (relayJob e (max s.now w)) []) = m
  have hmi : m.slotOf e.id = some i := by
    subst hm
    exact (State.slotOf_modifyEntry x i _ e.id hp.keepsId).trans hxi
  have hme : m.entryAt i = some { e with relay := { e.relay with state := .queued } } := by
    subst hm
    exact State.entryAt_modifyEntry_same hxe _
  have hmslc : m.slc = { s.slc with queue := [relayJob e (max s.now w)] } := by subst hm hx; rfl
  have hmmedium : m.slc.medium ≠ .off ∧ m.slc.medium ≠ .dozeSampling := by
    rw [hmslc]
    rcases hmedium with hm | hm | hm <;> rw [hm] <;> exact ⟨nofun, nofun⟩
  have htakes := (m.endsWithHead_takeHead.2 (by rw [hmslc]; exact hcurrent) (by rw [hmslc]; exact hstage)
    (by subst hm hx; exact hpart) hmmedium.1 hmmedium.2 (relayJob e (max s.now w)) [] (by rw [hmslc])).1
    ⟨rfl, i, _, hmi, hme, by subst hm hx; exact hleft⟩ rfl
  rw [State.finish_eq_takeHead (m := m) h (by subst hm hx; exact hk) (by subst hm hx; rfl) (by subst hm hx; rfl), htakes]
  have hdone := State.modifyNamed_of_queued
    (f := fun f => if (relayJob e (max s.now w)).update = some f.relay.update ∧ f.relay.state = .queued then
      { f with relay := { f.relay with state := .done } } else f)
    (g := fun f => { f with relay := { f.relay with state := .done } }) hp hxi hxe (if_pos ⟨rfl, rfl⟩)
  refine congrArg Host.Outcome.next (Eq.trans ?_ hdone)
  have hqueued : ({ m with slc := { m.slc with queue := [] } } : State) =
      x.modifyEntry i fun f => { f with relay := { f.relay with state := .queued } } := by
    rw [hmslc, ← hqueue]
    subst hm hx
    rfl
  rw [hqueued]

/-- Settles O58: the waits place their jobs. -/
theorem waitExpiriesComplete : Obligations.WaitExpiriesComplete := by
  intro s i e h he
  refine ⟨fun hstate => timer_idle (due := fun s => s.relayDue i) h (State.relayDue_eq_none (s := s.begin) he hstate),
    fun hstate => timer_idle (due := fun s => s.tallyDue i) h (State.tallyDue_eq_none (s := s.begin) he hstate),
    fun hi hpower => ⟨fun w hstate hfresh => ⟨fun hnew => ?_, fun hcurrent hstage hqueue hpart hmedium hk hleft => ?_⟩,
      fun w hstate hnew hfresh => ?_⟩⟩
  · rw [relayWaitExpiry_fires he hstate hfresh]
    have hplaced := jobPlaced (places_relay e (max s.now w)) h he hi hpower hnew
    exact Eq.mp (congrArg (fun job => s.JobPlaced _ i e _ job 3 _ _ _) (relayJob_eq e _)) hplaced
  · exact relayWaitExpiry_givesUp h he hi hstate hfresh hcurrent hstage hqueue hpart hmedium hk hleft
  · rw [tallyWaitExpiry_fires he hstate hfresh]
    exact jobPlaced (places_tally e (max s.now w)) h he hi hpower hnew

end Sys2Proof.Machine
end

section
/-! Text segments at the Segment Assembler: where a segment goes, the slots and blocks given up for it, and what is
stored, as equations (R49 to R54, R60 to R63). -/

namespace Sys2Proof.Machine

/-! ### Free slot numbers (R49) -/

theorem State.slotAt_of_lt {s : State} {n : Nat} (hn : n < s.sa.slots.length) : s.slotAt n = s.sa.slots[n] := by
  unfold State.slotAt
  rw [List.getElem?_eq_getElem hn]
  rfl

/-- The free slot number found is the lowest one. -/
theorem State.freeSlot_of_lowest {s : State} {n : Nat} (hn : n < s.sa.slots.length) (hfree : s.slotAt n = none)
    (hbelow : ∀ k < n, s.slotAt k ≠ none) : s.freeSlot = some n := by
  refine List.findIdx?_eq_some_iff_getElem.2 ⟨hn, ?_, fun k hk => ?_⟩
  · rw [← State.slotAt_of_lt hn, hfree]
    rfl
  · rw [← State.slotAt_of_lt (Nat.lt_trans hk hn)]
    exact fun hnone => hbelow k hk (Option.isNone_iff_eq_none.1 hnone)

theorem State.freeSlot_of_free {s : State} {n : Nat} (hn : n < s.sa.slots.length) (hfree : s.slotAt n = none) :
    ∃ m, s.freeSlot = some m := by
  cases hfound : s.freeSlot with
  | some m => exact ⟨m, rfl⟩
  | none =>
    have hopen := List.findIdx?_eq_none_iff.1 hfound _ (List.getElem_mem hn)
    rw [← State.slotAt_of_lt hn, hfree] at hopen
    cases hopen

theorem State.freeSlot_eq_none {s : State} (h : ∀ n < s.sa.slots.length, s.slotAt n ≠ none) : s.freeSlot = none := by
  cases hfound : s.freeSlot with
  | none => rfl
  | some n =>
    have hfree := s.freeSlot_some hfound
    exact absurd (by unfold State.slotAt; rw [hfree]; rfl) (h n (List.getElem?_eq_some_iff.1 hfree).1)

theorem State.slotAt_withSlots_set {s : State} {n : Nat} (hn : n < s.sa.slots.length) (o : Option Slot) :
    (s.withSlots (s.sa.slots.set n o)).slotAt n = o := by
  rw [State.slotAt_set hn, if_pos rfl]

/-! ### A slot given up (R35, R60, R63) -/

/-- The ATC's answer to a slot given up changes one entry at most. -/
theorem State.slotLost_modifies (s : State) (low : Slot) :
    ∃ i f, s.slotLost low = s.modifyEntry i f ∧ (∀ e, (f e).id = e.id)
      ∧ ∀ (e : Entry) (k : Nat) (x : TextRecord), e.texts[k]? = some x → x.state ≠ .collecting →
        (f e).texts[k]? = some x := by
  unfold State.slotLost
  split
  · refine ⟨_, _, rfl, fun e => ?_, fun e k x hx hstate => ?_⟩
    · split <;> rfl
    · split
      · next h =>
        dsimp only
        rw [List.getElem?_modify, hx]
        refine congrArg some (if_neg fun hk => hstate ?_)
        rw [hk, hx] at h
        exact Option.some.inj h.2
      · exact hx
  · exact ⟨0, id, (State.modifyEntry_self fun _ _ => rfl).symm, fun _ => rfl, fun _ _ _ hx _ => hx⟩

theorem State.slotLost_withSlots (s : State) (low : Slot) (l : List (Option Slot)) :
    (s.slotLost low).withSlots l = (s.withSlots l).slotLost low := by
  unfold State.slotLost
  have hslot : (s.withSlots l).slotOf low.key.id = s.slotOf low.key.id := rfl
  rw [hslot]
  cases low.bound <;> cases s.slotOf low.key.id <;> rfl

/-- The state with a slot closed and the ATC told. -/
theorem State.discardSlot_eq {s : State} {n : Nat} {low : Slot} (h : s.slotAt n = some low) :
    s.discardSlot n = (s.withSlots (s.sa.slots.set n none)).slotLost low := by
  unfold State.discardSlot
  rw [h]
  dsimp only
  unfold State.slotLost State.textLost
  cases low.bound with
  | false => rfl
  | true =>
    cases (s.withSlots (s.sa.slots.set n none)).slotOf low.key.id with
    | none => rfl
    | some i =>
      refine State.modifyEntry_congr fun e _ => ?_
      simp only [Entry.collecting_iff_name]
      rfl

/-! ### Blocks set free (R47, R62, R63) -/

theorem State.slotLost_usedBlocks_le (s : State) (low : Slot) : (s.slotLost low).usedBlocks ≤ s.usedBlocks := by
  unfold State.slotLost
  split
  · refine Nat.add_le_add_left (State.tableBlocks_modifyEntry_le s _ (d := 0) fun e _ => ?_) _
    split
    · exact e.blocks_withText_le low.key.text fun _ => Nat.le_refl 0
    · exact Nat.le_refl _
  · exact Nat.le_refl _

/-- A slot given up sets its blocks free. -/
theorem State.discardSlot_usedBlocks_lt {s : State} {n : Nat} {low : Slot} (h : s.slotAt n = some low)
    (hblock : ∃ b, some b ∈ low.received) : (s.discardSlot n).usedBlocks < s.usedBlocks := by
  obtain ⟨b, hb⟩ := hblock
  have hheld : 0 < slotBlocks (some low) := List.countP_pos_iff.2 ⟨some b, hb, rfl⟩
  have hsum := sum_map_set slotBlocks (s.slotAt_some.1 h) none
  have hclosed : slotBlocks none = 0 := rfl
  rw [State.discardSlot_eq h]
  refine Nat.lt_of_le_of_lt (State.slotLost_usedBlocks_le _ _) ?_
  show ((s.sa.slots.set n none).map slotBlocks).sum + (s.atc.table.map entryBlocks).sum <
    (s.sa.slots.map slotBlocks).sum + (s.atc.table.map entryBlocks).sum
  omega

/-- A text released sets its blocks free. -/
theorem State.release_usedBlocks_lt {s : State} {i k : Nat} {e : Entry} (he : s.entryAt i = some e)
    (hk : e.releasable k) : (s.modifyEntry i fun e => e.withText k .released).usedBlocks < s.usedBlocks := by
  obtain ⟨-, -, x, chain, hx, hstate, hne⟩ := hk
  have hheld : textBlocks x ≠ 0 := textBlocks_ne_zero.2 ⟨chain, hstate, hne⟩
  have htexts : (e.withText k .released).texts = e.texts.set k { x with state := .released } := by
    unfold Entry.withText
    rw [List.modify_eq_set_getElem?, hx]
    rfl
  have hentry : (e.withText k .released).blocks + textBlocks x = e.blocks := by
    unfold Entry.blocks
    rw [htexts]
    exact sum_map_set textBlocks hx { x with state := .released }
  obtain ⟨slot, hslot, hse⟩ := Option.bind_eq_some_iff.1 ((s.entryAt_def i).symm.trans he)
  have htable : (s.modifyEntry i fun e => e.withText k .released).atc.table =
      s.atc.table.set i { slot with entry := some (e.withText k .released) } := by
    rw [State.modifyEntry_atc_table, List.modify_eq_set_getElem?, hslot]
    show s.atc.table.set i _ = _
    rw [hse]
    rfl
  have hsum := sum_map_set entryBlocks hslot { slot with entry := some (e.withText k .released) }
  rw [entryBlocks_eq slot, hse, entryBlocks_eq] at hsum
  simp only [Option.map_some, Option.getD_some] at hsum
  show (s.sa.slots.map slotBlocks).sum + ((s.modifyEntry i _).atc.table.map entryBlocks).sum <
    (s.sa.slots.map slotBlocks).sum + (s.atc.table.map entryBlocks).sum
  rw [htable]
  omega

/-! ### Reclaim (R60 to R63) -/

/-- No open slot is of a lower precedence. -/
theorem State.takeLowestSlot_none {s : State} {precedence : Nat}
    (h : ∀ n low, s.slotAt n = some low → precedence ≤ low.precedence) : s.takeLowestSlot precedence = none := by
  unfold State.takeLowestSlot
  split
  · next n sl hlow => exact if_neg (Nat.not_lt.2 (h n sl (State.mem_openSlots.1 (pickLeast_mem _ hlow))))
  · rfl

theorem State.LowestSlot.takeLowestSlot {s : State} {n precedence : Nat} {low : Slot} (h : s.LowestSlot n low)
    (hlower : low.precedence < precedence) :
    s.takeLowestSlot precedence = some ((s.withSlots (s.sa.slots.set n none)).slotLost low) := by
  unfold State.takeLowestSlot
  rw [h.lowestSlot, ← State.discardSlot_eq h.1]
  exact if_pos hlower

theorem State.freeBlocks_pos {s : State} : 0 < s.freeBlocks ↔ s.usedBlocks < 128 := by
  unfold State.freeBlocks
  omega

theorem State.obtainBlock_of_free {s : State} (h : s.usedBlocks < 128) (precedence : Nat) :
    s.obtainBlock precedence = some s := if_pos (State.freeBlocks_pos.2 h)

theorem State.obtainBlock_none {s : State} {precedence : Nat} (hused : s.usedBlocks = 128)
    (hnone : ∀ j f k, s.entryAt j = some f → ¬ f.releasable k)
    (hlow : ∀ n low, s.slotAt n = some low → precedence ≤ low.precedence) : s.obtainBlock precedence = none := by
  unfold State.obtainBlock State.reclaim
  rw [if_neg (by rw [State.freeBlocks_pos]; omega), State.reclaimText_none hnone, State.takeLowestSlot_none hlow]
  rfl

theorem State.ReleasesText.obtainBlock {s : State} {j k : Nat} {f : Entry} (h : s.ReleasesText j f k)
    (hused : s.usedBlocks = 128) (precedence : Nat) :
    s.obtainBlock precedence = some (s.modifyEntry j fun f => f.withText k .released) := by
  have hfree := State.release_usedBlocks_lt h.1 h.2.1
  unfold State.obtainBlock State.reclaim
  rw [if_neg (by rw [State.freeBlocks_pos]; omega), h.reclaimText]
  exact if_pos (decide_eq_true (State.freeBlocks_pos.2 (hused ▸ hfree)))

theorem State.LowestSlot.obtainBlock {s : State} {n precedence : Nat} {low : Slot} (h : s.LowestSlot n low)
    (hlower : low.precedence < precedence) (hblock : ∃ b, some b ∈ low.received) (hused : s.usedBlocks = 128)
    (hnone : ∀ j f k, s.entryAt j = some f → ¬ f.releasable k) :
    s.obtainBlock precedence = some ((s.withSlots (s.sa.slots.set n none)).slotLost low) := by
  have hfree := State.discardSlot_usedBlocks_lt h.1 hblock
  rw [State.discardSlot_eq h.1, hused] at hfree
  unfold State.obtainBlock State.reclaim
  rw [if_neg (by rw [State.freeBlocks_pos]; omega), State.reclaimText_none hnone]
  show Option.filter _ (s.takeLowestSlot precedence) = _
  rw [h.takeLowestSlot hlower]
  exact if_pos (decide_eq_true (State.freeBlocks_pos.2 hfree))

/-! ### A segment stored (R52 to R54) -/

/-- The slot with a segment stored in it. -/
def Slot.stored (sl : Slot) (seg : TextSegment) : Slot :=
  { sl with received := sl.received.set seg.index (some ⟨seg.payload⟩) }

theorem Slot.full_iff {sl : Slot} : sl.full = true ↔ ∀ m : Nat, sl.received[m]? ≠ some none := by
  unfold Slot.full
  rw [List.all_eq_true]
  refine ⟨fun h m hm => ?_, fun h o ho => ?_⟩
  · exact Bool.false_ne_true (h none (List.mem_of_getElem? hm))
  · obtain ⟨m, hm⟩ := List.mem_iff_getElem?.1 ho
    cases o with
    | none => exact absurd hm (h m)
    | some b => rfl

theorem Slot.not_full {sl : Slot} {m : Nat} (h : sl.received[m]? = some none) : ¬ sl.full = true :=
  fun hfull => Slot.full_iff.1 hfull m h

theorem Slot.stored_gap {sl : Slot} {seg : TextSegment} {k : Nat} (hk : k ≠ seg.index)
    (h : sl.received[k]? = some none) : (sl.stored seg).received[k]? = some none := by
  unfold Slot.stored
  dsimp only
  rw [List.getElem?_set_ne (Ne.symm hk), h]

theorem State.storeIn_eq {s : State} {n : Nat} {sl : Slot} (h : s.slotAt n = some sl) (seg : TextSegment) :
    s.storeIn n seg = s.withSlots (s.sa.slots.set n (some (sl.stored seg))) := by
  unfold State.storeIn
  rw [List.modify_eq_set_getElem?, s.slotAt_some.1 h]
  rfl

/-- Nothing follows a store that leaves the slot unbound or incomplete. -/
theorem State.afterStore_rests {s : State} {n : Nat} {sl : Slot} (h : s.slotAt n = some sl)
    (hrest : sl.bound = false ∨ ∃ m : Nat, sl.received[m]? = some none) : s.afterStore n = s := by
  unfold State.afterStore
  rw [h]
  refine if_neg fun ⟨hb, hfull⟩ => ?_
  rcases hrest with hrest | ⟨m, hm⟩
  · rw [hrest] at hb
    cases hb
  · exact Slot.not_full hm hfull

/-- A store that fills a bound slot makes the text COMPLETE (R55). -/
theorem State.afterStore_completes {s : State} {n i : Nat} {sl : Slot} (h : s.slotAt n = some sl)
    (hb : sl.bound = true) (hfull : sl.full = true) (hi : s.slotOf sl.key.id = some i) :
    s.afterStore n = (s.completeSlot n sl i).leaveIfComplete i := by
  unfold State.afterStore
  rw [h]
  dsimp only
  rw [if_pos ⟨hb, hfull⟩, hi]

theorem State.joinSlot_refuses {s : State} {n : Nat} {sl : Slot} {seg : TextSegment} (h : s.slotAt n = some sl)
    (hcount : seg.count ≠ sl.count) : s.joinSlot n seg = s.setMalformed := by
  unfold State.joinSlot
  rw [h]
  exact if_pos hcount

theorem State.joinSlot_repeats {s : State} {n : Nat} {sl : Slot} {seg : TextSegment} {b : Block}
    (h : s.slotAt n = some sl) (hcount : seg.count = sl.count) (hb : sl.received[seg.index]? = some (some b)) :
    s.joinSlot n seg = s := by
  unfold State.joinSlot
  rw [h]
  dsimp only
  rw [if_neg (not_not.2 hcount), hb]
  rfl

theorem State.joinSlot_obtains {s : State} {n : Nat} {sl : Slot} {seg : TextSegment} (h : s.slotAt n = some sl)
    (hcount : seg.count = sl.count) (hgap : sl.received[seg.index]? = some none) :
    s.joinSlot n seg =
      match s.obtainBlock sl.precedence with
      | none => s.setPoolExhausted
      | some s' => (s'.storeIn n seg).afterStore n := by
  unfold State.joinSlot
  rw [h]
  dsimp only
  rw [if_neg (not_not.2 hcount), hgap]
  rfl

/-- A store that leaves its slot unbound or incomplete, in the state in which a block was obtained. -/
theorem State.joinSlot_stores {s s' : State} {n : Nat} {sl : Slot} {seg : TextSegment} (h : s.slotAt n = some sl)
    (hcount : seg.count = sl.count) (hgap : sl.received[seg.index]? = some none)
    (hblock : s.obtainBlock sl.precedence = some s') (h' : s'.slotAt n = some sl)
    (hrest : sl.bound = false ∨ ∃ k, k ≠ seg.index ∧ sl.received[k]? = some none) :
    s.joinSlot n seg = s'.withSlots (s'.sa.slots.set n (some (sl.stored seg))) := by
  rw [State.joinSlot_obtains h hcount hgap, hblock]
  dsimp only
  rw [State.storeIn_eq h']
  refine State.afterStore_rests (State.slotAt_withSlots_set (State.slotAt_lt h') _) (hrest.imp_right ?_)
  exact fun ⟨k, hk, hnone⟩ => ⟨k, Slot.stored_gap hk hnone⟩

/-! ### A slot opened (R53) -/

theorem State.openSlot_eq {s s₁ s₂ : State} {seg : TextSegment} {bound : Bool} {precedence n : Nat}
    (hreserve : s.reserveSlot precedence = some s₁) (hfree : s₁.freeSlot = some n)
    (hblock : s₁.obtainBlock precedence = some s₂) :
    s.openSlot seg bound precedence =
      let s₃ := s₂.withSlots (s₂.sa.slots.set n (some (newSlotFor seg bound precedence s₂.now)))
      (if bound then s₃.textStarted seg.key else s₃).afterStore n := by
  unfold State.openSlot
  rw [hreserve]
  dsimp only
  rw [hfree]
  dsimp only
  rw [hblock]

theorem State.reserveSlot_free {s : State} {n : Nat} (h : s.freeSlot = some n) (precedence : Nat) :
    s.reserveSlot precedence = some s := by
  unfold State.reserveSlot
  rw [h]

theorem State.reserveSlot_full {s : State} (h : s.freeSlot = none) (precedence : Nat) :
    s.reserveSlot precedence = s.takeLowestSlot precedence := by
  unfold State.reserveSlot
  rw [h]

theorem State.openSlot_refused {s : State} {precedence : Nat} (h : s.reserveSlot precedence = none) (seg : TextSegment)
    (bound : Bool) : s.openSlot seg bound precedence = s := by
  unfold State.openSlot
  rw [h]

theorem State.openSlot_exhausted {s : State} {precedence n : Nat} (hfree : s.freeSlot = some n)
    (hblock : s.obtainBlock precedence = none) (seg : TextSegment) (bound : Bool) :
    s.openSlot seg bound precedence = s.setPoolExhausted := by
  unfold State.openSlot
  rw [State.reserveSlot_free hfree]
  dsimp only
  rw [hfree]
  dsimp only
  rw [hblock]

theorem newSlotFor_gap {seg : TextSegment} {bound : Bool} {precedence : Nat} {now : Micros} (h : 2 ≤ seg.count) :
    ∃ m : Nat, (newSlotFor seg bound precedence now).received[m]? = some none := by
  have hgap (m : Nat) (hm : m ≠ seg.index) (hlt : m < seg.count) :
      (newSlotFor seg bound precedence now).received[m]? = some none := by
    unfold newSlotFor
    dsimp only
    rw [List.getElem?_set_ne (Ne.symm hm), List.getElem?_replicate_of_lt hlt]
  by_cases h0 : seg.index = 0
  · exact ⟨1, hgap 1 (by omega) (by omega)⟩
  · exact ⟨0, hgap 0 (Ne.symm h0) (by omega)⟩

/-- The text of a record that is known, in a new state. -/
theorem Entry.withText_eq {e : Entry} {k : Nat} {x : TextRecord} (h : e.texts[k]? = some x) (st : TextState) :
    e.withText k st = { e with texts := e.texts.set k { x with state := st } } := by
  unfold Entry.withText
  rw [List.modify_eq_set_getElem?, h]
  rfl

theorem State.textStarted_eq {s : State} {key : SlotKey} {i : Nat} {e : Entry} {x : TextRecord}
    (hi : s.slotOf key.id = some i) (he : s.entryAt i = some e) (hx : e.texts[key.text]? = some x) :
    s.textStarted key =
      s.modifyEntry i fun e => { e with texts := e.texts.set key.text { x with state := .collecting } } := by
  unfold State.textStarted
  rw [hi]
  refine State.modifyEntry_congr fun f hf => ?_
  obtain rfl := Option.some.inj (he.symm.trans hf)
  exact Entry.withText_eq hx _

/-! ### Where a segment goes (R51) -/

/-- A segment of no entry, or of a higher update than its entry's. -/
theorem State.takeText_unbound {s : State} {seg : TextSegment} (h : s.slotOf seg.id = none
      ∨ ∃ i e, s.slotOf seg.id = some i ∧ s.entryAt i = some e ∧ e.update < seg.update) :
    s.takeText seg = s.toUnbound seg := by
  unfold State.takeText State.entryOf
  rcases h with h | ⟨i, e, hi, he, hlt⟩
  · rw [h]
    rfl
  · rw [hi, Option.bind_some, he]
    dsimp only
    rw [if_neg (Nat.lt_asymm hlt), if_pos hlt]

/-- A segment that its entry takes no more. -/
theorem State.takeText_late {s : State} {seg : TextSegment} {i : Nat} {e : Entry} (hi : s.slotOf seg.id = some i)
    (he : s.entryAt i = some e) (h : seg.update < e.update ∨ seg.update = e.update ∧ e.state.name ≠ .collecting) :
    s.takeText seg = s := by
  unfold State.takeText State.entryOf
  rw [hi, Option.bind_some, he]
  dsimp only
  rcases h with h | ⟨h, hname⟩
  · rw [if_pos h]
  · rw [h, if_neg (Nat.lt_irrefl _), if_neg (Nat.lt_irrefl _), if_neg (mt Entry.collecting_iff_name.1 hname)]

theorem State.takeText_collecting {s : State} {seg : TextSegment} {i : Nat} {e : Entry}
    (hi : s.slotOf seg.id = some i) (he : s.entryAt i = some e) (hname : e.state.name = .collecting)
    (hupdate : e.update = seg.update) : s.takeText seg = s.toCollecting e seg := by
  unfold State.takeText State.entryOf
  rw [hi, Option.bind_some, he]
  dsimp only
  rw [hupdate, if_neg (Nat.lt_irrefl _), if_neg (Nat.lt_irrefl _), if_pos (Entry.collecting_iff_name.2 hname)]

theorem State.toUnbound_opens {s : State} {seg : TextSegment} (h : s.findSlot seg.key = none) :
    s.toUnbound seg = s.openSlot seg false 0 := by
  unfold State.toUnbound
  rw [h]

theorem State.toUnbound_joins {s : State} {seg : TextSegment} {n : Nat} (h : s.findSlot seg.key = some n) :
    s.toUnbound seg = s.joinSlot n seg := by
  unfold State.toUnbound
  rw [h]

theorem State.toCollecting_unlisted {s : State} {e : Entry} {seg : TextSegment} (h : e.texts[seg.text]? = none) :
    s.toCollecting e seg = s.setMalformed := by
  unfold State.toCollecting
  rw [h]

theorem State.toCollecting_absent {s : State} {e : Entry} {seg : TextSegment} {text : TextRecord}
    (h : e.texts[seg.text]? = some text) (hstate : text.state = .absent) :
    s.toCollecting e seg =
      if seg.count = text.count then s.openSlot seg true e.precedence else s.setMalformed := by
  unfold State.toCollecting
  rw [h]
  dsimp only
  rw [hstate]

theorem State.toCollecting_joins {s : State} {e : Entry} {seg : TextSegment} {text : TextRecord} {n : Nat}
    (h : e.texts[seg.text]? = some text) (hstate : text.state = .collecting) (hn : s.findSlot seg.key = some n) :
    s.toCollecting e seg = s.joinSlot n seg := by
  unfold State.toCollecting
  rw [h]
  dsimp only
  rw [hstate, hn]

theorem State.toCollecting_complete {s : State} {e : Entry} {seg : TextSegment} {text : TextRecord}
    {chain : List Block} (h : e.texts[seg.text]? = some text) (hstate : text.state = .complete chain) :
    s.toCollecting e seg = s := by
  unfold State.toCollecting
  rw [h]
  dsimp only
  rw [hstate]

end Sys2Proof.Machine
end

section
/-! Pages with a text segment, the assembly limit, and what a shortage gives up (R51, R59 to R64, R168). -/

namespace Sys2Proof.Machine

/-! ### The state after a FIFO's head was taken (R105, R168) -/

/-- The state with these pages and frames left in the FIFOs. -/
def State.drained (s : State) (pages : List Page) (frames : List RxFrame) : State :=
  { s.begin with fp := { s.fp with pageFifo := pages }, slc := { s.slc with rxFifo := frames } }

section
variable {s : State} {pages : List Page} {frames : List RxFrame}

theorem State.noHeadTaken_drained (h : s.settled = true) : (s.drained pages frames).noHeadTaken :=
  show s.noHeadTaken from State.noHeadTaken_of_settled h

theorem State.maySendReport_drained (h : s.settled = true) : (s.drained pages frames).maySendReport = false :=
  (State.settled_iff.1 h).2.1

theorem State.settled_drained (h : s.settled = true) (hk : s.keepsPower) : (s.drained pages frames).settled = true :=
  State.settled_of_keepsPower (m := s.drained pages frames) hk (State.noHeadTaken_drained h)
    (State.maySendReport_drained h)

/-- An effect on the table, the slots, notices and flags leaves nothing to do at the end of the event. -/
theorem State.finish_of_drained {m : State} (h : s.settled = true) (hk : s.keepsPower)
    (hm : m = { s.drained pages frames with atc := m.atc, sa := m.sa, al := m.al })
    (hpart : m.al.participation = s.al.participation) : m.finish = m := by
  refine State.finish_of_settled ?_
  generalize m.atc = atc at hm
  generalize m.sa = sa at hm
  generalize m.al = al at hm hpart
  subst hm
  exact State.settled_congr (State.settled_drained (pages := pages) (frames := frames) h hk) hk rfl hpart rfl rfl

end

/-! ### The page FIFO (R168) -/

/-- The state with the head of the page FIFO taken. -/
@[reducible] def State.unread (s : State) (rest : List Page) : State := s.drained rest s.slc.rxFifo

/-- The head of the page FIFO is handed on while the position is not stale. -/
theorem page_event {s : State} {p : Page} {rest : List Page} (hfifo : s.fp.pageFifo = p :: rest)
    (hfresh : s.freshAt s.now) : exec .pageFifoProcess s = .next ((s.unread rest).takePage p).finish := by
  show execPageFifoProcess s = _
  unfold execPageFifoProcess
  rw [event_eq]
  have hhead : s.begin.fp.pageFifo = p :: rest := hfifo
  rw [hhead]
  have hstale : (s.begin.withFp { s.begin.fp with pageFifo := rest }).dropStale = s.unread rest :=
    State.dropStale_of_freshAt (s := s.begin.withFp { s.begin.fp with pageFifo := rest }) hfresh
  dsimp only
  rw [hstale]

theorem page_text {s : State} {p : Page} {rest : List Page} {seg : TextSegment} (hfifo : s.fp.pageFifo = p :: rest)
    (hfresh : s.freshAt s.now) (hkind : p.kind = .text) (hread : readText p.segment = some seg) :
    exec .pageFifoProcess s = .next ((s.unread rest).takeText seg).finish := by
  rw [page_event hfifo hfresh]
  unfold State.takePage
  rw [hkind]
  dsimp only
  rw [hread]

/-- What a segment does where only the table, the slots, notices and flags change. -/
theorem page_rests {s m : State} {rest : List Page} (h : s.settled = true) (hk : s.keepsPower)
    (hevent : exec .pageFifoProcess s = .next m.finish)
    (hm : m = { s.unread rest with atc := m.atc, sa := m.sa, al := m.al })
    (hpart : m.al.participation = s.al.participation) :
    exec .pageFifoProcess s = .next m := by
  rw [hevent, State.finish_of_drained h hk hm hpart]

/-! ### The assembly limit (R59) -/

theorem State.slotLost_unbound {s : State} {low : Slot} (h : low.bound = false) : s.slotLost low = s := by
  unfold State.slotLost
  rw [h]

theorem State.slotLost_entryAt {s : State} {low : Slot} {k : Nat} (h : s.slotOf low.key.id ≠ some k) :
    (s.slotLost low).entryAt k = s.entryAt k := by
  unfold State.slotLost
  split
  · next i _ hi => exact State.entryAt_modifyEntry_ne (fun hk => h (by rw [hi, hk])) _
  · rfl

/-- The COLLECTING text of a bound slot returns to ABSENT (R35). -/
theorem State.slotLost_text {s : State} {low : Slot} {i : Nat} {e : Entry} {x : TextRecord} (hb : low.bound = true)
    (hi : s.slotOf low.key.id = some i) (he : s.entryAt i = some e) (hname : e.state.name = .collecting)
    (hx : e.texts[low.key.text]? = some x) (hstate : x.state = .collecting) :
    (s.slotLost low).entryAt i =
      some { e with texts := e.texts.set low.key.text { x with state := .absent } } := by
  unfold State.slotLost
  rw [hb, hi]
  refine (State.entryAt_modifyEntry_same he _).trans (congrArg some ?_)
  have hcond : (e.texts[low.key.text]?).map TextRecord.state = some .collecting := by
    rw [hx, Option.map_some, hstate]
  rw [if_pos ⟨hname, hcond⟩]
  exact Entry.withText_eq hx .absent

/-- The assembly limit gives up its slot. -/
theorem assemblyLimit_event {s : State} {n : Nat} {sl : Slot} (hsl : s.slotAt n = some sl)
    (hfresh : s.freshUntil (max s.now (sl.firstSegment + 60000000))) :
    exec (.assemblyLimit n) s = .next (State.slotLost
      { s.begin with
        now := max s.now (sl.firstSegment + 60000000)
        sa := { s.sa with slots := s.sa.slots.set n none } } sl).finish := by
  have hdue : s.begin.assemblyDue n = some (sl.firstSegment + 60000000) := by
    unfold State.assemblyDue
    have hat : s.begin.slotAt n = some sl := hsl
    rw [hat, seconds_eq]
    rfl
  show execAssemblyLimit n s = _
  unfold execAssemblyLimit
  rw [timer_fires (due := fun s => s.assemblyDue n) _ hdue hfresh]
  exact congrArg (fun m : State => (.next m.finish : Result))
    (State.discardSlot_eq (s := s.begin.advance (sl.firstSegment + 60000000)) hsl)

theorem assemblyLimit_idle {s : State} {n : Nat} (h : s.settled = true) (hnone : s.slotAt n = none) :
    exec (.assemblyLimit n) s = .next s.begin := by
  refine timer_idle (due := fun s => s.assemblyDue n) h ?_
  unfold State.assemblyDue
  have hat : s.begin.slotAt n = none := hnone
  rw [hat]
  rfl

theorem assemblyLimit_completes {s : State} {n : Nat} {sl : Slot} (h : s.settled = true)
    (hsl : s.slotAt n = some sl) (hfresh : s.freshUntil (max s.now (sl.firstSegment + 60000000))) :
    ∃ t, exec (.assemblyLimit n) s = .next t ∧ t.now = max s.now (sl.firstSegment + 60000000)
      ∧ t.slotAt n = none ∧ (∀ k, k ≠ n → t.slotAt k = s.slotAt k) ∧ t.al = s.al ∧ t.tu = s.tu
      ∧ (sl.bound = false → t.atc = s.atc)
      ∧ (∀ k, t.genAt k = s.genAt k)
      ∧ (∀ k, s.slotOf sl.key.id ≠ some k → t.entryAt k = s.entryAt k)
      ∧ ∀ i e x, sl.bound = true → s.slotOf sl.key.id = some i → s.entryAt i = some e →
        e.state.name = .collecting → e.texts[sl.key.text]? = some x → x.state = .collecting →
        t.entryAt i = some { e with texts := e.texts.set sl.key.text { x with state := .absent } } := by
  have hevent := assemblyLimit_event hsl hfresh
  generalize hu : ({ s.begin with
    now := max s.now (sl.firstSegment + 60000000)
    sa := { s.sa with slots := s.sa.slots.set n none } } : State) = u at hevent
  have huslc : u.slc = s.slc := by subst hu; rfl
  have hual : u.al = s.al := by subst hu; rfl
  have hufp : u.fp = s.fp := by subst hu; rfl
  have hutu : u.tu = s.tu := by subst hu; rfl
  have huatc : u.atc = s.atc := by subst hu; rfl
  obtain ⟨i, f, hlost, -⟩ := u.slotLost_modifies sl
  have hslc : (u.slotLost sl).slc = s.slc := by rw [hlost]; exact huslc
  have hal : (u.slotLost sl).al = s.al := by rw [hlost]; exact hual
  have hfp : (u.slotLost sl).fp = s.fp := by rw [hlost]; exact hufp
  have htu : (u.slotLost sl).tu = s.tu := by rw [hlost]; exact hutu
  have hnow : (u.slotLost sl).now = u.now := by rw [hlost]; rfl
  have hsa : (u.slotLost sl).sa = u.sa := by rw [hlost]; rfl
  have hgen (k : Nat) : (u.slotLost sl).genAt k = u.genAt k := by rw [hlost]; exact State.genAt_modifyEntry ..
  have hhead : (u.slotLost sl).noHeadTaken :=
    State.noHeadTaken_congr hslc (by rw [hal]) (State.noHeadTaken_of_settled h)
  have hclosed : (u.slotLost sl).maySendReport = false :=
    (State.maySendReport_congr hfp htu).trans (State.settled_iff.1 h).2.1
  have hatc := State.finish_atc_of_noHeadTaken hhead
  have hslots (k : Nat) : (u.slotLost sl).finish.slotAt k = if k = n then none else s.slotAt k := by
    unfold State.slotAt
    rw [State.finish_sa, hsa]
    subst hu
    exact State.slotAt_set (State.slotAt_lt hsl) k
  refine ⟨_, hevent, ?_, ?_, fun k hk => ?_, ?_, ?_, fun hb => ?_, fun k => ?_, fun k hk => ?_,
    fun i e x hb hi he hname hx hstate => ?_⟩
  · rw [State.finish_now, hnow, ← hu]
  · rw [hslots, if_pos rfl]
  · rw [hslots, if_neg hk]
  · rw [State.finish_al_of_noHeadTaken hhead, hal]
  · rw [State.finish_tu_of_closed hclosed, htu]
  · rw [hatc, State.slotLost_unbound hb, huatc]
  · rw [State.finish_genAt, hgen, ← hu]
    rfl
  · rw [State.entryAt, hatc]
    refine (State.slotLost_entryAt ?_).trans ?_
    · rw [← hu]
      exact hk
    · rw [← hu]
      rfl
  · rw [State.entryAt, hatc]
    refine State.slotLost_text hb ?_ ?_ hname hx hstate
    · rw [← hu]
      exact hi
    · rw [← hu]
      exact he

end Sys2Proof.Machine
end

section
/-! What a shortage of slots or blocks gives up for a page's text segment (R60 to R64). -/

namespace Sys2Proof.Machine

/-- What a page's text segment does where only the table, the slots, notices and flags change. -/
theorem page_text_rests {s m : State} {p : Page} {rest : List Page} {seg : TextSegment} (h : s.settled = true)
    (hk : s.keepsPower) (hfifo : s.fp.pageFifo = p :: rest) (hfresh : s.freshAt s.now) (hkind : p.kind = .text)
    (hread : readText p.segment = some seg) (htake : (s.unread rest).takeText seg = m)
    (hm : m = { s.unread rest with atc := m.atc, sa := m.sa, al := m.al })
    (hpart : m.al.participation = s.al.participation) : exec .pageFifoProcess s = .next m := by
  have hevent := page_text hfifo hfresh hkind hread
  rw [htake] at hevent
  exact page_rests h hk hevent hm hpart

/-- A slot given up changes the table only. -/
theorem State.slotLost_table (s : State) (low : Slot) : s.slotLost low = { s with atc := (s.slotLost low).atc } := by
  obtain ⟨i, f, h, -⟩ := s.slotLost_modifies low
  rw [h]
  rfl

theorem State.slotLost_slotAt (s : State) (low : Slot) (n : Nat) : (s.slotLost low).slotAt n = s.slotAt n := by
  rw [s.slotLost_table low]
  rfl

theorem State.slotLost_slots (s : State) (low : Slot) : (s.slotLost low).sa = s.sa := by
  rw [s.slotLost_table low]

theorem State.slotLost_now (s : State) (low : Slot) : (s.slotLost low).now = s.now := by
  rw [s.slotLost_table low]

/-- The slot given up and the text of the new one, in one event (R53, R60). -/
theorem State.textStarted_slotLost {s : State} {low : Slot} {key : SlotKey} {i : Nat} {e : Entry} {x : TextRecord}
    (hi : s.slotOf key.id = some i) (he : s.entryAt i = some e) (hx : e.texts[key.text]? = some x)
    (hstate : x.state ≠ .collecting) :
    (s.slotLost low).textStarted key =
      (s.slotLost low).modifyEntry i fun e =>
        { e with texts := e.texts.set key.text { x with state := .collecting } } := by
  obtain ⟨j, f, h, hid, htexts⟩ := s.slotLost_modifies low
  have hslot : (s.slotLost low).slotOf key.id = some i := by
    rw [h, State.slotOf_modifyEntry s j f key.id hid]
    exact hi
  by_cases hj : i = j
  · subst hj
    refine State.textStarted_eq hslot ?_ (htexts e _ x hx hstate)
    rw [h]
    exact State.entryAt_modifyEntry_same he f
  · refine State.textStarted_eq hslot ?_ hx
    rw [h, State.entryAt_modifyEntry_ne hj]
    exact he

/-! ### A slot shortage (R60) -/

/-- A segment that finds no slot is dropped without a flag. -/
theorem State.openSlot_shortage {s : State} {seg : TextSegment} {bound : Bool} {precedence : Nat}
    (hfull : ∀ n < s.sa.slots.length, s.slotAt n ≠ none)
    (hlow : ∀ n low, s.slotAt n = some low → precedence ≤ low.precedence) : s.openSlot seg bound precedence = s :=
  State.openSlot_refused
    ((State.reserveSlot_full (State.freeSlot_eq_none hfull) _).trans (State.takeLowestSlot_none hlow)) seg bound

/-- A segment takes the lowest slot of a lower precedence. -/
theorem State.openSlot_displaces {s : State} {seg : TextSegment} {n i : Nat} {low : Slot} {e : Entry} {text : TextRecord}
    {precedence : Nat} (hfull : ∀ n < s.sa.slots.length, s.slotAt n ≠ none) (h : s.LowestSlot n low)
    (hlower : low.precedence < precedence) (hcount : 2 ≤ seg.count) (hused : s.usedBlocks ≤ 128)
    (hblock : ∃ b, some b ∈ low.received) (hi : s.slotOf seg.id = some i) (he : s.entryAt i = some e)
    (hx : e.texts[seg.text]? = some text) (hstate : text.state = .absent) :
    s.openSlot seg true precedence =
      (State.slotLost (s.withSlots (s.sa.slots.set n (some (newSlotFor seg true precedence s.now)))) low).modifyEntry i
        fun e => { e with texts := e.texts.set seg.text { text with state := .collecting } } := by
  have hlt := State.slotAt_lt h.1
  have hlength : (s.withSlots (s.sa.slots.set n none)).sa.slots.length = s.sa.slots.length := by simp
  have hreserve : s.reserveSlot precedence = some ((s.withSlots (s.sa.slots.set n none)).slotLost low) :=
    (State.reserveSlot_full (State.freeSlot_eq_none hfull) _).trans (h.takeLowestSlot hlower)
  have hfree : ((s.withSlots (s.sa.slots.set n none)).slotLost low).freeSlot = some n := by
    refine State.freeSlot_of_lowest ?_ ?_ fun k hk => ?_
    · rw [State.slotLost_slots, hlength]
      exact hlt
    · rw [State.slotLost_slotAt]
      exact State.slotAt_withSlots_set hlt none
    · rw [State.slotLost_slotAt, State.slotAt_set hlt, if_neg (Nat.ne_of_lt hk)]
      exact hfull k (Nat.lt_trans hk hlt)
  have hobtain : ((s.withSlots (s.sa.slots.set n none)).slotLost low).obtainBlock precedence =
      some ((s.withSlots (s.sa.slots.set n none)).slotLost low) := by
    refine State.obtainBlock_of_free ?_ _
    rw [← State.discardSlot_eq h.1]
    exact Nat.lt_of_lt_of_le (State.discardSlot_usedBlocks_lt h.1 hblock) hused
  rw [State.openSlot_eq hreserve hfree hobtain, State.slotLost_withSlots, State.slotLost_slots, State.slotLost_now]
  have hset : (s.withSlots (s.sa.slots.set n none)).withSlots
      ((s.withSlots (s.sa.slots.set n none)).sa.slots.set n (some (newSlotFor seg true precedence s.now))) =
      s.withSlots (s.sa.slots.set n (some (newSlotFor seg true precedence s.now))) := by
    unfold State.withSlots
    dsimp only
    rw [List.set_set]
  have hnow : (s.withSlots (s.sa.slots.set n none)).now = s.now := rfl
  rw [hnow, hset]
  dsimp only
  have hstarts (l : List (Option Slot)) := State.textStarted_slotLost (s := s.withSlots l) (low := low) (key := seg.key)
    hi he hx (by rw [hstate]; nofun)
  rw [if_pos rfl, hstarts]
  refine State.afterStore_rests (sl := newSlotFor seg true precedence s.now) ?_ (.inr (newSlotFor_gap hcount))
  rw [State.modifyEntry_slotAt, State.slotLost_slotAt]
  exact State.slotAt_withSlots_set hlt _

/-! ### A block shortage (R61 to R64) -/

/-- A store after a text was released. -/
theorem State.joinSlot_releases {s : State} {seg : TextSegment} {n j k : Nat} {sl : Slot} {f : Entry}
    (h : s.slotAt n = some sl) (hcount : seg.count = sl.count) (hgap : sl.received[seg.index]? = some none)
    (hrelease : s.ReleasesText j f k) (hused : s.usedBlocks = 128)
    (hrest : ∃ k', k' ≠ seg.index ∧ sl.received[k']? = some none) :
    s.joinSlot n seg = (s.withSlots (s.sa.slots.set n (some (sl.stored seg)))).modifyEntry j fun f =>
      f.withText k .released :=
  State.joinSlot_stores h hcount hgap (hrelease.obtainBlock hused _) h (.inr hrest)

/-- A store after the lowest slot was given up. -/
theorem State.joinSlot_displaces {s : State} {seg : TextSegment} {n m : Nat} {sl low : Slot}
    (h : s.slotAt n = some sl) (hcount : seg.count = sl.count) (hgap : sl.received[seg.index]? = some none)
    (hlow : s.LowestSlot m low) (hlower : low.precedence < sl.precedence) (hblock : ∃ b, some b ∈ low.received)
    (hused : s.usedBlocks = 128) (hnone : ∀ j f k, s.entryAt j = some f → ¬ f.releasable k)
    (hrest : ∃ k', k' ≠ seg.index ∧ sl.received[k']? = some none) :
    s.joinSlot n seg =
      (s.withSlots ((s.sa.slots.set m none).set n (some (sl.stored seg)))).slotLost low := by
  have hne : n ≠ m := by
    rintro rfl
    rw [Option.some.inj (h.symm.trans hlow.1)] at hlower
    exact Nat.lt_irrefl _ hlower
  have hat : ((s.withSlots (s.sa.slots.set m none)).slotLost low).slotAt n = some sl := by
    rw [State.slotLost_slotAt, State.slotAt_set (State.slotAt_lt hlow.1), if_neg hne]
    exact h
  rw [State.joinSlot_stores h hcount hgap (hlow.obtainBlock hlower hblock hused hnone) hat (.inr hrest),
    State.slotLost_withSlots, State.slotLost_slots]
  rfl

theorem State.joinSlot_exhausted {s : State} {seg : TextSegment} {n : Nat} {sl : Slot}
    (h : s.slotAt n = some sl) (hcount : seg.count = sl.count) (hgap : sl.received[seg.index]? = some none)
    (hused : s.usedBlocks = 128) (hnone : ∀ j f k, s.entryAt j = some f → ¬ f.releasable k)
    (hlow : ∀ m low, s.slotAt m = some low → sl.precedence ≤ low.precedence) :
    s.joinSlot n seg = s.setPoolExhausted := by
  rw [State.joinSlot_obtains h hcount hgap, State.obtainBlock_none hused hnone hlow]

/-- Settles O57: the slot of the limit is given up, and a shortage gives up what R60 to R63 name. -/
theorem assemblyLimitCompletes : Obligations.AssemblyLimitCompletes := by
  refine ⟨fun s n h => ⟨assemblyLimit_idle h, fun sl => assemblyLimit_completes h⟩, ?_⟩
  intro s p rest seg h hk hfifo hkind hread hslots hfresh x
  have hrests {m : State} := page_text_rests (m := m) h hk hfifo hfresh hkind hread
  have hcollects {i : Nat} {e : Entry} (hi : s.slotOf seg.id = some i) (he : s.entryAt i = some e)
      (hname : e.state.name = .collecting) (hupdate : e.update = seg.update) :
      x.takeText seg = x.toCollecting e seg := State.takeText_collecting (s := x) hi he hname hupdate
  have hopens {i : Nat} {e : Entry} {text : TextRecord} (hi : s.slotOf seg.id = some i) (he : s.entryAt i = some e)
      (hname : e.state.name = .collecting) (hupdate : e.update = seg.update) (htext : e.texts[seg.text]? = some text)
      (hstate : text.state = .absent) (hcount : text.count = seg.count) :
      x.takeText seg = x.openSlot seg true e.precedence := by
    rw [hcollects hi he hname hupdate, State.toCollecting_absent htext hstate, if_pos hcount.symm]
  refine ⟨fun hfull => ?_, fun i n e text hi he hname hupdate htext hstate hcount hn hat hused hnone hlow => ?_,
    fun i n e text sl hi he hname hupdate htext hstate hfind hat hcount hgap hused => ?_⟩
  · have hxfull : ∀ n < x.sa.slots.length, x.slotAt n ≠ none := fun n hn => hfull n (hslots.1 ▸ hn)
    refine ⟨fun hfind hunbound => hrests ?_ rfl rfl, fun i e text hi he hname hupdate htext hstate hcount =>
      ⟨fun hlow => hrests ?_ rfl rfl, fun n low hlowest hlower htwo hused hblock => ?_⟩⟩
    · exact (State.takeText_unbound (s := x) hunbound).trans ((State.toUnbound_opens (s := x) hfind).trans
        (State.openSlot_shortage hxfull fun _ _ _ => Nat.zero_le _))
    · exact (hopens hi he hname hupdate htext hstate hcount).trans (State.openSlot_shortage hxfull hlow)
    · refine hrests ((hopens hi he hname hupdate htext hstate hcount).trans
        (State.openSlot_displaces (s := x) (e := e) hxfull hlowest hlower htwo hused hblock hi he htext hstate)) ?_ ?_
      · generalize State.openedSlot .. = new
        rw [State.slotLost_table]
        rfl
      · rw [State.slotLost_table]
        rfl
  · refine hrests ?_ rfl rfl
    obtain ⟨m, hfree⟩ := State.freeSlot_of_free (s := x) (n := n) (hslots.1.symm ▸ hn) hat
    exact (hopens hi he hname hupdate htext hstate hcount).trans
      (State.openSlot_exhausted hfree (State.obtainBlock_none (s := x) hused hnone hlow) _ _)
  · have hjoins : x.takeText seg = x.joinSlot n seg :=
      (hcollects hi he hname hupdate).trans (State.toCollecting_joins (s := x) htext hstate hfind)
    refine ⟨fun hnone hlow => hrests (hjoins.trans ?_) rfl rfl, fun k' hk' hgap' => ⟨fun j f k hrelease => ?_,
      fun m low hnone hlowest hlower hblock => ?_⟩⟩
    · exact State.joinSlot_exhausted (s := x) hat hcount hgap hused hnone hlow
    · refine hrests (hjoins.trans ?_) rfl rfl
      exact State.joinSlot_releases (s := x) hat hcount hgap hrelease hused ⟨k', hk', hgap'⟩
    · refine hrests (hjoins.trans
        (State.joinSlot_displaces (s := x) hat hcount hgap hlowest hlower hblock hused hnone ⟨k', hk', hgap'⟩)) ?_ ?_
      · rw [State.slotLost_table]
        rfl
      · rw [State.slotLost_table]
        rfl

end Sys2Proof.Machine
end

section
/-! Text segments of pages that join or open a slot (R51 to R56). -/

namespace Sys2Proof.Machine

/-! ### A text COMPLETE, and perhaps its entry (R34, R55) -/

/-- The entry has another text that is not COMPLETE. -/
theorem State.leaveIfComplete_waits {s : State} {i k : Nat} {e : Entry} {x : TextRecord} (he : s.entryAt i = some e)
    (hx : e.texts[k]? = some x) (hstate : ∀ chain, x.state ≠ .complete chain) : s.leaveIfComplete i = s := by
  unfold State.leaveIfComplete
  rw [he]
  refine if_neg fun ⟨_, hall⟩ => ?_
  have hcomplete := List.all_eq_true.1 hall x (List.mem_of_getElem? hx)
  cases hs : x.state with
  | complete chain => exact hstate chain hs
  | absent | collecting | released =>
    rw [hs] at hcomplete
    cases hcomplete

theorem State.leaveIfComplete_leaves {s : State} {i : Nat} {e : Entry} (he : s.entryAt i = some e)
    (hname : e.state.name = .collecting)
    (h : ∀ (k : Nat) (x : TextRecord), e.texts[k]? = some x → ∃ chain, x.state = .complete chain) :
    s.leaveIfComplete i = s.leaveCollecting i := by
  unfold State.leaveIfComplete
  rw [he]
  refine if_pos ⟨Entry.collecting_iff_name.2 hname, List.all_eq_true.2 fun x hx => ?_⟩
  obtain ⟨k, hk⟩ := List.mem_iff_getElem?.1 hx
  obtain ⟨chain, hchain⟩ := h k x hk
  rw [hchain]

/-- What leaving COLLECTING leaves of Power Control's neighbours where R113 has nothing to do. -/
theorem LeftWith.finish_rest {u m : State} {i : Nat} {e' : Entry} (h : LeftWith u m i e') (hu : u.noHeadTaken)
    (hk : u.keepsPower) : m.finish.slc = u.slc ∧ m.finish.fp = u.fp ∧ m.finish.atc.position = u.atc.position
      ∧ m.finish.atc.optIn = u.atc.optIn ∧ m.finish.atc.map = u.atc.map := by
  have hatc := h.finish_atc hu
  have hkeeps : m.keepsPower := State.keepsPower_congr (by rw [h.eq]; rfl) hk
  rw [hatc]
  refine ⟨?_, ?_, rfl, rfl, rfl⟩
  · rw [State.finish_slc_of_noHeadTaken hkeeps (h.noHeadTaken hu), h.eq]
    rfl
  · rw [State.finish_of_keepsPower hkeeps, State.sendReport_fp, State.takeHead_of_noHeadTaken (h.noHeadTaken hu), h.eq]
    rfl

/-- A segment that makes a text COMPLETE: the entry waits for its other texts, or leaves COLLECTING. -/
theorem page_completes {s : State} {p : Page} {rest : List Page} {seg : TextSegment} {i : Nat} {e : Entry}
    {text : TextRecord} {chain : List Block} {sa : Sa} (h : s.settled = true) (hk : s.keepsPower)
    (hfifo : s.fp.pageFifo = p :: rest) (hfresh : s.freshAt s.now) (hkind : p.kind = .text)
    (hread : readText p.segment = some seg) (he : s.entryAt i = some e) (hname : e.state.name = .collecting) :
    let texts := e.texts.set seg.text { text with state := .complete chain }
    let y : State := State.modifyEntry { s.unread rest with sa := sa } i fun e => { e with texts := texts }
    (s.unread rest).takeText seg = y.leaveIfComplete i →
      (∀ (k : Nat) (other : TextRecord), k ≠ seg.text → e.texts[k]? = some other → (∀ chain, other.state ≠ .complete chain) →
          exec .pageFifoProcess s = .next y)
        ∧ ((∀ (k : Nat) (other : TextRecord), k ≠ seg.text → e.texts[k]? = some other → ∃ chain, other.state = .complete chain) →
          ∃ t e', exec .pageFifoProcess s = .next t ∧ t.now = s.now ∧ t.entryAt i = some e'
            ∧ s.LeavesCollecting t i { e with texts := texts } e' ∧ t.sa = sa
            ∧ (∀ k, k ≠ i → t.entryAt k = s.entryAt k) ∧ (∀ k, t.genAt k = s.genAt k)
            ∧ t.slc = s.slc ∧ t.fp = { s.fp with pageFifo := rest } ∧ t.atc.position = s.atc.position
            ∧ t.atc.optIn = s.atc.optIn ∧ t.atc.map = s.atc.map) := by
  intro texts y htake
  have hye : y.entryAt i = some { e with texts := texts } :=
    State.entryAt_modifyEntry_same (s := { s.unread rest with sa := sa }) he _
  have hyne (k : Nat) (hne : k ≠ i) : y.entryAt k = s.entryAt k :=
    State.entryAt_modifyEntry_ne (s := { s.unread rest with sa := sa }) hne _
  have hygen (k : Nat) : y.genAt k = s.genAt k := State.genAt_modifyEntry { s.unread rest with sa := sa } i k _
  have hother {k : Nat} (hne : k ≠ seg.text) : texts[k]? = e.texts[k]? := List.getElem?_set_ne (Ne.symm hne)
  refine ⟨fun k other hne hother' hstate => ?_, fun hall => ?_⟩
  · rw [State.leaveIfComplete_waits hye ((hother hne).trans hother') hstate] at htake
    exact page_text_rests h hk hfifo hfresh hkind hread htake rfl rfl
  · have hcomplete : ∀ (k : Nat) (x : TextRecord), texts[k]? = some x → ∃ chain, x.state = .complete chain := by
      intro k x hx
      by_cases hkt : k = seg.text
      · subst hkt
        rw [List.getElem?_set_self'] at hx
        obtain ⟨_, -, rfl⟩ := Option.map_eq_some_iff.1 hx
        exact ⟨chain, rfl⟩
      · exact hall k x hkt ((hother hkt).symm.trans hx)
    rw [State.leaveIfComplete_leaves hye hname hcomplete] at htake
    have hevent := page_text hfifo hfresh hkind hread
    rw [htake] at hevent
    have hdecides : DecidesAs (s.unread rest) y := ⟨rfl, rfl, rfl, rfl, rfl, rfl⟩
    have hhead : y.noHeadTaken := State.noHeadTaken_drained (pages := rest) (frames := s.slc.rxFifo) h
    obtain ⟨e', hleft, hleaves⟩ := leavesCollecting_finish hdecides (hygen i) hye
      (fun hx => by rw [show e.state.name = .expired from hx] at hname; cases hname) hhead
      (State.maySendReport_drained (pages := rest) (frames := s.slc.rxFifo) h) rfl
    obtain ⟨hentry, hne, hgen, hnow, -, hsa, -⟩ := hleft.finish hye hhead
    exact ⟨_, e', hevent, hnow, hentry, hleaves, hsa, fun k hk' => (hne k hk').trans (hyne k hk'),
      fun k => (hgen k).trans (hygen k), hleft.finish_rest hhead hk⟩

end Sys2Proof.Machine
end

section
/-! Slots opened and filled by a page's text segment (R51 to R56). -/

namespace Sys2Proof.Machine

/-! ### A slot opened in a free number (R53) -/

theorem State.openSlot_free {s : State} {seg : TextSegment} {bound : Bool} {precedence n : Nat}
    (hfree : s.freeSlot = some n) (hused : s.usedBlocks < 128) :
    s.openSlot seg bound precedence =
      let s₃ := s.withSlots (s.sa.slots.set n (some (newSlotFor seg bound precedence s.now)))
      (if bound then s₃.textStarted seg.key else s₃).afterStore n :=
  State.openSlot_eq (State.reserveSlot_free hfree _) hfree (State.obtainBlock_of_free hused _)

/-- An unbound slot opens, and stays open even when it is full (R56). -/
theorem State.openSlot_unbound {s : State} {seg : TextSegment} {n : Nat} (hfree : s.freeSlot = some n)
    (hused : s.usedBlocks < 128) :
    s.openSlot seg false 0 = s.withSlots (s.sa.slots.set n (some (newSlotFor seg false 0 s.now))) := by
  rw [State.openSlot_free hfree hused]
  have hlt := (List.getElem?_eq_some_iff.1 (s.freeSlot_some hfree)).1
  exact State.afterStore_rests (State.slotAt_withSlots_set hlt _) (.inl rfl)

section
variable {s : State} {seg : TextSegment} {n i : Nat} {e : Entry} {text : TextRecord} {precedence : Nat}

theorem State.openSlot_bound (hfree : s.freeSlot = some n) (hused : s.usedBlocks < 128)
    (hi : s.slotOf seg.id = some i) (he : s.entryAt i = some e) (hx : e.texts[seg.text]? = some text) :
    s.openSlot seg true precedence =
      (State.modifyEntry (s.withSlots (s.sa.slots.set n (some (newSlotFor seg true precedence s.now)))) i fun e =>
        { e with texts := e.texts.set seg.text { text with state := .collecting } }).afterStore n := by
  have hstarts (l : List (Option Slot)) := State.textStarted_eq (s := s.withSlots l) (key := seg.key) hi he hx
  rw [State.openSlot_free hfree hused]
  dsimp only
  rw [if_pos rfl, hstarts]
  rfl

/-- A bound slot opens with the first segment of several. -/
theorem State.openSlot_begins (hfree : s.freeSlot = some n) (hused : s.usedBlocks < 128)
    (hi : s.slotOf seg.id = some i) (he : s.entryAt i = some e) (hx : e.texts[seg.text]? = some text)
    (hcount : 2 ≤ seg.count) :
    s.openSlot seg true precedence =
      State.modifyEntry (s.withSlots (s.sa.slots.set n (some (newSlotFor seg true precedence s.now)))) i fun e =>
        { e with texts := e.texts.set seg.text { text with state := .collecting } } := by
  rw [State.openSlot_bound hfree hused hi he hx]
  have hlt := (List.getElem?_eq_some_iff.1 (s.freeSlot_some hfree)).1
  exact State.afterStore_rests (State.slotAt_withSlots_set hlt _) (.inr (newSlotFor_gap hcount))

theorem TextSegment.index_lt_count {bytes : List Byte} (h : readText bytes = some seg) : seg.index < seg.count := by
  unfold readText at h
  split at h
  · dsimp only at h
    split at h
    · next hok =>
      obtain rfl := Option.some.inj h
      have htext := hok.2
      unfold textOk at htext
      simp only [Bool.and_eq_true, decide_eq_true_eq] at htext
      exact htext.1.1.1.2
    · cases h
  · cases h

theorem newSlotFor_single {bound : Bool} {now : Micros} (hindex : seg.index < seg.count) (hcount : seg.count = 1) :
    (newSlotFor seg bound precedence now).received = [some ⟨seg.payload⟩] := by
  have hzero : seg.index = 0 := by omega
  unfold newSlotFor
  rw [hcount, hzero]
  rfl

/-- The texts of an entry one of whose records is changed twice. -/
theorem Entry.withText_set {e : Entry} {k : Nat} {x : TextRecord} (h : e.texts[k]? = some x) (st st' : TextState) :
    Entry.withText { e with texts := e.texts.set k { x with state := st } } k st' =
      { e with texts := e.texts.set k { x with state := st' } } := by
  have hset : (e.texts.set k { x with state := st })[k]? = some { x with state := st } := by
    rw [List.getElem?_set_self', h]
    rfl
  rw [Entry.withText_eq (e := { e with texts := e.texts.set k { x with state := st } }) hset]
  dsimp only
  rw [List.set_set]

/-- A full bound slot closes and its text is COMPLETE (R55). -/
theorem State.afterStore_closes {s : State} {n i : Nat} {sl : Slot} (h : s.slotAt n = some sl)
    (hb : sl.bound = true) (hfull : sl.full = true) (hi : s.slotOf sl.key.id = some i) :
    s.afterStore n =
      ((s.withSlots (s.sa.slots.set n none)).modifyEntry i fun e =>
        e.withText sl.key.text (.complete sl.chain)).leaveIfComplete i :=
  State.afterStore_completes h hb hfull hi

/-- A text of one segment is COMPLETE at once (R53, R55). -/
theorem State.openSlot_completes (hfree : s.freeSlot = some n) (hused : s.usedBlocks < 128)
    (hi : s.slotOf seg.id = some i) (he : s.entryAt i = some e) (hx : e.texts[seg.text]? = some text)
    (hindex : seg.index < seg.count) (hcount : seg.count = 1) :
    s.openSlot seg true precedence =
      (s.modifyEntry i fun f =>
        { f with texts := e.texts.set seg.text { text with state := .complete [⟨seg.payload⟩] } }).leaveIfComplete i := by
  obtain ⟨hlt, hat⟩ := List.getElem?_eq_some_iff.1 (s.freeSlot_some hfree)
  have hreceived := newSlotFor_single (bound := true) (precedence := precedence) (now := s.now) hindex hcount
  generalize hnew : newSlotFor seg true precedence s.now = new at hreceived
  have hkey : new.key = seg.key := by subst hnew; rfl
  have hbound : new.bound = true := by subst hnew; rfl
  have hfull : new.full = true := by
    unfold Slot.full
    rw [hreceived]
    rfl
  have hchain : new.chain = [⟨seg.payload⟩] := by
    unfold Slot.chain
    rw [hreceived]
    rfl
  rw [State.openSlot_bound hfree hused hi he hx, hnew]
  have hclose := State.afterStore_closes
    (s := (s.withSlots (s.sa.slots.set n (some new))).modifyEntry i fun e =>
      { e with texts := e.texts.set seg.text { text with state := .collecting } })
    (n := n) (i := i) (sl := new) (State.slotAt_withSlots_set hlt _) hbound hfull (by
      rw [hkey]
      refine Eq.trans (State.slotOf_modifyEntry (s.withSlots (s.sa.slots.set n (some new))) i _ _ ?_) hi
      exact fun _ => rfl)
  rw [hclose, State.modifyEntry_withSlots_modifyEntry, hkey, hchain]
  have hslots : (s.withSlots (s.sa.slots.set n (some new))).withSlots
      (((s.withSlots (s.sa.slots.set n (some new))).modifyEntry i fun e =>
        { e with texts := e.texts.set seg.text { text with state := .collecting } }).sa.slots.set n none) = s := by
    show { s with sa := { s.sa with slots := (s.sa.slots.set n (some new)).set n none } } = s
    rw [List.set_set, ← hat, List.set_getElem_self]
  rw [hslots]
  congr 1
  refine State.modifyEntry_congr fun f hf => ?_
  obtain rfl := Option.some.inj (he.symm.trans hf)
  exact Entry.withText_set hx .collecting _

/-- The last missing segment of a bound slot makes its text COMPLETE (R54, R55). -/
theorem State.joinSlot_completes {sl : Slot} (h : s.slotAt n = some sl) (hkey : sl.key = seg.key)
    (hb : sl.bound = true) (hcount : seg.count = sl.count) (hgap : sl.received[seg.index]? = some none)
    (hused : s.usedBlocks < 128) (hlast : ∀ j, j ≠ seg.index → sl.received[j]? ≠ some none)
    (hi : s.slotOf seg.id = some i) (he : s.entryAt i = some e) (hx : e.texts[seg.text]? = some text) :
    s.joinSlot n seg =
      ((s.withSlots (s.sa.slots.set n none)).modifyEntry i fun f =>
        { f with texts := e.texts.set seg.text { text with state := .complete (sl.stored seg).chain } }).leaveIfComplete
          i := by
  have hlt := State.slotAt_lt h
  have hfull : (sl.stored seg).full = true := by
    refine Slot.full_iff.2 fun m hm => ?_
    unfold Slot.stored at hm
    dsimp only at hm
    rw [List.getElem?_set] at hm
    split at hm
    · split at hm <;> cases hm
    · next hne => exact hlast m (Ne.symm hne) hm
  rw [State.joinSlot_obtains h hcount hgap, State.obtainBlock_of_free hused]
  dsimp only
  rw [State.storeIn_eq h, State.afterStore_closes (sl := sl.stored seg) (State.slotAt_withSlots_set hlt _) hb hfull
    (show s.slotOf sl.key.id = some i by rw [hkey]; exact hi)]
  have hslots : (s.withSlots (s.sa.slots.set n (some (sl.stored seg)))).withSlots
      ((s.withSlots (s.sa.slots.set n (some (sl.stored seg)))).sa.slots.set n none) =
      s.withSlots (s.sa.slots.set n none) := by
    unfold State.withSlots
    dsimp only
    rw [List.set_set]
  have htext : (sl.stored seg).key.text = seg.text := by
    show sl.key.text = _
    rw [hkey]
    rfl
  rw [hslots, htext]
  congr 1
  refine State.modifyEntry_congr fun f hf => ?_
  obtain rfl := Option.some.inj (he.symm.trans hf)
  exact Entry.withText_eq hx _

end

/-! ### The page's segment by its entry and its slot (R51) -/

section
variable {s : State} {p : Page} {rest : List Page} {seg : TextSegment}

/-- A segment of the entry's own update, or of a stale one, that opens a slot or none. -/
theorem page_text_of_entry {i : Nat} {e : Entry} (h : s.settled = true) (hk : s.keepsPower)
    (hfifo : s.fp.pageFifo = p :: rest) (hfresh : s.freshAt s.now) (hkind : p.kind = .text)
    (hread : readText p.segment = some seg) (hi : s.slotOf seg.id = some i) (he : s.entryAt i = some e) :
    let x := s.unread rest
    (seg.update < e.update ∨ seg.update = e.update ∧ e.state.name ≠ .collecting →
        exec .pageFifoProcess s = .next x)
      ∧ (e.state.name = .collecting → seg.update = e.update → e.texts[seg.text]? = none →
        exec .pageFifoProcess s = .next x.setMalformed)
      ∧ ∀ text, e.state.name = .collecting → seg.update = e.update → e.texts[seg.text]? = some text →
        (∀ chain, text.state = .complete chain → exec .pageFifoProcess s = .next x)
          ∧ (text.state = .absent → seg.count ≠ text.count → exec .pageFifoProcess s = .next x.setMalformed)
          ∧ ∀ n < 8, text.state = .absent → seg.count = text.count → 2 ≤ seg.count → s.slotsOk →
            s.usedBlocks < 128 → s.slotAt n = none → (∀ k < n, s.slotAt k ≠ none) →
            exec .pageFifoProcess s = .next (State.modifyEntry
              { x with sa := { s.sa with
                slots := s.sa.slots.set n (some (s.openedSlot seg true e.precedence)) } } i fun e =>
              { e with texts := e.texts.set seg.text { text with state := .collecting } }) := by
  intro x
  have hrests {m : State} := page_text_rests (m := m) h hk hfifo hfresh hkind hread
  have hcollects (hname : e.state.name = .collecting) (hupdate : seg.update = e.update) :
      x.takeText seg = x.toCollecting e seg := State.takeText_collecting (s := x) hi he hname hupdate.symm
  refine ⟨fun hlate => hrests (State.takeText_late (s := x) hi he hlate) rfl rfl, fun hname hupdate hnone =>
    hrests ((hcollects hname hupdate).trans (State.toCollecting_unlisted hnone)) rfl rfl,
    fun text hname hupdate htext => ⟨fun chain hstate =>
      hrests ((hcollects hname hupdate).trans (State.toCollecting_complete htext hstate)) rfl rfl,
      fun hstate hcount => ?_, fun n hn hstate hcount htwo hslots hused hat hbelow => ?_⟩⟩
  · refine hrests ((hcollects hname hupdate).trans ?_) rfl rfl
    rw [State.toCollecting_absent htext hstate, if_neg hcount]
  · refine hrests ((hcollects hname hupdate).trans ?_) rfl rfl
    rw [State.toCollecting_absent htext hstate, if_pos hcount]
    have hfree : x.freeSlot = some n := State.freeSlot_of_lowest (s := x) (hslots.1.symm ▸ hn) hat hbelow
    exact State.openSlot_begins (s := x) hfree hused hi he htext htwo

end

/-- A segment that is a text by itself. -/
theorem State.takeText_single {s : State} {seg : TextSegment} {i : Nat} {e : Entry} {text : TextRecord}
    (hi : s.slotOf seg.id = some i) (he : s.entryAt i = some e) (hname : e.state.name = .collecting)
    (hupdate : seg.update = e.update) (htext : e.texts[seg.text]? = some text) (hstate : text.state = .absent)
    (hcount : seg.count = text.count) (hindex : seg.index < seg.count) (hone : seg.count = 1) (hslots : s.slotsOk)
    (hused : s.usedBlocks < 128) (hfree : ∃ n < 8, s.slotAt n = none) :
    s.takeText seg = (s.modifyEntry i fun f =>
      { f with texts := e.texts.set seg.text { text with state := .complete [⟨seg.payload⟩] } }).leaveIfComplete i := by
  obtain ⟨n, hn, hat⟩ := hfree
  obtain ⟨m, hm⟩ := State.freeSlot_of_free (n := n) (hslots.1.symm ▸ hn) hat
  rw [State.takeText_collecting hi he hname hupdate.symm, State.toCollecting_absent htext hstate, if_pos hcount]
  exact State.openSlot_completes hm hused hi he htext hindex hone

/-- A segment that joins an open slot and leaves it unbound or incomplete (R52, R54, R56). -/
theorem page_joins {s : State} {p : Page} {rest : List Page} {seg : TextSegment} {n : Nat} {sl : Slot}
    (h : s.settled = true) (hk : s.keepsPower) (hfifo : s.fp.pageFifo = p :: rest) (hfresh : s.freshAt s.now)
    (hkind : p.kind = .text) (hread : readText p.segment = some seg) (hat : s.slotAt n = some sl)
    (hjoins : (s.unread rest).takeText seg = (s.unread rest).joinSlot n seg) :
    let x := s.unread rest
    (seg.count ≠ sl.count → exec .pageFifoProcess s = .next x.setMalformed)
      ∧ (∀ b, seg.count = sl.count → sl.received[seg.index]? = some (some b) → exec .pageFifoProcess s = .next x)
      ∧ (seg.count = sl.count → sl.received[seg.index]? = some none → s.usedBlocks < 128 →
          sl.bound = false ∨ (∃ k, k ≠ seg.index ∧ sl.received[k]? = some none) →
          exec .pageFifoProcess s = .next
            { x with sa := { s.sa with slots := s.sa.slots.set n (some (sl.stored seg)) } }) := by
  intro x
  have hrests {m : State} (heq : x.joinSlot n seg = m) :=
    page_text_rests (m := m) h hk hfifo hfresh hkind hread (hjoins.trans heq)
  refine ⟨fun hcount => hrests (State.joinSlot_refuses (s := x) hat hcount) rfl rfl,
    fun b hcount hblock => hrests (State.joinSlot_repeats (s := x) hat hcount hblock) rfl rfl,
    fun hcount hgap hused hrest => hrests ?_ rfl rfl⟩
  exact State.joinSlot_stores (s := x) hat hcount hgap (State.obtainBlock_of_free (s := x) hused _) hat hrest

end Sys2Proof.Machine
end

section
/-! A header of a new identity, out of either FIFO (R17 to R19, R25, R26, R30 to R32). -/

namespace Sys2Proof.Machine

/-! ### The entry of a header (R5, R19) -/

theorem State.newEntry_taken {s : State} {cfg : Settings} (h : HeaderSegment) (origin : Origin) (rssi : Option Int)
    (st : EntryState) : s.newEntry (h.taken cfg.hopLimit) origin rssi st = s.firstEntry cfg h origin rssi st := by
  have hend : s.now + seconds (60 * min h.lifetime 1440) = s.now + 60000000 * min h.lifetime 1440 := by
    rw [seconds_eq, ← Nat.mul_assoc]
  unfold State.newEntry State.firstEntry Entry.fill HeaderSegment.taken
  dsimp only
  rw [hend]
  rfl

theorem State.settings_eq {s : State} {cfg : Settings} (h : s.al.config = some cfg) : s.settings = cfg := by
  unfold State.settings
  rw [h]
  rfl

/-- The tombstone of a CANCEL has its relay started (R26). -/
theorem State.madeEntry_cancel {s : State} {cfg : Settings} {h : HeaderSegment} (hconfig : s.al.config = some cfg)
    (haction : h.action = .cancel) (origin : Origin) (rssi : Option Int) :
    s.madeEntry cfg h origin rssi = s.relayStarted (s.firstEntry cfg h origin rssi .cancelled) := by
  unfold State.madeEntry State.relayStarted
  rw [haction, State.settings_eq hconfig]
  rfl

theorem State.madeEntry_alert {s : State} {cfg : Settings} {h : HeaderSegment} (haction : h.action = .alert)
    (origin : Origin) (rssi : Option Int) :
    s.madeEntry cfg h origin rssi = s.firstEntry cfg h origin rssi (.collecting (s.now + 300000000)) := by
  unfold State.madeEntry
  rw [haction]

theorem startedRelay_ne_queued (cls : RelayClass) (cfg : Settings) (p : Participation) (now : Micros) (e : Entry) :
    startedRelay cls cfg p now e ≠ .queued := by
  unfold startedRelay
  split_ifs <;> nofun

theorem State.madeEntry_unqueued (s : State) (cfg : Settings) (h : HeaderSegment) (origin : Origin)
    (rssi : Option Int) : (s.madeEntry cfg h origin rssi).unqueued := by
  unfold State.madeEntry
  cases h.action with
  | alert => exact ⟨nofun, nofun⟩
  | cancel => exact ⟨fun hq => startedRelay_ne_queued _ _ _ _ _ hq, nofun⟩

/-! ### The newcomer in its slot -/

/-- The slots that are left once a header of this identity and update is accepted and none was bound. -/
def HeaderSegment.passedOver (h : HeaderSegment) (l : List (Option Slot)) : List (Option Slot) :=
  l.map fun o => o.filter fun sl => !(sl.key.id == h.id && decide (sl.key.update ≤ h.update))

/-- The state with a newcomer's entry in slot `i`, of the next generation, and the slots it passes over gone. -/
def State.newcomer (s : State) (i : Nat) (h : HeaderSegment) (made : Entry) : State :=
  { s.modifySlot i fun sl => ⟨sl.gen + 1, some made⟩ with
    sa := { s.sa with slots := h.passedOver s.sa.slots } }

theorem State.newcomer_entryAt {s : State} {i : Nat} (hi : i < s.atc.table.length) (h : HeaderSegment) (made : Entry)
    (k : Nat) : (s.newcomer i h made).entryAt k = if i = k then some made else s.entryAt k := by
  refine (State.entryAt_modifySlot s i k _).trans ?_
  split
  · next hik => rw [← hik, List.getElem?_eq_getElem hi, Option.bind_some]
  · rfl

theorem State.newcomer_genAt {s : State} {i : Nat} (hi : i < s.atc.table.length) (h : HeaderSegment) (made : Entry)
    (k : Nat) : (s.newcomer i h made).genAt k = if i = k then s.genAt k + 1 else s.genAt k := by
  refine (State.genAt_modifySlot s i k _).trans ?_
  split
  · next hik =>
    unfold State.genAt
    rw [← hik, List.getElem?_eq_getElem hi]
    rfl
  · rfl

/-- An acceptance binds nothing where no slot is of the identity (R57). -/
theorem State.bindSlots_none {s : State} {i k : Nat} {e : Entry} {x : TextRecord} (he : s.entryAt i = some e)
    (hnone : ∀ n sl, s.slotAt n = some sl → sl.key.id ≠ e.id) (hx : e.texts[k]? = some x)
    (hstate : ∀ chain, x.state ≠ .complete chain) : s.bindSlots i = s := by
  have hbind (n : Nat) : State.bindSlot i s n = s := by
    unfold State.bindSlot
    rw [he]
    cases hsl : s.slotAt n with
    | none => rfl
    | some sl => exact if_neg fun hc => hnone n sl hsl hc.1
  have hcomplete (text : Nat) : State.completeBound i s text = s := by
    unfold State.completeBound
    rw [he]
    dsimp only
    cases hfind : s.findSlot ⟨e.id, e.update, text⟩ with
    | none => rfl
    | some n =>
      obtain ⟨sl, hsl, hkey⟩ := State.findSlot_some hfind
      exact absurd (by rw [hkey]) (hnone n sl hsl)
  unfold State.bindSlots
  dsimp only
  rw [List.foldl_fixed' hbind, List.foldl_fixed' hcomplete]
  exact State.leaveIfComplete_waits he hx hstate

/-- The first text of an entry that a header made is not COMPLETE. -/
theorem firstEntry_text {s : State} {cfg : Settings} {h : HeaderSegment} (htexts : h.texts ≠ []) (origin : Origin)
    (rssi : Option Int) (st : EntryState) : ∃ x : TextRecord,
      (s.firstEntry cfg h origin rssi st).texts[0]? = some x ∧ x.state = .absent := by
  unfold State.firstEntry
  dsimp only
  cases hl : h.texts with
  | nil => exact absurd hl htexts
  | cons spec rest => exact ⟨⟨spec.lang, spec.count, .absent⟩, rfl, rfl⟩

/-- A CANCEL's tombstone, with its empty tally, is not due for a report. -/
theorem State.reportJoins_blank {s : State} {cfg : Settings} {i : Nat} {e : Entry} (hconfig : s.al.config = some cfg)
    (hstep : 1 ≤ cfg.reportStep) (htally : e.tally = .list []) (hreported : e.lastReported = 0) :
    s.reportJoins i e = s.tu.reportQueue := by
  have hcount : tallyCount e.tally = 0 := by
    rw [htally]
    rfl
  unfold State.reportJoins
  rw [State.settings_eq hconfig]
  refine if_neg fun hdue => ?_
  rw [hcount, hreported] at hdue
  omega

section
variable {u v : State} {cfg : Settings} {h : HeaderSegment} {origin : Origin} {rssi : Option Int} {i : Nat}

/-- An ALERT's entry created where no slot is of its identity (R25). -/
theorem State.newAlert_room (haction : h.action = .alert)
    (hroom : u.makeRoom (u.category h.category).precedence = some (v, i)) (hi : i < v.atc.table.length)
    (hnone : ∀ n sl, v.slotAt n = some sl → sl.key.id ≠ h.id) (htexts : h.texts ≠ []) :
    u.newAlert (h.taken cfg.hopLimit) origin rssi = v.newcomer i h (v.madeEntry cfg h origin rssi) := by
  have hfilter (p : Slot → Bool) (hp : ∀ sl, p sl = true → sl.key.id = h.id) :
      v.sa.slots.map (Option.filter fun sl => !p sl) = v.sa.slots := by
    refine List.ext_getElem? fun n => ?_
    rw [List.getElem?_map]
    rcases hn : v.sa.slots[n]? with - | - | sl
    · rfl
    · rfl
    · have hno : p sl = false := Bool.eq_false_iff.2 fun hp' => hnone n sl (v.slotAt_some.2 hn) (hp sl hp')
      rw [Option.map_some, Option.filter_some, hno]
      rfl
  have hpassed : h.passedOver v.sa.slots = v.sa.slots :=
    hfilter (fun sl => sl.key.id == h.id && decide (sl.key.update ≤ h.update)) fun sl hsl => by
      simp only [Bool.and_eq_true, beq_iff_eq] at hsl
      exact hsl.1
  have hlower := hfilter (fun sl => sl.key.id == h.id && decide (sl.key.update < h.update)) fun sl hsl => by
    simp only [Bool.and_eq_true, beq_iff_eq] at hsl
    exact hsl.1
  have hmade : v.newEntry (h.taken cfg.hopLimit) origin rssi (.collecting (v.now + seconds 300)) =
      v.madeEntry cfg h origin rssi := by
    rw [State.newEntry_taken, State.madeEntry_alert haction, seconds_eq]
  have hcreated : v.createEntry i (h.taken cfg.hopLimit) origin rssi (.collecting (v.now + seconds 300)) =
      v.newcomer i h (v.madeEntry cfg h origin rssi) := by
    rw [State.createEntry_eq, hmade]
    unfold State.newcomer
    rw [hpassed]
    rfl
  have hdiscard : (v.newcomer i h (v.madeEntry cfg h origin rssi)).discardSlots
      (fun sl => sl.key.id == (h.taken cfg.hopLimit).id && decide (sl.key.update < (h.taken cfg.hopLimit).update)) =
      v.newcomer i h (v.madeEntry cfg h origin rssi) := by
    unfold State.newcomer State.discardSlots State.withSlots
    dsimp only
    rw [hpassed]
    exact congrArg (fun l => ({ v.modifySlot i fun sl => ⟨sl.gen + 1, some (v.madeEntry cfg h origin rssi)⟩ with
      sa := { v.sa with slots := l } } : State)) hlower
  have hentry : (v.newcomer i h (v.madeEntry cfg h origin rssi)).entryAt i = some (v.madeEntry cfg h origin rssi) := by
    rw [State.newcomer_entryAt hi, if_pos rfl]
  obtain ⟨x, hx, hstate⟩ := firstEntry_text (s := v) (cfg := cfg) htexts origin rssi (.collecting (v.now + 300000000))
  unfold State.newAlert
  have hroom' : u.makeRoom (u.category (h.taken cfg.hopLimit).category).precedence = some (v, i) := hroom
  rw [hroom']
  dsimp only
  rw [hcreated, hdiscard]
  refine State.bindSlots_none (k := 0) (x := x) hentry (fun n sl hsl => ?_) ?_ (by rw [hstate]; nofun)
  · have hid : (v.madeEntry cfg h origin rssi).id = h.id := by
      rw [State.madeEntry_alert haction]
      rfl
    rw [hid]
    refine hnone n sl ?_
    unfold State.slotAt at hsl ⊢
    rw [← hpassed]
    exact hsl
  · rw [State.madeEntry_alert haction]
    exact hx

/-- A CANCEL's tombstone created (R26). -/
theorem State.newCancel_room (haction : h.action = .cancel) (hconfig : v.al.config = some cfg)
    (hroom : u.makeRoom (u.category h.category).precedence = some (v, i)) (hi : i < v.atc.table.length)
    (hstep : 1 ≤ cfg.reportStep) :
    u.newCancel (h.taken cfg.hopLimit) origin rssi = v.newcomer i h (v.madeEntry cfg h origin rssi) := by
  have hcreated : (v.createEntry i (h.taken cfg.hopLimit) origin rssi .cancelled).discardSlots
      (fun sl => sl.key.id == (h.taken cfg.hopLimit).id && decide (sl.key.update ≤ (h.taken cfg.hopLimit).update)) =
      v.newcomer i h (v.firstEntry cfg h origin rssi .cancelled) := by
    rw [State.createEntry_eq, State.newEntry_taken]
    rfl
  unfold State.newCancel
  have hroom' : u.makeRoom (u.category (h.taken cfg.hopLimit).category).precedence = some (v, i) := hroom
  rw [hroom']
  dsimp only
  rw [hcreated]
  generalize hw : v.newcomer i h (v.firstEntry cfg h origin rssi .cancelled) = w
  have hentry : w.entryAt i = some (v.firstEntry cfg h origin rssi .cancelled) := by
    rw [← hw, State.newcomer_entryAt hi, if_pos rfl]
  have hstarted : w.startRelay i = w.modifyEntry i fun _ => v.madeEntry cfg h origin rssi := by
    rw [State.startRelay_eq hentry rfl, State.madeEntry_cancel hconfig haction]
    have hrelay : w.relayStarted (v.firstEntry cfg h origin rssi .cancelled) =
        v.relayStarted (v.firstEntry cfg h origin rssi .cancelled) := by
      subst hw
      rfl
    rw [hrelay]
  have hmade : (w.modifyEntry i fun _ => v.madeEntry cfg h origin rssi) =
      v.newcomer i h (v.madeEntry cfg h origin rssi) := by
    subst hw
    have htable (f : TableSlot → TableSlot) (g : TableSlot → TableSlot) :
        (v.atc.table.modify i f).modify i g = v.atc.table.modify i (g ∘ f) := List.modify_modify_eq ..
    unfold State.modifyEntry State.newcomer State.modifySlot State.withTable
    dsimp only
    rw [htable]
    rfl
  rw [hstarted, State.testReportDue_modifyEntry hentry]
  have hjoins : w.reportJoins i (v.madeEntry cfg h origin rssi) = w.tu.reportQueue := by
    refine State.reportJoins_blank (cfg := cfg) ?_ hstep ?_ ?_
    · rw [← hw]
      exact hconfig
    · rw [State.madeEntry_cancel hconfig haction]
      rfl
    · rw [State.madeEntry_cancel hconfig haction]
      rfl
  rw [hjoins]
  exact hmade

end

end Sys2Proof.Machine
end

section
/-! Creation, eviction and drop for a header of a new identity, with the end of its event (R17, R25, R26, R30 to
R32). -/

namespace Sys2Proof.Machine

/-! ### The victim evicted (R31) -/

/-- The state with the entry `e` of slot `i` gone, its jobs ended, its bound slots and its report element given up. -/
def State.evicted (s : State) (i : Nat) (e : Entry) : State :=
  { s with
    slc := s.slc.endingAll s.now e.id
    sa := { s.sa with slots := s.sa.slots.map fun o => o.filter fun sl => !(sl.bound && sl.key.id == e.id) }
    tu := { s.tu with reportQueue := s.tu.reportQueue.filter (· ≠ i) }
    atc := { s.atc with table := s.atc.table.modify i fun sl => { sl with entry := none } } }

theorem endedUnder_id (p : Participation) (job : Job) (e : Entry) : (endedUnder p job e).id = e.id := by
  unfold endedUnder
  split <;> split <;> rfl

theorem State.evict_of_slotOf {s : State} {i : Nat} {e : Entry} (hi : s.slotOf e.id = some i) :
    s.evict i e = s.evicted i e := by
  have hid {f : Entry → Entry} {kind : JobKind} {p : Participation}
      (hf : f = (fun e => e) ∨ ∃ job : Job, job.kind = kind ∧ f = endedUnder p job) (e : Entry) : (f e).id = e.id := by
    rcases hf with rfl | ⟨job, -, rfl⟩
    · rfl
    · exact endedUnder_id p job e
  obtain ⟨f, hf, hrelay⟩ := State.endJob_of_slotOf .relay hi
  have hslot : ((s.withSlc (s.slc.ending s.now e.id .relay)).modifyEntry i f).slotOf e.id = some i := by
    rw [State.slotOf_modifyEntry _ i f e.id (hid hf)]
    exact hi
  obtain ⟨g, -, htally⟩ := State.endJob_of_slotOf .tally hslot
  have hslc : ((s.withSlc (s.slc.ending s.now e.id .relay)).modifyEntry i f).slc.ending
      ((s.withSlc (s.slc.ending s.now e.id .relay)).modifyEntry i f).now e.id .tally = s.slc.endingAll s.now e.id :=
    s.slc.ending_relay_tally s.now e.id
  rw [hslc] at htally
  have htable : (((s.atc.table.modify i fun sl => { sl with entry := sl.entry.map f }).modify i fun sl =>
      { sl with entry := sl.entry.map g }).modify i fun sl => { sl with entry := none }) =
      s.atc.table.modify i fun sl => { sl with entry := none } := by
    rw [List.modify_modify_eq, List.modify_modify_eq]
    rfl
  rw [State.evict_eq, hrelay, htally]
  unfold State.evicted
  rw [← htable, ← filter_bne]
  rfl

section
variable {s : State} {i : Nat} {e : Entry}

theorem State.evicted_entryAt_ne {k : Nat} (h : k ≠ i) : (s.evicted i e).entryAt k = s.entryAt k :=
  (State.entryAt_modifySlot s i k _).trans (if_neg (Ne.symm h))

theorem State.evicted_genAt (k : Nat) : (s.evicted i e).genAt k = s.genAt k := by
  refine (State.genAt_modifySlot s i k fun sl => { sl with entry := none }).trans ?_
  split <;> rfl

theorem State.evicted_slotAt {n : Nat} {sl : Slot} (h : (s.evicted i e).slotAt n = some sl) : s.slotAt n = some sl :=
  (State.slotAt_discardSlots_some (p := fun sl => sl.bound && sl.key.id == e.id) |>.1 h).1

end

/-! ### Room for the newcomer (R17, R30) -/

section
variable {s v : State} {cfg : Settings} {h : HeaderSegment} {origin : Origin} {rssi : Option Int} {i : Nat}

/-- A new identity's entry in the slot made for it. -/
theorem State.takeHeader_room (hnew : s.slotOf h.id = none) (hconfig : v.al.config = some cfg)
    (hroom : s.makeRoom (s.category h.category).precedence = some (v, i)) (hi : i < v.atc.table.length)
    (halert : h.action = .alert → h.texts ≠ [] ∧ ∀ n sl, v.slotAt n = some sl → sl.key.id ≠ h.id)
    (hcancel : h.action = .cancel → 1 ≤ cfg.reportStep) :
    s.takeHeader (h.taken cfg.hopLimit) origin rssi = v.newcomer i h (v.madeEntry cfg h origin rssi) := by
  have hnew' : s.slotOf (h.taken cfg.hopLimit).id = none := hnew
  have haction : (h.taken cfg.hopLimit).action = h.action := rfl
  unfold State.takeHeader
  rw [hnew', haction]
  cases ha : h.action with
  | alert =>
    obtain ⟨htexts, hnone⟩ := halert ha
    exact State.newAlert_room ha hroom hi hnone htexts
  | cancel => exact State.newCancel_room ha hconfig hroom hi (hcancel ha)

theorem State.makeRoom_empty (htable : s.tableOk) (hi : i < 32) (hempty : s.entryAt i = none)
    (hbelow : ∀ k < i, s.entryAt k ≠ none) (newcomer : Nat) : s.makeRoom newcomer = some (s, i) := by
  have hlength := (State.tableOk_iff.1 htable).1
  have hat {k : Nat} (hk : k < s.atc.table.length) : s.entryAt k = s.atc.table[k].entry := by
    unfold State.entryAt
    rw [List.getElem?_eq_getElem hk]
    rfl
  have hfound : s.emptySlot = some i := by
    refine List.findIdx?_eq_some_iff_getElem.2 ⟨hlength.symm ▸ hi, ?_, fun k hk => ?_⟩
    · rw [← hat, hempty]
      rfl
    · rw [← hat]
      exact fun hnone => hbelow k hk (Option.isNone_iff_eq_none.1 hnone)
  unfold State.makeRoom
  rw [hfound]

theorem State.emptySlot_eq_none (htable : s.tableOk) (hfull : ∀ k < 32, s.entryAt k ≠ none) : s.emptySlot = none := by
  cases hfound : s.emptySlot with
  | none => rfl
  | some k =>
    obtain ⟨hk, hnone⟩ := s.emptySlot_spec hfound
    exact absurd hnone (hfull k ((State.tableOk_iff.1 htable).1 ▸ hk))

theorem State.makeRoom_victim {e : Entry} {newcomer : Nat} (htable : s.tableOk) (hfull : ∀ k < 32, s.entryAt k ≠ none)
    (hvictim : s.IsVictim newcomer i e) : s.makeRoom newcomer = some (s.evicted i e, i) := by
  unfold State.makeRoom
  rw [State.emptySlot_eq_none htable hfull]
  dsimp only
  rw [hvictim.findVictim]
  dsimp only
  rw [hvictim.1, Option.map_some, State.evict_of_slotOf (State.slotOf_of_entryAt htable hvictim.1)]

theorem State.makeRoom_none {newcomer : Nat} (htable : s.tableOk) (hfull : ∀ k < 32, s.entryAt k ≠ none)
    (hnone : ∀ k f, s.entryAt k = some f → evictionGroup newcomer f = none) : s.makeRoom newcomer = none := by
  unfold State.makeRoom
  rw [State.emptySlot_eq_none htable hfull]
  dsimp only
  rw [State.findVictim_none hnone]

/-- A newcomer for which there is no room is dropped (R32). -/
theorem State.takeHeader_dropped (hnew : s.slotOf h.id = none)
    (hroom : s.makeRoom (s.category h.category).precedence = none) (hopLimit : Nat) :
    s.takeHeader (h.taken hopLimit) origin rssi = s.dropNewcomer h.id := by
  have hnew' : s.slotOf (h.taken hopLimit).id = none := hnew
  have haction : (h.taken hopLimit).action = h.action := rfl
  have hroom' : s.makeRoom (s.category (h.taken hopLimit).category).precedence = none := hroom
  unfold State.takeHeader
  rw [hnew', haction]
  cases h.action with
  | alert =>
    dsimp only
    unfold State.newAlert
    rw [hroom']
    rfl
  | cancel =>
    dsimp only
    unfold State.newCancel
    rw [hroom']
    rfl

end

/-! ### The event (R25, R26, R30 to R32) -/

theorem State.finish_fp (m : State) : m.finish.fp = m.fp := by
  unfold State.finish
  rw [State.settlePower_fp, State.sendReport_fp, (sidelinkOnly_takeHead m).fp]

section
variable {s : State} {cfg : Settings} {h : HeaderSegment} {origin : Origin} {rssi : Option Int} {pages : List Page}
  {frames : List RxFrame} {ex : Result} {i : Nat}

/-- The newcomer in an empty slot. -/
theorem newIdentity_created (hs : s.settled = true) (hk : s.keepsPower) (hconfig : s.al.config = some cfg)
    (htable : s.tableOk) (hnew : s.slotOf h.id = none)
    (hex : ex = .next ((s.drained pages frames).takeHeader (h.taken cfg.hopLimit) origin rssi).finish)
    (halert : h.action = .alert → h.texts ≠ [] ∧ ∀ n sl, s.slotAt n = some sl → sl.key.id ≠ h.id)
    (hcancel : h.action = .cancel → 1 ≤ cfg.reportStep) (hi : i < 32) (hempty : s.entryAt i = none)
    (hbelow : ∀ k < i, s.entryAt k ≠ none) :
    ex = .next ((s.drained pages frames).newcomer i h (s.madeEntry cfg h origin rssi)) := by
  have hlt : i < (s.drained pages frames).atc.table.length := (State.tableOk_iff.1 htable).1.symm ▸ hi
  have htake := State.takeHeader_room (s := s.drained pages frames) (v := s.drained pages frames) (origin := origin)
    (rssi := rssi) hnew hconfig (State.makeRoom_empty (s := s.drained pages frames) htable hi hempty hbelow _) hlt
    halert hcancel
  rw [hex, htake]
  exact congrArg (fun m : State => (.next m : Result))
    (State.finish_of_drained (m := (s.drained pages frames).newcomer i h (s.madeEntry cfg h origin rssi)) hs hk rfl rfl)

/-- The newcomer dropped. -/
theorem newIdentity_dropped (hs : s.settled = true) (hk : s.keepsPower)
    (htable : s.tableOk) (hnew : s.slotOf h.id = none)
    (hex : ex = .next ((s.drained pages frames).takeHeader (h.taken cfg.hopLimit) origin rssi).finish)
    (hfull : ∀ k < 32, s.entryAt k ≠ none)
    (hnone : ∀ k f, s.entryAt k = some f → evictionGroup (s.category h.category).precedence f = none) :
    ex = .next { s.drained pages frames with
      sa := { s.sa with slots := s.sa.slots.map fun o => o.filter fun sl => !(!sl.bound && sl.key.id == h.id) }
      al := Al.queued { s.al with flags := { s.al.flags with tableFull := true } } .tableFull } := by
  rw [hex, State.takeHeader_dropped (s := s.drained pages frames) hnew
    (State.makeRoom_none (s := s.drained pages frames) htable hfull hnone)]
  unfold State.dropNewcomer
  rw [State.queueNotice_eq]
  exact congrArg (fun m : State => (.next m : Result)) (State.finish_of_drained hs hk rfl rfl)

end

end Sys2Proof.Machine
end

section
/-! PAGE_FIFO_PROCESS (R168) and the headers that its entry ignores (R23, R24). -/

namespace Sys2Proof.Machine

section
variable {s : State} {cfg : Settings} {h : HeaderSegment} {origin : Origin} {rssi : Option Int} {pages : List Page}
  {frames : List RxFrame} {ex : Result} {i : Nat}

/-- The newcomer in the slot of the victim. -/
theorem newIdentity_evicts {v : Entry} (hs : s.settled = true) (hk : s.keepsPower) (hconfig : s.al.config = some cfg)
    (htable : s.tableOk) (hnew : s.slotOf h.id = none)
    (hex : ex = .next ((s.drained pages frames).takeHeader (h.taken cfg.hopLimit) origin rssi).finish)
    (halert : h.action = .alert → h.texts ≠ [] ∧ ∀ n sl, s.slotAt n = some sl → sl.key.id ≠ h.id)
    (hcancel : h.action = .cancel → 1 ≤ cfg.reportStep) (hfull : ∀ k < 32, s.entryAt k ≠ none)
    (hvictim : s.IsVictim (s.category h.category).precedence i v) :
    ∃ t, ex = .next t
      ∧ (t.now = s.now ∧ t.entryAt i = some (s.madeEntry cfg h origin rssi) ∧ t.genAt i = s.genAt i + 1
        ∧ (∀ k, k ≠ i → t.genAt k = s.genAt k) ∧ t.fp = (s.drained pages frames).fp)
      ∧ (s.noHeadFollows v.id → t.al = s.al ∧ ∀ k, k ≠ i → t.entryAt k = s.entryAt k)
      ∧ t.sa.slots = s.sa.slots.map (fun o => o.filter fun sl =>
          !(sl.bound && sl.key.id == v.id) && !(sl.key.id == h.id && decide (sl.key.update ≤ h.update)))
      ∧ t.tu = { s.tu with reportQueue := s.tu.reportQueue.filter (· ≠ i) }
      ∧ (s.drained pages frames).JobsEnded t v.id := by
  generalize hx : s.drained pages frames = x at hex
  have hxtable : x.tableOk := by subst hx; exact htable
  have hxfull : ∀ k < 32, x.entryAt k ≠ none := by subst hx; exact hfull
  have hxvictim : x.IsVictim (x.category h.category).precedence i v := by subst hx; exact hvictim
  have hmade : (x.evicted i v).madeEntry cfg h origin rssi = s.madeEntry cfg h origin rssi := by subst hx; rfl
  have hilt : i < (x.evicted i v).atc.table.length := by
    show i < (x.atc.table.modify i _).length
    rw [List.length_modify]
    exact x.entryAt_lt hxvictim.1
  have htake := State.takeHeader_room (s := x) (v := x.evicted i v) (origin := origin) (rssi := rssi)
    (by subst hx; exact hnew) (by subst hx; exact hconfig) (State.makeRoom_victim hxtable hxfull hxvictim) hilt
    (fun ha => ⟨(halert ha).1, fun n sl hsl => (halert ha).2 n sl (by
      have hat := State.evicted_slotAt hsl
      subst hx
      exact hat)⟩) hcancel
  rw [htake, hmade] at hex
  have hentry (k : Nat) := State.newcomer_entryAt hilt h (s.madeEntry cfg h origin rssi) k
  have hgen (k : Nat) := State.newcomer_genAt hilt h (s.madeEntry cfg h origin rssi) k
  generalize hm : (x.evicted i v).newcomer i h (s.madeEntry cfg h origin rssi) = m at hex hentry hgen
  have hmslc : m.slc = x.slc.endingAll m.now v.id := by subst hm; rfl
  have hmal : m.al = s.al := by subst hm hx; rfl
  have hpart : m.al.participation = x.al.participation := by subst hm; rfl
  have hmk : m.keepsPower := State.keepsPower_congr (s := s) (by subst hm hx; rfl) hk
  have hxhead : x.noHeadTaken := by
    subst hx
    exact State.noHeadTaken_drained hs
  have hmtu : m.tu = { s.tu with reportQueue := s.tu.reportQueue.filter (· ≠ i) } := by subst hm hx; rfl
  have hclosed : m.maySendReport = false := by
    refine Bool.eq_false_iff.2 fun hmay => ?_
    obtain ⟨hqueue, hopen⟩ := State.maySendReport_iff.1 hmay
    have hsend : s.maySendReport = true := by
      refine State.maySendReport_iff.2 ⟨fun hnil => hqueue ?_, ?_⟩
      · rw [hmtu, hnil]
        rfl
      · subst hm hx
        exact hopen
    rw [(State.settled_iff.1 hs).2.1] at hsend
    cases hsend
  refine ⟨m.finish, hex, ⟨?_, ?_, ?_, fun k hki => ?_, ?_⟩, fun hfollows => ⟨?_, fun k hki => ?_⟩, ?_, ?_, ?_⟩
  · rw [State.finish_now, ← hm, ← hx]
    rfl
  · refine State.finish_entryAt_of_unqueued ?_ (s.madeEntry_unqueued cfg h origin rssi)
    rw [hentry, if_pos rfl]
  · rw [State.finish_genAt, hgen, if_pos rfl, State.evicted_genAt, ← hx]
    rfl
  · rw [State.finish_genAt, hgen, if_neg (Ne.symm hki), State.evicted_genAt, ← hx]
    rfl
  · rw [State.finish_fp, ← hm, ← hx]
    rfl
  · rw [State.finish_al_of_noHeadTaken (State.noHeadTaken_of_endingAll hxhead hmslc hpart (by subst hx; exact hfollows)),
      hmal]
  · rw [State.entryAt,
      State.finish_atc_of_noHeadTaken (State.noHeadTaken_of_endingAll hxhead hmslc hpart (by subst hx; exact hfollows))]
    refine (hentry k).trans ((if_neg (Ne.symm hki)).trans ((State.evicted_entryAt_ne hki).trans ?_))
    rw [← hx]
    rfl
  · rw [State.finish_sa, ← hm, ← hx]
    show h.passedOver (s.sa.slots.map _) = _
    unfold HeaderSegment.passedOver
    rw [List.map_map]
    refine List.map_congr_left fun o _ => ?_
    cases o with
    | none => rfl
    | some sl =>
      simp only [Function.comp_apply, Option.filter_some]
      cases (sl.bound && sl.key.id == v.id) <;> simp [Option.filter_some]
  · rw [State.finish_tu_of_closed hclosed, hmtu]
  · exact State.jobsEnded_finish hxhead hmslc hpart hmk

/-- A header of a new identity, out of either FIFO. -/
theorem newIdentity (hs : s.settled = true) (hk : s.keepsPower) (hconfig : s.al.config = some cfg)
    (htable : s.tableOk) (hnew : s.slotOf h.id = none) (hlisted : h.action = .alert → h.texts ≠ [])
    (hex : ex = .next ((s.drained pages frames).takeHeader (h.taken cfg.hopLimit) origin rssi).finish) :
    s.NewIdentity (s.drained pages frames) ex cfg h origin rssi := by
  refine ⟨fun hnone hstep => ?_, newIdentity_dropped hs hk htable hnew hex⟩
  have halert (ha : h.action = .alert) : h.texts ≠ [] ∧ ∀ n sl, s.slotAt n = some sl → sl.key.id ≠ h.id :=
    ⟨hlisted ha, hnone ha⟩
  refine ⟨fun i hi hempty hbelow => ?_, fun i v hfull hvictim =>
    newIdentity_evicts hs hk hconfig htable hnew hex halert hstep hfull hvictim⟩
  have hcreated := newIdentity_created hs hk hconfig htable hnew hex halert hstep hi hempty hbelow
  have hlt : i < (s.drained pages frames).atc.table.length := (State.tableOk_iff.1 htable).1.symm ▸ hi
  have hentry (k : Nat) := State.newcomer_entryAt hlt h (s.madeEntry cfg h origin rssi) k
  have hgen (k : Nat) := State.newcomer_genAt hlt h (s.madeEntry cfg h origin rssi) k
  exact ⟨_, hcreated, ⟨rfl, (hentry i).trans (if_pos rfl), (hgen i).trans (if_pos rfl),
    fun k hki => (hgen k).trans (if_neg (Ne.symm hki)), rfl⟩, rfl,
    fun k hki => (hentry k).trans (if_neg (Ne.symm hki)), rfl, rfl, rfl, rfl, rfl⟩

end

/-! ### Headers read (R4) -/

theorem readHeader_ok {bytes : List Byte} {h : HeaderSegment} (hread : readHeader bytes = some h) :
    headerOk h = true := by
  unfold readHeader at hread
  split at hread
  · split at hread
    · split at hread
      · dsimp only at hread
        split at hread
        · next hok =>
          obtain rfl := Option.some.inj hread
          exact hok
        · cases hread
      · cases hread
    · cases hread
  · cases hread

/-- A sound ALERT lists a text (R4). -/
theorem readHeader_texts {bytes : List Byte} {h : HeaderSegment} (hread : readHeader bytes = some h)
    (haction : h.action = .alert) : h.texts ≠ [] := by
  have hok := readHeader_ok hread
  unfold headerOk at hok
  rw [haction] at hok
  intro hnil
  rw [hnil] at hok
  simp at hok

theorem page_header {s : State} {cfg : Settings} {p : Page} {rest : List Page} {h : HeaderSegment}
    (hconfig : s.al.config = some cfg) (hfifo : s.fp.pageFifo = p :: rest) (hfresh : s.freshAt s.now)
    (hkind : p.kind = .header) (hread : readHeader p.segment = some h) :
    exec .pageFifoProcess s =
      .next ((s.drained rest s.slc.rxFifo).takeHeader (h.taken cfg.hopLimit) .cell none).finish := by
  have hsettings : (s.unread rest).settings = cfg := State.settings_eq (s := s.unread rest) hconfig
  rw [page_event hfifo hfresh]
  unfold State.takePage
  rw [hkind]
  dsimp only
  rw [hread]
  dsimp only
  rw [hsettings]

/-- A page that is malformed sets MALFORMED and does nothing more (R3). -/
theorem page_malformed {s : State} {p : Page} {rest : List Page} (h : s.settled = true) (hk : s.keepsPower)
    (hfifo : s.fp.pageFifo = p :: rest) (hfresh : s.freshAt s.now)
    (hbad : p.kind = .header ∧ readHeader p.segment = none ∨ p.kind = .text ∧ readText p.segment = none) :
    exec .pageFifoProcess s = .next (s.unread rest).setMalformed := by
  have htake : (s.unread rest).takePage p = (s.unread rest).setMalformed := by
    unfold State.takePage
    rcases hbad with ⟨hkind, hnone⟩ | ⟨hkind, hnone⟩
    · rw [hkind]
      dsimp only
      rw [hnone]
    · rw [hkind]
      dsimp only
      rw [hnone]
  have hevent := page_event hfifo hfresh
  rw [htake] at hevent
  exact page_rests h hk hevent rfl rfl

theorem page_empty {s : State} (h : s.settled = true) (hfifo : s.fp.pageFifo = []) :
    exec .pageFifoProcess s = .next s.begin := by
  show execPageFifoProcess s = _
  unfold execPageFifoProcess
  refine event_rest ?_ h
  have hnil : s.begin.fp.pageFifo = [] := hfifo
  rw [hnil]

/-! ### Ignored headers (R23) -/

theorem classify_stale {e : Entry} {h : HeaderSegment} (hlt : h.update < e.update) : classify e h = .ignored := by
  unfold classify
  rw [if_neg (Nat.lt_asymm hlt), if_pos (.inr hlt)]

theorem classify_expired {e : Entry} {h : HeaderSegment} (heq : h.update = e.update) (hname : e.state.name = .expired) :
    classify e h = .ignored := by
  unfold classify
  rw [heq, if_neg (Nat.lt_irrefl _), if_pos (.inl (Entry.isExpired_iff.2 hname))]

theorem classify_live {e : Entry} {h : HeaderSegment} (heq : h.update = e.update) (hname : e.state.name ≠ .expired) :
    classify e h =
      if h.action = e.action then .duplicate else if h.action = .alert then .ignored else .cancel := by
  unfold classify
  rw [heq, if_neg (Nat.lt_irrefl _),
    if_neg fun hor => hor.elim (fun hx => hname (Entry.isExpired_iff.1 hx)) (Nat.lt_irrefl _)]
  cases h.action <;> rfl

theorem classify_taken (e : Entry) (h : HeaderSegment) (hopLimit : Nat) :
    classify e (h.taken hopLimit) = classify e h := rfl

section
variable {s : State} {h : HeaderSegment} {origin : Origin} {rssi : Option Int} {i : Nat} {e : Entry}

theorem State.takeHeader_known (hi : s.slotOf h.id = some i) (he : s.entryAt i = some e) (hopLimit : Nat) :
    s.takeHeader (h.taken hopLimit) origin rssi =
      match classify e h with
      | .ignored => s
      | .duplicate =>
        match origin with
        | .cell => s
        | .peer => s.countDuplicate i (min h.hop hopLimit)
      | .supersede => s.supersede i e (h.taken hopLimit) origin rssi
      | .cancel => s.cancelEntry i e (h.taken hopLimit) origin rssi := by
  have hi' : s.slotOf (h.taken hopLimit).id = some i := hi
  unfold State.takeHeader
  rw [hi']
  dsimp only
  rw [he]
  dsimp only
  rw [classify_taken]
  cases classify e h <;> cases origin <;> rfl

theorem State.takeHeader_ignored (hi : s.slotOf h.id = some i) (he : s.entryAt i = some e)
    (hc : classify e h = .ignored) (hopLimit : Nat) : s.takeHeader (h.taken hopLimit) origin rssi = s := by
  rw [State.takeHeader_known hi he, hc]

/-- A cell duplicate changes nothing (R24). -/
theorem State.takeHeader_cell (hi : s.slotOf h.id = some i) (he : s.entryAt i = some e)
    (hc : classify e h = .ignored ∨ classify e h = .duplicate) (hopLimit : Nat) :
    s.takeHeader (h.taken hopLimit) .cell rssi = s := by
  rw [State.takeHeader_known hi he]
  rcases hc with hc | hc
  · rw [hc]
  · rw [hc]

end

theorem classify_cell {e : Entry} {h : HeaderSegment} (hcase : h.update < e.update
      ∨ h.update = e.update ∧ h.action = e.action
      ∨ h.update = e.update ∧ (e.state.name = .expired ∨ h.action = .alert)) :
    classify e h = .ignored ∨ classify e h = .duplicate := by
  rcases hcase with hlt | ⟨heq, hsame⟩ | ⟨heq, hname | haction⟩
  · exact .inl (classify_stale hlt)
  · by_cases hname : e.state.name = .expired
    · exact .inl (classify_expired heq hname)
    · rw [classify_live heq hname, if_pos hsame]
      exact .inr rfl
  · exact .inl (classify_expired heq hname)
  · by_cases hname : e.state.name = .expired
    · exact .inl (classify_expired heq hname)
    · rw [classify_live heq hname, haction]
      split
      · exact .inr rfl
      · exact .inl rfl

/-- An unbound slot opens for a segment that no entry takes (R51, R53). -/
theorem page_opens_unbound {s : State} {p : Page} {rest : List Page} {seg : TextSegment} {n : Nat}
    (h : s.settled = true) (hk : s.keepsPower) (hfifo : s.fp.pageFifo = p :: rest) (hfresh : s.freshAt s.now)
    (hkind : p.kind = .text) (hread : readText p.segment = some seg) (hnew : s.slotOf seg.id = none)
    (hslots : s.slotsOk) (hused : s.usedBlocks < 128)
    (hkeys : ∀ k sl, s.slotAt k = some sl → sl.key ≠ ⟨seg.id, seg.update, seg.text⟩) (hn : n < 8)
    (hat : s.slotAt n = none) (hbelow : ∀ k < n, s.slotAt k ≠ none) :
    exec .pageFifoProcess s = .next { s.unread rest with
      sa := { s.sa with slots := s.sa.slots.set n (some (s.openedSlot seg false 0)) } } := by
  have hfind : (s.unread rest).findSlot seg.key = none := by
    cases hfound : (s.unread rest).findSlot seg.key with
    | none => rfl
    | some k =>
      obtain ⟨sl, hsl, hkey⟩ := State.findSlot_some hfound
      exact absurd hkey (hkeys k sl hsl)
  have hfree : (s.unread rest).freeSlot = some n :=
    State.freeSlot_of_lowest (s := s.unread rest) (hslots.1.symm ▸ hn) hat hbelow
  refine page_text_rests h hk hfifo hfresh hkind hread ?_ rfl rfl
  exact (State.takeText_unbound (s := s.unread rest) (.inl hnew)).trans
    ((State.toUnbound_opens hfind).trans (State.openSlot_unbound (s := s.unread rest) hfree hused))

/-- Settles O46: each page has the effect of its header or segment, or sets MALFORMED. -/
theorem pageFifoProcessCompletes : Obligations.PageFifoProcessCompletes := by
  intro s cfg h hconfig
  refine ⟨page_empty h, fun p rest hfifo hk hfresh => ⟨page_malformed h hk hfifo hfresh,
    fun hd hkind hread htable hnew => ?_, fun hd i e hkind hread hi he hcase => ?_,
    fun seg n hkind hread hnew hslots hused hkeys hn hat hbelow =>
      page_opens_unbound h hk hfifo hfresh hkind hread hnew hslots hused hkeys hn hat hbelow⟩⟩
  · exact newIdentity (pages := rest) (frames := s.slc.rxFifo) h hk hconfig htable hnew (readHeader_texts hread)
      (page_header hconfig hfifo hfresh hkind hread)
  · rw [page_header hconfig hfifo hfresh hkind hread,
      State.takeHeader_cell (s := s.drained rest s.slc.rxFifo) hi he (classify_cell hcase),
      State.finish_of_settled (State.settled_drained h hk)]
    rfl

end Sys2Proof.Machine
end

section
/-! RX_FIFO_PROCESS (R105): frames, tallies and peer duplicates (R9, R101, R130, R131, R141, R151). -/

namespace Sys2Proof.Machine

/-! ### Tallies (R141, R151) -/

section
variable {s : State} {i : Nat} {e : Entry}

/-- The tally-send record after a covered report (R141). -/
def TallySend.covered (r : TallySend) : TallySend :=
  { r with state := if r.state = .sending then .sending else .idle, resend := false }

theorem State.coveredReport_eq (he : s.entryAt i = some e) :
    s.coveredReport i = State.modifyEntry
      { s with slc :=
          if e.tallySend.state = .queued ∨ e.tallySend.state = .staged then s.slc.cut s.now e.id .tally else s.slc } i
      fun _ => { e with tallySend := e.tallySend.covered } := by
  have hmark (f : TallySend → TallySend) (r : TallySend) (hr : f e.tallySend = r) :
      s.modifyTallySend i f = s.modifyEntry i fun _ => { e with tallySend := r } := by
    rw [← hr]
    exact State.modifyEntry_of_entryAt he fun e => { e with tallySend := f e.tallySend }
  unfold State.coveredReport
  rw [he]
  dsimp only
  unfold TallySend.covered
  cases hs : e.tallySend.state with
  | idle => exact hmark _ _ (by simp [hs])
  | waiting w => exact hmark _ _ (by simp)
  | sending => exact hmark _ _ (by simp [hs])
  | queued =>
    dsimp only
    rw [hmark _ _ rfl, State.cutJob_eq]
    rfl
  | staged =>
    dsimp only
    rw [hmark _ _ rfl, State.cutJob_eq]
    rfl

/-- The entry after a merge with a received tally (R151), reported covered or dirty. -/
def State.mergedEntry (s : State) (e : Entry) (received : Tally) : Entry :=
  { e with
    tally := mergeTally e.tally received
    tallySend :=
      if coveredBy (mergeTally e.tally received) received = true then e.tallySend.covered else s.dirtied s.now e }

theorem State.mergeInto_eq (he : s.entryAt i = some e) (received : Tally) :
    s.mergeInto i received = State.modifyEntry
      { s with
        slc :=
          if coveredBy (mergeTally e.tally received) received = true
              ∧ (e.tallySend.state = .queued ∨ e.tallySend.state = .staged) then
            s.slc.cut s.now e.id .tally
          else s.slc
        tu := { s.tu with reportQueue := s.reportJoins i (s.mergedEntry e received) } } i
      fun _ => s.mergedEntry e received := by
  generalize htally : mergeTally e.tally received = tally
  have hmerged : (s.modifyEntry i fun f => { f with tally := tally }).entryAt i = some { e with tally := tally } :=
    State.entryAt_modifyEntry_same he _
  unfold State.mergeInto State.mergedEntry
  rw [he]
  dsimp only
  rw [htally]
  have htest (x : Slc) (e' : Entry) :
      (State.modifyEntry { s with slc := x } i fun _ => e').testReportDue i =
        State.modifyEntry { s with slc := x, tu := { s.tu with reportQueue := s.reportJoins i e' } } i fun _ => e' :=
    State.testReportDue_modifyEntry (s := { s with slc := x }) he _
  by_cases hcovered : coveredBy tally received = true
  · rw [if_pos hcovered, State.coveredReport_eq hmerged]
    simp only [hcovered, true_and, if_true]
    have htwice (x : Slc) (f g : Entry → Entry) :
        State.modifyEntry { s.modifyEntry i f with slc := x } i g =
          State.modifyEntry { s with slc := x } i fun e => g (f e) :=
      State.modifyEntry_modifyEntry { s with slc := x } i f g
    exact Eq.trans (congrArg (State.testReportDue · i) (htwice _ _ _)) (htest _ _)
  · rw [if_neg hcovered, State.dirtyReport_eq hmerged]
    rw [if_neg hcovered, if_neg fun hc => hcovered hc.1]
    refine Eq.trans (congrArg (State.testReportDue · i) ?_) (htest s.slc _)
    exact State.modifyEntry_modifyEntry s i _ _

end

/-! ### Peer duplicates (R130, R131) -/

/-- The copy reaches the threshold of a relay that is under way (R131). -/
@[reducible] def Entry.suppressedBy (e : Entry) (threshold : Nat) : Prop :=
  threshold ≤ min 15 (e.relay.duplicates + 1)
    ∧ (e.relay.state.name = .waiting ∨ e.relay.state.name = .queued ∨ e.relay.state.name = .staged)

theorem RelayState.unfinished_iff {r : RelayState} :
    r.unfinished = true ↔ r.name = .waiting ∨ r.name = .queued ∨ r.name = .staged := by
  cases r <;> simp [RelayState.unfinished, RelayState.name]

theorem raiseHop_eq (e : Entry) (hop : Nat) : raiseHop e hop =
    if e.state.name = .collecting ∨ e.relay.state.name = .waiting ∨ e.relay.state.name = .queued then
      max e.relay.hop hop
    else e.relay.hop := by
  have hcond : (e.collecting = true ∨ e.relay.state.isWaiting = true ∨ e.relay.state = .queued) ↔
      (e.state.name = .collecting ∨ e.relay.state.name = .waiting ∨ e.relay.state.name = .queued) := by
    rw [Entry.collecting_iff_name]
    cases e.relay.state <;> simp [RelayState.isWaiting, RelayState.name]
  unfold raiseHop
  simp only [hcond]

theorem State.countDuplicate_eq {s : State} {i : Nat} {e : Entry} {cfg : Settings} (he : s.entryAt i = some e)
    (hconfig : s.al.config = some cfg) (hop : Nat) :
    s.countDuplicate i hop = State.modifyEntry
      { s with slc := if e.suppressedBy cfg.threshold then s.slc.cut s.now e.id .relay else s.slc } i fun f =>
      { f with relay := { f.relay with
        duplicates := min 15 (f.relay.duplicates + 1)
        hop :=
          if f.state.name = .collecting ∨ f.relay.state.name = .waiting ∨ f.relay.state.name = .queued then
            max f.relay.hop hop
          else f.relay.hop
        state := if e.suppressedBy cfg.threshold then .suppressed else f.relay.state } } := by
  have hsettings (f : RelayRecord → RelayRecord) : (s.modifyRelay i f).settings = cfg := State.settings_eq hconfig
  have hcond : (cfg.threshold ≤ min 15 (e.relay.duplicates + 1) ∧ e.relay.state.unfinished = true) ↔
      e.suppressedBy cfg.threshold := and_congr_right fun _ => RelayState.unfinished_iff
  unfold State.countDuplicate
  rw [he]
  dsimp only
  rw [hsettings, raiseHop_eq]
  by_cases hs : e.suppressedBy cfg.threshold
  · rw [if_pos (hcond.2 hs), if_pos hs, State.cutJob_eq]
    refine Eq.trans (State.modifyEntry_modifyEntry
      (s.withSlc (s.slc.cut s.now e.id .relay)) i _ _) (State.modifyEntry_congr fun f hf => ?_)
    obtain rfl := Option.some.inj (he.symm.trans hf)
    rw [if_pos hs]
  · rw [if_neg (mt hcond.1 hs), if_neg hs]
    refine State.modifyEntry_congr fun f hf => ?_
    obtain rfl := Option.some.inj (he.symm.trans hf)
    rw [if_neg hs]

/-! ### The receive FIFO (R105) -/

/-- The head of the receive FIFO is handed on while the position is not stale. -/
theorem rx_event {s : State} {r : RxFrame} {rest : List RxFrame} (hfifo : s.slc.rxFifo = r :: rest)
    (hoff : s.slc.medium ≠ .off) (hsampling : s.slc.medium ≠ .dozeSampling) (hfresh : s.freshAt s.now) :
    exec .rxFifoProcess s = .next ((s.drained s.fp.pageFifo rest).takeFrame r).finish := by
  have hmeasures : s.begin.slc.medium.measures = true := Medium.measures_iff.2 ⟨hoff, hsampling⟩
  have hhead : s.begin.slc.rxFifo = r :: rest := hfifo
  have hstale : (s.begin.withSlc { s.begin.slc with rxFifo := rest }).dropStale = s.drained s.fp.pageFifo rest :=
    State.dropStale_of_freshAt (s := s.begin.withSlc { s.begin.slc with rxFifo := rest }) hfresh
  show execRxFifoProcess s = _
  unfold execRxFifoProcess
  rw [event_eq, if_pos hmeasures, hhead]
  dsimp only
  rw [hstale]

theorem rx_idle {s : State} (h : s.settled = true)
    (hidle : s.slc.rxFifo = [] ∨ s.slc.medium = .off ∨ s.slc.medium = .dozeSampling) :
    exec .rxFifoProcess s = .next s.begin := by
  show execRxFifoProcess s = _
  unfold execRxFifoProcess
  refine event_rest ?_ h
  by_cases hmeasures : s.begin.slc.medium.measures = true
  · have hnil : s.begin.slc.rxFifo = [] := by
      obtain ⟨hoff, hsampling⟩ := Medium.measures_iff.1 hmeasures
      exact hidle.resolve_right fun hor => hor.elim hoff hsampling
    rw [if_pos hmeasures, hnil]
  · exact if_neg hmeasures

section
variable {s : State} {cfg : Settings} {r : RxFrame} {rest : List RxFrame}

/-- A sound frame of another station hands its segment on. -/
theorem rx_segment {seg : Segment} (hconfig : s.al.config = some cfg) (hfifo : s.slc.rxFifo = r :: rest)
    (hoff : s.slc.medium ≠ .off) (hsampling : s.slc.medium ≠ .dozeSampling) (hfresh : s.freshAt s.now)
    (hread : readFrame r.frame = some seg) (hsender : r.frame.sender ≠ cfg.tag) :
    exec .rxFifoProcess s = .next ((s.drained s.fp.pageFifo rest).takeSegment seg r.rssi).finish := by
  have hsettings : (s.drained s.fp.pageFifo rest).settings = cfg := State.settings_eq hconfig
  rw [rx_event hfifo hoff hsampling hfresh]
  unfold State.takeFrame
  rw [hread]
  dsimp only
  rw [hsettings, if_neg hsender]

/-- A frame whose segment changes nothing, or the own tag's frame. -/
theorem rx_rests {seg : Segment} (h : s.settled = true) (hk : s.keepsPower) (hconfig : s.al.config = some cfg)
    (hfifo : s.slc.rxFifo = r :: rest) (hoff : s.slc.medium ≠ .off) (hsampling : s.slc.medium ≠ .dozeSampling)
    (hfresh : s.freshAt s.now) (hread : readFrame r.frame = some seg)
    (hsame : r.frame.sender = cfg.tag
      ∨ (s.drained s.fp.pageFifo rest).takeSegment seg r.rssi = s.drained s.fp.pageFifo rest) :
    exec .rxFifoProcess s = .next (s.drained s.fp.pageFifo rest) := by
  have hsettings : (s.drained s.fp.pageFifo rest).settings = cfg := State.settings_eq hconfig
  have htake : (s.drained s.fp.pageFifo rest).takeFrame r = s.drained s.fp.pageFifo rest := by
    unfold State.takeFrame
    rw [hread]
    dsimp only
    rw [hsettings]
    split
    · rfl
    · next hsender => exact hsame.resolve_left hsender
  rw [rx_event hfifo hoff hsampling hfresh, htake, State.finish_of_settled (State.settled_drained h hk)]

theorem rx_header {h : HeaderSegment} (hconfig : s.al.config = some cfg) (hfifo : s.slc.rxFifo = r :: rest)
    (hoff : s.slc.medium ≠ .off) (hsampling : s.slc.medium ≠ .dozeSampling) (hfresh : s.freshAt s.now)
    (hread : readFrame r.frame = some (.header h)) (hsender : r.frame.sender ≠ cfg.tag) :
    exec .rxFifoProcess s =
      .next ((s.drained s.fp.pageFifo rest).takeHeader (h.taken cfg.hopLimit) .peer (some r.rssi)).finish := by
  have hsettings : (s.drained s.fp.pageFifo rest).settings = cfg := State.settings_eq hconfig
  rw [rx_segment hconfig hfifo hoff hsampling hfresh hread hsender]
  unfold State.takeSegment
  dsimp only
  rw [hsettings]

end

theorem readFrame_header {f : Frame} {h : HeaderSegment} (hread : readFrame f = some (.header h)) :
    readHeader f.body = some h := by
  unfold readFrame at hread
  split_ifs at hread
  · obtain ⟨h', hh, heq⟩ := Option.map_eq_some_iff.1 hread
    cases heq
    exact hh
  · obtain ⟨t, -, heq⟩ := Option.map_eq_some_iff.1 hread
    cases heq
  · obtain ⟨t, -, heq⟩ := Option.map_eq_some_iff.1 hread
    cases heq

/-- A peer's header that R23 ignores. -/
theorem classify_peer {e : Entry} {h : HeaderSegment} (hcase : h.update < e.update
      ∨ h.update = e.update ∧ (e.state.name = .expired ∨ h.action = .alert ∧ e.action = .cancel)) :
    classify e h = .ignored := by
  rcases hcase with hlt | ⟨heq, hname | ⟨halert, hcancel⟩⟩
  · exact classify_stale hlt
  · exact classify_expired heq hname
  · by_cases hname : e.state.name = .expired
    · exact classify_expired heq hname
    · rw [classify_live heq hname, halert, hcancel]
      rfl

/-- Settles O48: each frame has the effect of its segment, is dropped, or sets MALFORMED. -/
theorem rxFifoProcessCompletes : Obligations.RxFifoProcessCompletes := by
  intro s cfg h hconfig
  refine ⟨rx_idle h, fun r rest hfifo hoff hsampling hk hfresh => ⟨fun hbad => ?_, fun hsound hown => ?_,
    fun seg p hread hsender hkind hpage => ?_, fun hd hread hsender htable hnew => ?_, fun seg hread hnew => ?_,
    fun seg i e hread hsender hi he => ?_, fun hd i e hread hi he hcase => ?_,
    fun hd i e hread hsender hi he hlive hupdate haction => ?_⟩⟩
  · have htake : (s.drained s.fp.pageFifo rest).takeFrame r = (s.drained s.fp.pageFifo rest).setMalformed := by
      unfold State.takeFrame
      rw [hbad]
    rw [rx_event hfifo hoff hsampling hfresh, htake]
    exact congrArg (fun m : State => (.next m : Result))
      (State.finish_of_drained (m := (s.drained s.fp.pageFifo rest).setMalformed) h hk rfl rfl)
  · obtain ⟨seg, hread⟩ := Option.isSome_iff_exists.1 hsound
    exact rx_rests h hk hconfig hfifo hoff hsampling hfresh hread (.inl hown)
  · rw [rx_segment hconfig hfifo hoff hsampling hfresh hread hsender]
    exact (page_text (s := { s.drained s.fp.pageFifo rest with
      fp := { s.fp with pageFifo := p :: s.fp.pageFifo } }) (p := p) (rest := s.fp.pageFifo) rfl hfresh hkind hpage).symm
  · exact newIdentity (pages := s.fp.pageFifo) (frames := rest) h hk hconfig htable hnew
      (readHeader_texts (readFrame_header hread)) (rx_header hconfig hfifo hoff hsampling hfresh hread hsender)
  · refine rx_rests h hk hconfig hfifo hoff hsampling hfresh hread (.inr ?_)
    unfold State.takeSegment State.takeTally
    have hnew' : (s.drained s.fp.pageFifo rest).slotOf seg.id = none := hnew
    dsimp only
    rw [hnew']
  · have htake : (s.drained s.fp.pageFifo rest).takeSegment (.tally seg) r.rssi =
        (s.drained s.fp.pageFifo rest).mergeInto i seg.tally := by
      unfold State.takeSegment State.takeTally
      have hi' : (s.drained s.fp.pageFifo rest).slotOf seg.id = some i := hi
      dsimp only
      rw [hi']
    have hjoins (e' : Entry) : (s.drained s.fp.pageFifo rest).reportJoins i e' = s.reportJoins i e' :=
      State.reportJoins_congr rfl rfl rfl
    rw [rx_segment hconfig hfifo hoff hsampling hfresh hread hsender, htake,
      State.mergeInto_eq (s := s.drained s.fp.pageFifo rest) he, hjoins]
    have hevent (m : State) (hm : m.keepsPower) (hc : m.configured = true) :
        m.EndsWithHeadAndReport (.next m.finish) := by
      rw [State.finish_of_keepsPower hm]
      exact State.endsWithHeadAndReport m hc
    exact hevent _ hk (State.configured_of_config (s := s) hconfig)
  · exact rx_rests h hk hconfig hfifo hoff hsampling hfresh hread (.inr (by
      have hsettings : (s.drained s.fp.pageFifo rest).settings = cfg := State.settings_eq hconfig
      unfold State.takeSegment
      exact State.takeHeader_ignored (s := s.drained s.fp.pageFifo rest) hi he (classify_peer hcase) _))
  · have hduplicate : classify e hd = .duplicate := by
      rw [classify_live hupdate hlive, if_pos haction]
    rw [rx_header hconfig hfifo hoff hsampling hfresh hread hsender,
      State.takeHeader_known (s := s.drained s.fp.pageFifo rest) hi he, hduplicate]
    dsimp only
    rw [State.countDuplicate_eq (s := s.drained s.fp.pageFifo rest) he hconfig]
    exact endsWithHead_finish (s := s.drained s.fp.pageFifo rest) (State.settled_drained h hk) hk rfl rfl

end Sys2Proof.Machine
end

section
/-! The slots and texts of an accepted ALERT (R27, R57), in the terms of the statements. -/

namespace Sys2Proof.Machine

/-! ### The state after both loops of an acceptance -/

/-- The entry with the texts of its bound slots COLLECTING. -/
def Entry.started (e : Entry) (l : List (Option Slot)) : Entry := { e with texts := e.startTexts l }

/-- The slots of the entry's update bound or discarded. -/
def State.bindsAll (s : State) (i : Nat) (e : Entry) : State := s.boundUpTo i e s.sa.slots.length

/-- The slots of the entry's update bound or discarded, and the full ones completed. -/
def State.accepts (s : State) (i : Nat) (e : Entry) : State :=
  (s.bindsAll i e).completedUpTo i (e.started s.sa.slots) 4

section
variable {s : State} {i : Nat} {e : Entry}

theorem State.bindsAll_slots : (s.bindsAll i e).sa.slots = s.sa.slots.map (Option.bind · e.bindOne) := by
  unfold State.bindsAll State.boundUpTo
  dsimp only
  rw [List.take_length, List.drop_length, List.append_nil]
  rfl

theorem State.bindsAll_slotAt (n : Nat) : (s.bindsAll i e).slotAt n = (s.slotAt n).bind e.bindOne := by
  unfold State.slotAt
  rw [State.bindsAll_slots, List.getElem?_map]
  rcases s.sa.slots[n]? with - | - | sl <;> rfl

theorem State.bindsAll_entryAt (he : s.entryAt i = some e) :
    (s.bindsAll i e).entryAt i = some (e.started s.sa.slots) := by
  have hat := State.boundUpTo_entryAt he s.sa.slots.length
  rw [List.take_length] at hat
  exact hat

theorem Entry.bindOne_some {sl sl' : Slot} (h : e.bindOne sl = some sl') :
    sl'.key = sl.key ∧ sl'.received = sl.received
      ∧ (e.invites sl = true ∧ canBind e sl = true ∧ sl' = { sl with bound := true, precedence := e.precedence }
        ∨ e.invites sl = false ∧ sl' = sl) := by
  unfold Entry.bindOne at h
  split at h
  · next hinvites =>
    split at h
    · next hbind =>
      obtain rfl := Option.some.inj h
      exact ⟨rfl, rfl, .inl ⟨hinvites, hbind, rfl⟩⟩
    · cases h
  · next hinvites =>
    obtain rfl := Option.some.inj h
    exact ⟨rfl, rfl, .inr ⟨Bool.eq_false_iff.2 hinvites, rfl⟩⟩

/-- A slot after the first loop was there before, with its key and segments. -/
theorem State.bindsAll_some {n : Nat} {sl' : Slot} (h : (s.bindsAll i e).slotAt n = some sl') :
    ∃ sl, s.slotAt n = some sl ∧ e.bindOne sl = some sl' := by
  rw [State.bindsAll_slotAt] at h
  exact Option.bind_eq_some_iff.1 h

theorem State.bindsAll_slotsOk (hs : s.slotsOk) : (s.bindsAll i e).slotsOk := by
  obtain ⟨hlength, hkeys⟩ := State.slotsOk_iff.1 hs
  refine State.slotsOk_iff.2 ⟨by rw [State.bindsAll_slots, List.length_map, hlength], fun n m a b ha hb hkey => ?_⟩
  obtain ⟨a', ha', hone⟩ := State.bindsAll_some ha
  obtain ⟨b', hb', hone'⟩ := State.bindsAll_some hb
  refine hkeys n m a' b' ha' hb' ?_
  rw [← (Entry.bindOne_some hone).1, ← (Entry.bindOne_some hone').1, hkey]

theorem State.accepts_slotAt (n : Nat) : (s.accepts i e).slotAt n =
    ((s.slotAt n).bind e.bindOne).filter fun sl => !(e.started s.sa.slots).completes 4 sl := by
  unfold State.accepts
  rw [State.completedUpTo_slotAt, State.bindsAll_slotAt]

theorem State.accepts_entryAt (he : s.entryAt i = some e) : (s.accepts i e).entryAt i =
    some { e with texts := (e.started s.sa.slots).completedTexts (s.bindsAll i e).sa.slots 4 } :=
  State.completedUpTo_entryAt (State.bindsAll_entryAt he) 4

theorem State.accepts_entryAt_ne {k : Nat} (hk : k ≠ i) : (s.accepts i e).entryAt k = s.entryAt k := by
  unfold State.accepts State.completedUpTo State.bindsAll State.boundUpTo
  dsimp only
  exact (State.entryAt_modifyEntry_ne hk _).trans (State.entryAt_modifyEntry_ne hk _)

theorem State.accepts_genAt (k : Nat) : (s.accepts i e).genAt k = s.genAt k := by
  unfold State.accepts State.completedUpTo State.bindsAll State.boundUpTo
  dsimp only
  exact (State.genAt_modifyEntry _ i k _).trans (State.genAt_modifyEntry _ i k _)

theorem State.accepts_al : (s.accepts i e).al =
    { s.al with flags := { s.al.flags with malformed := s.al.flags.malformed || s.sa.slots.any e.refuses } } := by
  unfold State.accepts State.completedUpTo State.bindsAll State.boundUpTo
  dsimp only
  rw [List.take_length]
  rfl

/-- Only the table, the slots and the MALFORMED flag change. -/
theorem State.accepts_eq : s.accepts i e =
    { s with atc := { s.atc with table := (s.accepts i e).atc.table }, sa := (s.accepts i e).sa
             al := (s.accepts i e).al } := rfl

theorem State.bindSlots_eq (hs : s.slotsOk) (he : s.entryAt i = some e) :
    s.bindSlots i = (s.accepts i e).leaveIfComplete i := by
  unfold State.bindSlots
  dsimp only
  rw [State.foldl_bindSlot he _ (Nat.le_refl _)]
  have hcomplete := State.foldl_completeBound (s := s.bindsAll i e) (i := i) (State.bindsAll_slotsOk hs)
    (State.bindsAll_entryAt he) 4
  unfold State.bindsAll at hcomplete
  rw [hcomplete]
  rfl

end

/-! ### An ALERT accepted in a slot -/

/-- In `w` slot `i` holds the COLLECTING entry `made` of the ALERT `h`, and the slots are those of `s` without those of
lower updates. -/
structure AcceptedIn (s w : State) (i : Nat) (h : HeaderSegment) (made : Entry) : Prop where
  slots : w.sa.slots = s.sa.slots.map fun o => o.filter fun sl =>
    !(sl.key.id == h.id && decide (sl.key.update < h.update))
  entry : w.entryAt i = some made
  id : made.id = h.id
  update : made.update = h.update
  texts : made.texts = h.texts.map fun t => ⟨t.lang, t.count, .absent⟩
  name : made.state.name = .collecting
  slotsOk : s.slotsOk
  unbound : ∀ n sl, s.slotAt n = some sl → sl.key.id = h.id → sl.key.update = h.update → sl.bound = false
  few : h.texts.length ≤ 4

namespace AcceptedIn

variable {s w : State} {i : Nat} {h : HeaderSegment} {made : Entry} (ha : AcceptedIn s w i h made)
include ha

theorem slotAt (n : Nat) : w.slotAt n =
    (s.slotAt n).filter fun sl => !(sl.key.id == h.id && decide (sl.key.update < h.update)) := by
  unfold State.slotAt
  rw [ha.slots, List.getElem?_map]
  rcases s.sa.slots[n]? with - | - | sl <;> rfl

theorem slotAt_some {n : Nat} {sl : Slot} : w.slotAt n = some sl ↔
    s.slotAt n = some sl ∧ ¬ (sl.key.id = h.id ∧ sl.key.update < h.update) := by
  rw [ha.slotAt, Option.filter_eq_some_iff]
  refine and_congr_right fun _ => ?_
  simp [imp_iff_not_or]

theorem slotsOk_after : w.slotsOk := by
  obtain ⟨hlength, hkeys⟩ := State.slotsOk_iff.1 ha.slotsOk
  exact State.slotsOk_iff.2 ⟨by rw [ha.slots, List.length_map, hlength], fun n m a b hn hm =>
    hkeys n m a b (ha.slotAt_some.1 hn).1 (ha.slotAt_some.1 hm).1⟩

theorem text (k : Nat) : made.texts[k]? = (h.texts[k]?).map fun t => ⟨t.lang, t.count, .absent⟩ := by
  rw [ha.texts, List.getElem?_map]

/-- The entry invites a slot exactly where it is of the accepted update. -/
theorem invites_iff {n : Nat} {sl : Slot} (hsl : s.slotAt n = some sl) :
    made.invites sl = true ↔ sl.key.id = h.id ∧ sl.key.update = h.update := by
  unfold Entry.invites
  rw [ha.id, ha.update]
  simp only [Bool.and_eq_true, beq_iff_eq, Bool.not_eq_true']
  exact ⟨And.left, fun hk => ⟨hk, ha.unbound n sl hsl hk.1 hk.2⟩⟩

theorem canBind_iff {sl : Slot} : canBind made sl = true ↔
    ∃ spec, h.texts[sl.key.text]? = some spec ∧ spec.count = sl.count := by
  unfold canBind
  rw [ha.text]
  cases h.texts[sl.key.text]? <;> simp

/-- A slot that is full after the first loop was full before it, and listed by the ALERT. -/
theorem of_completes {n : Nat} {sl' : Slot} {m : Nat} (hsl' : (w.bindsAll i made).slotAt n = some sl')
    (hc : (made.started w.sa.slots).completes m sl' = true) : ∃ sl spec, s.slotAt n = some sl ∧ sl.key = sl'.key
      ∧ sl.received = sl'.received ∧ sl.key = ⟨h.id, h.update, sl.key.text⟩ ∧ sl.full = true
      ∧ h.texts[sl.key.text]? = some spec ∧ spec.count = sl.count := by
  obtain ⟨sl, hsl, hone⟩ := State.bindsAll_some hsl'
  obtain ⟨hat, -⟩ := ha.slotAt_some.1 hsl
  obtain ⟨hkey, hreceived, hcase⟩ := Entry.bindOne_some hone
  obtain ⟨hckey, hbound, hfull, -⟩ := Entry.completes_iff.1 hc
  have hslkey : sl.key = ⟨h.id, h.update, sl.key.text⟩ := by
    rw [← hkey]
    refine hckey.trans ?_
    show (⟨made.id, made.update, _⟩ : SlotKey) = _
    rw [ha.id, ha.update]
  have hslfull : sl.full = true := by
    unfold Slot.full at hfull ⊢
    rw [← hreceived]
    exact hfull
  have hinvited := (ha.invites_iff hat).2 ⟨by rw [hslkey], by rw [hslkey]⟩
  rcases hcase with ⟨-, hbind, -⟩ | ⟨hno, -⟩
  · obtain ⟨spec, hspec, hcount⟩ := ha.canBind_iff.1 hbind
    exact ⟨sl, spec, hat, hkey.symm, hreceived.symm, hslkey, hslfull, hspec, hcount⟩
  · rw [hinvited] at hno
    cases hno

/-- The slot of an unmatched text is gone (R57). -/
theorem slot_refused {n : Nat} {sl : Slot} (hat : s.slotAt n = some sl) (hid : sl.key.id = h.id)
    (hupdate : sl.key.update = h.update)
    (hnone : ∀ spec, h.texts[sl.key.text]? = some spec → spec.count ≠ sl.count) :
    (w.accepts i made).slotAt n = none ∧ (w.accepts i made).al.flags.malformed = true := by
  have hinvited := (ha.invites_iff hat).2 ⟨hid, hupdate⟩
  have hbind : canBind made sl = false := Bool.eq_false_iff.2 fun hb => by
    obtain ⟨spec, hspec, hcount⟩ := ha.canBind_iff.1 hb
    exact hnone spec hspec hcount
  have hwat : w.slotAt n = some sl := ha.slotAt_some.2 ⟨hat, fun hl => Nat.lt_irrefl _ (hupdate ▸ hl.2)⟩
  refine ⟨?_, ?_⟩
  · rw [State.accepts_slotAt, hwat, Option.bind_some]
    unfold Entry.bindOne
    rw [if_pos hinvited, hbind]
    rfl
  · rw [State.accepts_al]
    have hany : w.sa.slots.any made.refuses = true :=
      List.any_eq_true.2 ⟨some sl, List.mem_of_getElem? (w.slotAt_some.1 hwat), by simp [Entry.refuses, hinvited, hbind]⟩
    rw [hany]
    exact Bool.or_true _

/-- The slot of a listed text is bound (R57). -/
theorem slot_bound {n : Nat} {sl : Slot} {spec : TextSpec} (hat : s.slotAt n = some sl) (hid : sl.key.id = h.id)
    (hupdate : sl.key.update = h.update) (hspec : h.texts[sl.key.text]? = some spec) (hcount : spec.count = sl.count) :
    (w.bindsAll i made).slotAt n = some { sl with bound := true, precedence := made.precedence }
      ∧ w.sa.slots.any (made.bindsText sl.key.text) = true := by
  have hinvited := (ha.invites_iff hat).2 ⟨hid, hupdate⟩
  have hbind : canBind made sl = true := ha.canBind_iff.2 ⟨spec, hspec, hcount⟩
  have hwat : w.slotAt n = some sl := ha.slotAt_some.2 ⟨hat, fun hl => Nat.lt_irrefl _ (hupdate ▸ hl.2)⟩
  refine ⟨?_, ?_⟩
  · rw [State.bindsAll_slotAt, hwat, Option.bind_some]
    unfold Entry.bindOne
    rw [if_pos hinvited, if_pos hbind]
  · exact List.any_eq_true.2 ⟨some sl, List.mem_of_getElem? (w.slotAt_some.1 hwat),
      by simp [Entry.bindsText, hinvited, hbind]⟩

/-- The record of a text after both loops. -/
theorem text_after {k : Nat} {spec : TextSpec} (hspec : h.texts[k]? = some spec) :
    ((made.started w.sa.slots).completedTexts (w.bindsAll i made).sa.slots 4)[k]? = some ⟨spec.lang, spec.count,
      match (made.started w.sa.slots).fullSlotFor (w.bindsAll i made).sa.slots 4 k with
      | some sl => .complete sl.chain
      | none => if w.sa.slots.any (made.bindsText k) then .collecting else .absent⟩ := by
  have hstarted : (made.started w.sa.slots).texts[k]? = some ⟨spec.lang, spec.count,
      if w.sa.slots.any (made.bindsText k) then .collecting else .absent⟩ := by
    unfold Entry.started Entry.startTexts
    dsimp only
    rw [List.getElem?_mapIdx, ha.text, hspec, Option.map_some, Option.map_some]
    split <;> rfl
  unfold Entry.completedTexts
  rw [List.getElem?_mapIdx, hstarted, Option.map_some]
  cases (made.started w.sa.slots).fullSlotFor (w.bindsAll i made).sa.slots 4 k <;> rfl

end AcceptedIn

end Sys2Proof.Machine
end

section
/-! What an accepted ALERT leaves where a text is still lacking, and where every text is complete (R27, R34, R57). -/

namespace Sys2Proof.Machine

namespace AcceptedIn

variable {s w : State} {i : Nat} {h : HeaderSegment} {made : Entry} (ha : AcceptedIn s w i h made)
include ha

/-! ### The slots after both loops -/

theorem no_slot {n : Nat} (hnone : s.slotAt n = none) : (w.accepts i made).slotAt n = none := by
  rw [State.accepts_slotAt, ha.slotAt, hnone]
  rfl

theorem slot_lower {n : Nat} {sl : Slot} (hat : s.slotAt n = some sl) (hid : sl.key.id = h.id)
    (hlt : sl.key.update < h.update) : (w.accepts i made).slotAt n = none := by
  have hnone : w.slotAt n = none := by
    cases hw : w.slotAt n with
    | none => rfl
    | some x =>
      obtain ⟨hx, hno⟩ := ha.slotAt_some.1 hw
      obtain rfl := Option.some.inj (hat.symm.trans hx)
      exact absurd ⟨hid, hlt⟩ hno
  rw [State.accepts_slotAt, hnone]
  rfl

theorem completes_key {sl : Slot} {m : Nat} (hc : (made.started w.sa.slots).completes m sl = true) :
    sl.key.id = h.id ∧ sl.key.update = h.update := by
  rw [(Entry.completes_iff.1 hc).1]
  exact ⟨ha.id, ha.update⟩

theorem slot_other {n : Nat} {sl : Slot} (hat : s.slotAt n = some sl)
    (hother : sl.key.id ≠ h.id ∨ h.update < sl.key.update) : (w.accepts i made).slotAt n = some sl := by
  have hkey : ¬ (sl.key.id = h.id ∧ sl.key.update = h.update) := fun ⟨hid, hupdate⟩ =>
    hother.elim (fun hne => hne hid) fun hlt => Nat.lt_irrefl _ (hupdate ▸ hlt)
  have hwat : w.slotAt n = some sl := ha.slotAt_some.2 ⟨hat, fun ⟨hid, hlt⟩ =>
    hother.elim (fun hne => hne hid) fun hgt => Nat.lt_asymm hlt hgt⟩
  rw [State.accepts_slotAt, hwat, Option.bind_some]
  unfold Entry.bindOne
  rw [if_neg (mt (ha.invites_iff hat).1 hkey), Option.filter_some,
    Bool.eq_false_iff.2 fun hc => hkey (ha.completes_key hc)]
  rfl

/-! ### The texts after both loops -/

/-- A full slot found for a text is one of the ALERT's own, of the listed count. -/
theorem of_fullSlotFor {k : Nat} {sl' : Slot}
    (hfound : (made.started w.sa.slots).fullSlotFor (w.bindsAll i made).sa.slots 4 k = some sl') :
    ∃ n sl spec, s.slotAt n = some sl ∧ sl.key = ⟨h.id, h.update, k⟩ ∧ sl.full = true
      ∧ h.texts[k]? = some spec ∧ spec.count = sl.count := by
  obtain ⟨hmem, hc, htext⟩ := Entry.fullSlotFor_some hfound
  obtain ⟨n, hn⟩ := State.mem_slots.1 hmem
  obtain ⟨sl, spec, hat, hkey, -, hslkey, hfull, hspec, hcount⟩ := ha.of_completes hn hc
  have hk : sl.key.text = k := by rw [hkey, htext]
  rw [hk] at hslkey hspec
  exact ⟨n, sl, spec, hat, hslkey, hfull, hspec, hcount⟩

theorem of_bindsText {k : Nat} (hany : w.sa.slots.any (made.bindsText k) = true) :
    ∃ n sl spec, s.slotAt n = some sl ∧ sl.key = ⟨h.id, h.update, k⟩
      ∧ h.texts[k]? = some spec ∧ spec.count = sl.count := by
  obtain ⟨o, ho, hbinds⟩ := List.any_eq_true.1 hany
  cases o with
  | none => cases hbinds
  | some sl =>
    simp only [Entry.bindsText, Option.any_some, Bool.and_eq_true, beq_iff_eq] at hbinds
    obtain ⟨⟨hinvites, hbind⟩, htext⟩ := hbinds
    obtain ⟨n, hn⟩ := State.mem_slots.1 ho
    have hat := (ha.slotAt_some.1 hn).1
    obtain ⟨hid, hupdate⟩ := (ha.invites_iff hat).1 hinvites
    obtain ⟨spec, hspec, hcount⟩ := ha.canBind_iff.1 hbind
    refine ⟨n, sl, spec, hat, ?_, htext ▸ hspec, hcount⟩
    rw [← hid, ← hupdate, ← htext]

/-- The slot of a listed text that lacks a segment stays, bound. -/
theorem slot_incomplete {n : Nat} {sl : Slot} {spec : TextSpec} (hat : s.slotAt n = some sl) (hid : sl.key.id = h.id)
    (hupdate : sl.key.update = h.update) (hspec : h.texts[sl.key.text]? = some spec) (hcount : spec.count = sl.count)
    (hgap : ¬ sl.full = true) :
    (w.accepts i made).slotAt n = some { sl with bound := true, precedence := made.precedence }
      ∧ ((made.started w.sa.slots).completedTexts (w.bindsAll i made).sa.slots 4)[sl.key.text]? =
        some ⟨spec.lang, spec.count, .collecting⟩ := by
  obtain ⟨hbound, hany⟩ := ha.slot_bound hat hid hupdate hspec hcount
  refine ⟨?_, ?_⟩
  · have hno : (made.started w.sa.slots).completes 4 { sl with bound := true, precedence := made.precedence } = false :=
      Bool.eq_false_iff.2 fun hc => hgap (Entry.completes_iff.1 hc).2.2.1
    unfold State.accepts
    rw [State.completedUpTo_slotAt, hbound, Option.filter_some, hno]
    rfl
  · rw [ha.text_after hspec]
    cases hfound : (made.started w.sa.slots).fullSlotFor (w.bindsAll i made).sa.slots 4 sl.key.text with
    | none =>
      dsimp only
      rw [if_pos hany]
    | some other =>
      obtain ⟨m, o, spec', ho, hkey, hfull, -, -⟩ := ha.of_fullSlotFor hfound
      have hsame : o.key = sl.key := by rw [hkey, ← hid, ← hupdate]
      obtain rfl := (State.slotsOk_iff.1 ha.slotsOk).2 m n o sl ho hat hsame
      obtain rfl := Option.some.inj (ho.symm.trans hat)
      exact absurd hfull hgap

/-- The full slot of a listed text becomes its chain. -/
theorem slot_full {n : Nat} {sl : Slot} {spec : TextSpec} (hat : s.slotAt n = some sl) (hid : sl.key.id = h.id)
    (hupdate : sl.key.update = h.update) (hspec : h.texts[sl.key.text]? = some spec) (hcount : spec.count = sl.count)
    (hfull : sl.full = true) :
    (w.accepts i made).slotAt n = none
      ∧ ((made.started w.sa.slots).completedTexts (w.bindsAll i made).sa.slots 4)[sl.key.text]? =
        some ⟨spec.lang, spec.count, .complete sl.chain⟩ := by
  obtain ⟨hbound, -⟩ := ha.slot_bound hat hid hupdate hspec hcount
  have hlt : sl.key.text < 4 := Nat.lt_of_lt_of_le (List.getElem?_eq_some_iff.1 hspec).1 ha.few
  have hkey : sl.key = ⟨made.id, made.update, sl.key.text⟩ := by rw [ha.id, ha.update, ← hid, ← hupdate]
  have hc : (made.started w.sa.slots).completes 4 { sl with bound := true, precedence := made.precedence } = true :=
    Entry.completes_iff.2 ⟨hkey, rfl, hfull, hlt⟩
  refine ⟨?_, ?_⟩
  · unfold State.accepts
    rw [State.completedUpTo_slotAt, hbound, Option.filter_some, hc]
    rfl
  · have hfound := Entry.fullSlotFor_eq (State.bindsAll_slotsOk ha.slotsOk_after) hbound hc
    rw [ha.text_after hspec]
    have hat' : (made.started w.sa.slots).fullSlotFor (w.bindsAll i made).sa.slots 4 sl.key.text = _ := hfound
    rw [hat']
    rfl

/-- A text with no slot of its count is ABSENT. -/
theorem text_absent {k : Nat} {spec : TextSpec} (hspec : h.texts[k]? = some spec)
    (hnone : ∀ n sl, s.slotAt n = some sl → sl.key = ⟨h.id, h.update, k⟩ → spec.count ≠ sl.count) :
    ((made.started w.sa.slots).completedTexts (w.bindsAll i made).sa.slots 4)[k]? =
      some ⟨spec.lang, spec.count, .absent⟩ := by
  rw [ha.text_after hspec]
  cases hfound : (made.started w.sa.slots).fullSlotFor (w.bindsAll i made).sa.slots 4 k with
  | none =>
    dsimp only
    rw [if_neg fun hany => ?_]
    obtain ⟨n, sl, spec', hat, hkey, hspec', hcount⟩ := ha.of_bindsText hany
    obtain rfl := Option.some.inj (hspec.symm.trans hspec')
    exact hnone n sl hat hkey hcount
  | some sl' =>
    obtain ⟨n, sl, spec', hat, hkey, -, hspec', hcount⟩ := ha.of_fullSlotFor hfound
    obtain rfl := Option.some.inj (hspec.symm.trans hspec')
    exact absurd hcount (hnone n sl hat hkey)

theorem texts_length :
    ((made.started w.sa.slots).completedTexts (w.bindsAll i made).sa.slots 4).length = h.texts.length := by
  unfold Entry.completedTexts Entry.started Entry.startTexts
  dsimp only
  rw [List.length_mapIdx, List.length_mapIdx, ha.texts, List.length_map]

/-! ### The statements' account (R57) -/

theorem slotsBound : s.SlotsBound (w.accepts i made) i h made w.al := by
  refine ⟨_, State.accepts_entryAt ha.entry, rfl, ha.texts_length, fun n => ha.no_slot, fun n sl hat =>
    ⟨ha.slot_other hat, ha.slot_lower hat, fun hid hupdate => ⟨fun spec hspec hcount =>
      ⟨fun ⟨m, hgap⟩ => ha.slot_incomplete hat hid hupdate hspec hcount (Slot.not_full hgap),
      fun hfull => ha.slot_full hat hid hupdate hspec hcount (Slot.full_iff.2 hfull)⟩,
      ha.slot_refused hat hid hupdate⟩⟩, fun k spec hspec hnone => ha.text_absent hspec hnone, ?_, fun hall => ?_⟩
  · rw [State.accepts_al]
  · have hrefuses : w.sa.slots.any made.refuses = false := by
      refine Bool.eq_false_iff.2 fun hany => ?_
      obtain ⟨o, ho, hrefuse⟩ := List.any_eq_true.1 hany
      cases o with
      | none => cases hrefuse
      | some sl =>
        simp only [Entry.refuses, Option.any_some, Bool.and_eq_true, Bool.not_eq_true'] at hrefuse
        obtain ⟨hinvites, hbind⟩ := hrefuse
        obtain ⟨n, hn⟩ := State.mem_slots.1 ho
        have hat := (ha.slotAt_some.1 hn).1
        obtain ⟨hid, hupdate⟩ := (ha.invites_iff hat).1 hinvites
        rw [ha.canBind_iff.2 (hall n sl hat hid hupdate)] at hbind
        cases hbind
    rw [State.accepts_al, hrefuses, Bool.or_false]

/-- An ALERT that lacks a text leaves its entry COLLECTING. -/
theorem waits (hlacks : s.lacksText h) : w.bindSlots i = w.accepts i made := by
  obtain ⟨k, hk, hlack⟩ := hlacks
  have hspec : h.texts[k]? = some h.texts[k] := List.getElem?_eq_getElem hk
  rw [State.bindSlots_eq ha.slotsOk_after ha.entry]
  refine State.leaveIfComplete_waits (State.accepts_entryAt ha.entry) (ha.text_after hspec) fun chain hstate => ?_
  dsimp only at hstate
  cases hfound : (made.started w.sa.slots).fullSlotFor (w.bindsAll i made).sa.slots 4 k with
  | none =>
    rw [hfound] at hstate
    dsimp only at hstate
    split at hstate <;> cases hstate
  | some sl' =>
    obtain ⟨n, sl, -, hat, hkey, hfull, -⟩ := ha.of_fullSlotFor hfound
    obtain ⟨m, hm⟩ := hlack n sl hat hkey
    exact Slot.not_full hm hfull

/-- Where full slots hold every text, all texts are COMPLETE. -/
theorem complete (hevery : s.hasEveryText h) {k : Nat} {x : TextRecord}
    (hx : ((made.started w.sa.slots).completedTexts (w.bindsAll i made).sa.slots 4)[k]? = some x) :
    ∃ chain, x.state = .complete chain := by
  have hk : k < h.texts.length := by
    rw [← ha.texts_length]
    exact (List.getElem?_eq_some_iff.1 hx).1
  have hspec : h.texts[k]? = some h.texts[k] := List.getElem?_eq_getElem hk
  obtain ⟨n, sl, hat, hkey, hcount, hfull⟩ := hevery.1 k _ hspec
  have htext : sl.key.text = k := by rw [hkey]
  obtain ⟨-, hat'⟩ := ha.slot_full hat (by rw [hkey]) (by rw [hkey]) (htext.symm ▸ hspec) hcount (Slot.full_iff.2 hfull)
  rw [htext, hx] at hat'
  obtain rfl := Option.some.inj hat'
  exact ⟨_, rfl⟩

theorem leaves (hevery : s.hasEveryText h) : w.bindSlots i = (w.accepts i made).leaveCollecting i := by
  rw [State.bindSlots_eq ha.slotsOk_after ha.entry]
  exact State.leaveIfComplete_leaves (State.accepts_entryAt ha.entry) ha.name fun k x => ha.complete hevery

end AcceptedIn

end Sys2Proof.Machine
end

section
/-! The end of the event of an accepted ALERT; an ALERT for a new identity whose slots wait for it (R25, R27, R57). -/

namespace Sys2Proof.Machine

/-! ### Slots closed (R57) -/

theorem slots_ext {l l' : List (Option Slot)} (hlength : l.length = l'.length)
    (h : ∀ n : Nat, (l[n]?).join = (l'[n]?).join) : l = l' := by
  refine List.ext_getElem hlength fun n hn hn' => ?_
  have hat := h n
  rw [List.getElem?_eq_getElem hn, List.getElem?_eq_getElem hn'] at hat
  exact hat

namespace AcceptedIn

variable {s w : State} {i : Nat} {h : HeaderSegment} {made : Entry} (ha : AcceptedIn s w i h made)
include ha

/-- Where full slots hold every text, the slots of the update are listed and full. -/
theorem full_of_every (hevery : s.hasEveryText h) {n : Nat} {sl : Slot} (hat : s.slotAt n = some sl)
    (hid : sl.key.id = h.id) (hupdate : sl.key.update = h.update) :
    ∃ spec, h.texts[sl.key.text]? = some spec ∧ spec.count = sl.count ∧ sl.full = true := by
  have hlt := hevery.2 n sl hat hid hupdate
  have hspec : h.texts[sl.key.text]? = some h.texts[sl.key.text] := List.getElem?_eq_getElem hlt
  obtain ⟨m, o, ho, hkey, hcount, hfull⟩ := hevery.1 _ _ hspec
  have hsame : o.key = sl.key := by rw [hkey, ← hid, ← hupdate]
  obtain rfl := (State.slotsOk_iff.1 ha.slotsOk).2 m n o sl ho hat hsame
  obtain rfl := Option.some.inj (ho.symm.trans hat)
  exact ⟨_, hspec, hcount, Slot.full_iff.2 hfull⟩

theorem slots_of_every (hevery : s.hasEveryText h) :
    (w.accepts i made).sa.slots = h.passedOver s.sa.slots := by
  refine slots_ext ?_ fun n => ?_
  · unfold State.accepts State.completedUpTo HeaderSegment.passedOver
    dsimp only
    rw [State.modifyEntry_sa, List.length_map, State.bindsAll_slots, List.length_map, ha.slots, List.length_map,
      List.length_map]
  · have hpassed : ((h.passedOver s.sa.slots)[n]?).join =
        (s.slotAt n).filter fun sl => !(sl.key.id == h.id && decide (sl.key.update ≤ h.update)) := by
      unfold HeaderSegment.passedOver State.slotAt
      rw [List.getElem?_map]
      rcases s.sa.slots[n]? with - | - | sl <;> rfl
    rw [hpassed]
    show (w.accepts i made).slotAt n = _
    cases hat : s.slotAt n with
    | none => exact ha.no_slot hat
    | some sl =>
      by_cases hid : sl.key.id = h.id
      · rcases Nat.lt_trichotomy sl.key.update h.update with hlt | heq | hgt
        · rw [ha.slot_lower hat hid hlt, Option.filter_some]
          simp [hid, hlt.le]
        · obtain ⟨spec, hspec, hcount, hfull⟩ := ha.full_of_every hevery hat hid heq
          rw [(ha.slot_full hat hid heq hspec hcount hfull).1, Option.filter_some]
          simp [hid, heq]
        · rw [ha.slot_other hat (.inr hgt), Option.filter_some]
          simp [Nat.not_le.2 hgt]
      · rw [ha.slot_other hat (.inl hid), Option.filter_some]
        simp [hid]

/-- Full slots for every text leave MALFORMED as it was. -/
theorem al_of_every (hevery : s.hasEveryText h) : (w.accepts i made).al = w.al := by
  obtain ⟨-, -, -, -, -, -, -, -, hal⟩ := ha.slotsBound
  exact hal fun n sl hat hid hupdate => by
    obtain ⟨spec, hspec, hcount, -⟩ := ha.full_of_every hevery hat hid hupdate
    exact ⟨spec, hspec, hcount⟩

/-- The event in which every text of an accepted ALERT is complete already. -/
theorem finish_every {b : State} (hevery : s.hasEveryText h) (hdecides : DecidesAs b w)
    (hgen : w.genAt i = b.genAt i) (hhead : w.noHeadTaken) (hreport : w.maySendReport = false)
    (hfeed : w.out.feed = none) :
    s.TextsComplete b (w.bindSlots i).finish i h made
      ∧ ∃ e', LeftWith (w.accepts i made) (w.bindSlots i) i e' := by
  have hal := ha.al_of_every hevery
  have hdecides' : DecidesAs b (w.accepts i made) :=
    ⟨hdecides.position, hdecides.optIn, hdecides.map, hal.trans hdecides.al, hdecides.tu, hdecides.fp⟩
  have hhead' : (w.accepts i made).noHeadTaken := State.noHeadTaken_congr (s := w) rfl (by rw [hal]) hhead
  have hentry := State.accepts_entryAt ha.entry
  rw [ha.leaves hevery]
  obtain ⟨e', hleft, hleaves⟩ := leavesCollecting_finish hdecides' ((State.accepts_genAt i).trans hgen) hentry
    (fun hx => by
      have hname := ha.name
      rw [show made.state.name = .expired from hx] at hname
      cases hname) hhead' hreport hfeed
  obtain ⟨hat, -, -, -, -, hsa, -⟩ := hleft.finish hentry hhead'
  refine ⟨⟨e', _, hat, ha.texts_length, fun n sl spec hsl hid hupdate hspec => ?_, hleaves, ?_⟩, e', hleft⟩
  · obtain ⟨spec', hspec', hcount, hfull⟩ := ha.full_of_every hevery hsl hid hupdate
    obtain rfl := Option.some.inj (hspec.symm.trans hspec')
    exact (ha.slot_full hsl hid hupdate hspec hcount hfull).2
  · rw [hsa]
    exact ha.slots_of_every hevery

end AcceptedIn

end Sys2Proof.Machine
end

section
/-! Text segments and the ALERT that binds them (R25, R27, R51 to R57). -/

namespace Sys2Proof.Machine

/-! ### A sound header lists four texts at most (R4) -/

theorem readHeader_few {bytes : List Byte} {h : HeaderSegment} (hread : readHeader bytes = some h) :
    h.texts.length ≤ 4 := by
  have hok := readHeader_ok hread
  unfold headerOk at hok
  simp only [Bool.and_eq_true, decide_eq_true_eq] at hok
  exact hok.1.1.1.2

/-! ### The newcomer whose slots wait -/

section
variable {s : State} {cfg : Settings} {h : HeaderSegment} {i : Nat} {pages : List Page} {frames : List RxFrame}

/-- The newcomer's entry in its slot, before its slots are bound. -/
def State.arrived (s : State) (pages : List Page) (frames : List RxFrame) (i : Nat) (h : HeaderSegment)
    (made : Entry) : State :=
  { (s.drained pages frames).modifySlot i fun sl => ⟨sl.gen + 1, some made⟩ with
    sa := { s.sa with slots := s.sa.slots.map fun o => o.filter fun sl =>
      !(sl.key.id == h.id && decide (sl.key.update < h.update)) } }

theorem State.arrived_entryAt (hi : i < s.atc.table.length) (made : Entry) (k : Nat) :
    (s.arrived pages frames i h made).entryAt k = if i = k then some made else s.entryAt k :=
  State.newcomer_entryAt (s := s.drained pages frames) hi h made k

theorem State.arrived_genAt (hi : i < s.atc.table.length) (made : Entry) (k : Nat) :
    (s.arrived pages frames i h made).genAt k = if i = k then s.genAt k + 1 else s.genAt k :=
  State.newcomer_genAt (s := s.drained pages frames) hi h made k

/-- An ALERT for a new identity, taken with an empty table slot. -/
theorem State.takeHeader_arrives (htable : s.tableOk) (hnew : s.slotOf h.id = none) (haction : h.action = .alert)
    (hi : i < 32) (hempty : s.entryAt i = none) (hbelow : ∀ k < i, s.entryAt k ≠ none) :
    (s.drained pages frames).takeHeader (h.taken cfg.hopLimit) .cell none =
      (s.arrived pages frames i h
        (s.firstEntry cfg h .cell none (.collecting (s.now + 300000000)))).bindSlots i := by
  have hnew' : (s.drained pages frames).slotOf (h.taken cfg.hopLimit).id = none := hnew
  have haction' : (h.taken cfg.hopLimit).action = .alert := haction
  unfold State.takeHeader
  rw [hnew', haction']
  dsimp only
  unfold State.newAlert
  rw [State.makeRoom_empty (s := s.drained pages frames) htable hi hempty hbelow]
  dsimp only
  rw [State.createEntry_eq, State.newEntry_taken, seconds_eq]
  rfl

theorem State.arrived_accepted (htable : s.tableOk) (hslots : s.slotsOk)
    (hunbound : ∀ n sl, s.slotAt n = some sl → sl.key.id = h.id → sl.key.update = h.update → sl.bound = false)
    (hfew : h.texts.length ≤ 4) (hi : i < 32) :
    AcceptedIn s (s.arrived pages frames i h (s.firstEntry cfg h .cell none (.collecting (s.now + 300000000)))) i h
      (s.firstEntry cfg h .cell none (.collecting (s.now + 300000000))) where
  slots := rfl
  entry := (State.arrived_entryAt ((State.tableOk_iff.1 htable).1.symm ▸ hi) _ i).trans (if_pos rfl)
  id := rfl
  update := rfl
  texts := rfl
  name := rfl
  slotsOk := hslots
  unbound := hunbound
  few := hfew

/-- The generation of a slot that is counted up (R18). -/
theorem State.genAt_counted (hi : i < s.atc.table.length) :
    (s.modifySlot i fun slot => { slot with gen := slot.gen + 1 }).genAt i = s.genAt i + 1 := by
  refine (State.genAt_modifySlot s i i _).trans ((if_pos rfl).trans ?_)
  unfold State.genAt
  rw [List.getElem?_eq_getElem hi]
  rfl

end

/-- The ALERT binds the slots of its update (R27, R57). -/
theorem page_alert_binds {s : State} {cfg : Settings} {p : Page} {rest : List Page} {h : HeaderSegment} {i : Nat}
    (hs : s.settled = true) (hconfig : s.al.config = some cfg) (hk : s.keepsPower) (hfifo : s.fp.pageFifo = p :: rest)
    (hfresh : s.freshAt s.now) (hkind : p.kind = .header) (hread : readHeader p.segment = some h)
    (haction : h.action = .alert) (htable : s.tableOk) (hslots : s.slotsOk) (hnew : s.slotOf h.id = none)
    (hunbound : ∀ n sl, s.slotAt n = some sl → sl.key.id = h.id → sl.key.update = h.update → sl.bound = false)
    (hi : i < 32) (hempty : s.entryAt i = none) (hbelow : ∀ k < i, s.entryAt k ≠ none) :
    let made : Entry := s.firstEntry cfg h .cell none (.collecting (s.now + 300000000))
    let new (t : State) : Prop :=
      exec .pageFifoProcess s = .next t ∧ t.genAt i = s.genAt i + 1
        ∧ (∀ k, k ≠ i → t.entryAt k = s.entryAt k ∧ t.genAt k = s.genAt k)
        ∧ t.slc = s.slc ∧ t.fp = { s.fp with pageFifo := rest }
    (s.lacksText h → ∃ t, new t ∧ s.SlotsBound t i h made s.al ∧ t.tu = s.tu ∧ t.pwc = s.pwc)
      ∧ (s.hasEveryText h → ∃ t, new t
        ∧ s.TextsComplete (s.modifySlot i fun slot => { slot with gen := slot.gen + 1 }) t i h made) := by
  intro made new
  have hlt : i < s.atc.table.length := (State.tableOk_iff.1 htable).1.symm ▸ hi
  have ha := State.arrived_accepted (pages := rest) (frames := s.slc.rxFifo) (cfg := cfg) htable hslots hunbound
    (readHeader_few hread) hi
  have hevent := page_header hconfig hfifo hfresh hkind hread
  rw [State.takeHeader_arrives htable hnew haction hi hempty hbelow] at hevent
  have hentry (k : Nat) := State.arrived_entryAt (pages := rest) (frames := s.slc.rxFifo) (h := h) hlt made k
  have hgen (k : Nat) := State.arrived_genAt (pages := rest) (frames := s.slc.rxFifo) (h := h) hlt made k
  generalize hw : s.arrived rest s.slc.rxFifo i h made = w at hentry hgen
  have hw' : s.arrived rest s.slc.rxFifo i h (s.firstEntry cfg h .cell none (.collecting (s.now + 300000000))) = w := hw
  rw [hw'] at ha hevent
  refine ⟨fun hlacks => ?_, fun hevery => ?_⟩
  · have hrest : (w.accepts i made).finish = w.accepts i made := by
      refine State.finish_of_drained (pages := rest) (frames := s.slc.rxFifo) hs hk ?_ ?_
      · subst hw
        rfl
      · subst hw
        rfl
    rw [ha.waits hlacks, hrest] at hevent
    refine ⟨w.accepts i made, ⟨hevent, ?_, fun k hki => ⟨?_, ?_⟩, ?_, ?_⟩, ?_, ?_, ?_⟩
    · rw [State.accepts_genAt, hgen, if_pos rfl]
    · rw [State.accepts_entryAt_ne hki, hentry, if_neg (Ne.symm hki)]
    · rw [State.accepts_genAt, hgen, if_neg (Ne.symm hki)]
    · subst hw
      rfl
    · subst hw
      rfl
    · have hbound := ha.slotsBound
      have hal : w.al = s.al := by
        subst hw
        rfl
      rw [hal] at hbound
      exact hbound
    · subst hw
      rfl
    · subst hw
      rfl
  · have hhead : w.noHeadTaken := by
      subst hw
      exact State.noHeadTaken_drained (pages := rest) (frames := s.slc.rxFifo) hs
    have hreport : w.maySendReport = false := by
      subst hw
      exact State.maySendReport_drained (pages := rest) (frames := s.slc.rxFifo) hs
    obtain ⟨hcomplete, e', hleft⟩ := ha.finish_every
      (b := (s.drained rest s.slc.rxFifo).modifySlot i fun slot => { slot with gen := slot.gen + 1 }) hevery
      (by subst hw; exact ⟨rfl, rfl, rfl, rfl, rfl, rfl⟩) (by
        rw [hgen, if_pos rfl]
        exact (State.genAt_counted (s := s.drained rest s.slc.rxFifo) hlt).symm) hhead hreport (by subst hw; rfl)
    have hwhead : (w.accepts i made).noHeadTaken :=
      State.noHeadTaken_congr (s := w) rfl (by rw [ha.al_of_every hevery]) hhead
    have hwk : (w.accepts i made).keepsPower := State.keepsPower_congr (s := s) (by subst hw; rfl) hk
    obtain ⟨-, hothers, hgens, -⟩ := hleft.finish (State.accepts_entryAt ha.entry) hwhead
    obtain ⟨hslc, hfp, -⟩ := hleft.finish_rest hwhead hwk
    refine ⟨(w.bindSlots i).finish, ⟨hevent, ?_, fun k hki => ⟨?_, ?_⟩, ?_, ?_⟩, hcomplete⟩
    · rw [hgens, State.accepts_genAt, hgen, if_pos rfl]
    · rw [hothers k hki, State.accepts_entryAt_ne hki, hentry, if_neg (Ne.symm hki)]
    · rw [hgens, State.accepts_genAt, hgen, if_neg (Ne.symm hki)]
    · rw [hslc]
      subst hw
      rfl
    · rw [hfp]
      subst hw
      rfl

/-- Settles O47: segments join their slots, and an ALERT binds the slots that wait for it. -/
theorem textSegmentJoinsItsSlot : Obligations.TextSegmentJoinsItsSlot := by
  intro s cfg p rest h hconfig hk hfifo hfresh x
  refine ⟨fun seg i e hkind hread hi he => ?_, fun seg n sl hkind hread hunbound hfind hat hb => ?_,
    fun seg i n e text sl hkind hread hi he hname hupdate htext hstate hfind hat hb => ?_,
    fun hd i hkind hread haction htable hslots hnew hunbound hi hempty hbelow =>
      page_alert_binds h hconfig hk hfifo hfresh hkind hread haction htable hslots hnew hunbound hi hempty hbelow⟩
  · obtain ⟨hlate, hunlisted, htexts⟩ := page_text_of_entry h hk hfifo hfresh hkind hread hi he
    refine ⟨hlate, hunlisted, fun text hname hupdate htext => ?_⟩
    obtain ⟨hcomplete, hmismatch, hopens⟩ := htexts text hname hupdate htext
    refine ⟨hcomplete, hmismatch, fun n hn hstate hcount htwo hslots hused hat hbelow =>
      ⟨hopens n hn hstate hcount htwo hslots hused hat hbelow, fun hstate hcount hone hslots hused hfree _ => ?_⟩⟩
    have htake := State.takeText_single (s := x) hi he hname hupdate htext hstate hcount
      (TextSegment.index_lt_count hread) hone hslots hused hfree
    obtain ⟨hwaits, hleaves⟩ := page_completes (sa := s.sa) h hk hfifo hfresh hkind hread he hname htake
    refine ⟨hwaits, fun hall => ?_⟩
    obtain ⟨t, e', hexec, hnow, hentry, hleft, hsa, hothers, hgens, -⟩ := hleaves hall
    exact ⟨t, e', hexec, hnow, hentry, hleft, hsa, hothers, hgens⟩
  · have hjoins : x.takeText seg = x.joinSlot n seg :=
      (State.takeText_unbound (s := x) hunbound).trans (State.toUnbound_joins (s := x) hfind)
    obtain ⟨hrefuses, hrepeats, hstores⟩ := page_joins h hk hfifo hfresh hkind hread hat hjoins
    exact ⟨hrefuses, hrepeats, fun hcount hgap hused => hstores hcount hgap hused (.inl hb)⟩
  · have hjoins : x.takeText seg = x.joinSlot n seg :=
      (State.takeText_collecting (s := x) hi he hname hupdate).trans
        (State.toCollecting_joins (s := x) htext hstate hfind)
    have hkey : sl.key = seg.key := by
      obtain ⟨sl', hsl', hkey⟩ := State.findSlot_some hfind
      obtain rfl := Option.some.inj (hat.symm.trans hsl')
      exact hkey
    obtain ⟨hrefuses, hrepeats, hstores⟩ := page_joins h hk hfifo hfresh hkind hread hat hjoins
    refine ⟨hrefuses, hrepeats, fun k hcount hgap hused hne hother =>
      hstores hcount hgap hused (.inr ⟨k, hne, hother⟩), fun hcount hgap hused hlast => ?_⟩
    have htake := hjoins.trans
      (State.joinSlot_completes (s := x) hat hkey hb hcount hgap hused hlast hi he htext)
    exact page_completes (sa := { s.sa with slots := s.sa.slots.set n none }) h hk hfifo hfresh hkind hread he hname
      htake

end Sys2Proof.Machine
end

section
/-! Headers that supersede or cancel their entry (R28, R29, R100, R123, R142). -/

namespace Sys2Proof.Machine

/-! ### The relay job ended and the records renewed (R28, R29, R135) -/

theorem endedUnder_relay {p : Participation} {job : Job} (hkind : job.kind = .relay) (e : Entry) (r : RelayRecord) :
    { endedUnder p job e with relay := r } = { e with relay := r } := by
  unfold endedUnder
  rw [hkind]
  dsimp only
  split <;> rfl

section
variable {s : State} {i : Nat} {e : Entry} {h : HeaderSegment} {origin : Origin} {rssi : Option Int}

/-- The entry with a fresh relay record (R123). -/
def Entry.renewed (e : Entry) (h : HeaderSegment) (origin : Origin) (rssi : Option Int) : Entry :=
  { e with relay := freshRelay h.update origin h.hop rssi }

theorem State.relayRenewed_eq (hi : s.slotOf e.id = some i) (he : s.entryAt i = some e) :
    (s.endJob e.id .relay).resetRelay i h origin rssi =
      (s.withSlc (s.slc.ending s.now e.id .relay)).modifyEntry i fun _ => e.renewed h origin rssi := by
  obtain ⟨f, hf, hend⟩ := State.endJob_of_slotOf .relay hi
  have hat : (s.withSlc (s.slc.ending s.now e.id .relay)).entryAt i = some e := he
  rw [hend]
  unfold State.resetRelay State.modifyRelay
  rw [State.modifyEntry_modifyEntry]
  refine State.modifyEntry_congr fun x hx => ?_
  obtain rfl := Option.some.inj (hat.symm.trans hx)
  rcases hf with rfl | ⟨job, hkind, rfl⟩
  · rfl
  · exact endedUnder_relay hkind e _

/-- A tally wait that runs is started anew (R142). -/
def State.rewaited (s : State) (e : Entry) : TallySend :=
  match e.tallySend.state with
  | .waiting _ =>
    if s.al.participation = .full ∧ e.state.name ≠ .expired then
      { e.tallySend with
        state := .waiting (tallyWaitExpiry s.settings.tag e.id.serial e.tallySend.lastSent s.now) }
    else e.tallySend
  | _ => e.tallySend

theorem State.restartTallyWait_eq (he : s.entryAt i = some e) :
    s.restartTallyWait i = s.modifyEntry i fun _ => { e with tallySend := s.rewaited e } := by
  have hkeep : (s.modifyEntry i fun _ => e) = s :=
    State.modifyEntry_self fun f hf => (Option.some.inj (hf.symm.trans he)).symm
  unfold State.restartTallyWait
  rw [he]
  dsimp only
  unfold State.rewaited
  cases hs : e.tallySend.state with
  | waiting w => exact State.startTallyWait_of_entryAt he
  | idle | queued | staged | sending => exact hkeep.symm

end

/-! ### The entry filled anew (R19) -/

section
variable {s : State} {i : Nat} {e : Entry} {h : HeaderSegment} {cfg : Settings} {origin : Origin} {rssi : Option Int}

/-- The entry the header makes, in a state, with the tally, report record and send record of the entry it changes. -/
def State.refilled (s : State) (cfg : Settings) (h : HeaderSegment) (e : Entry) (origin : Origin) (rssi : Option Int)
    (st : EntryState) (send : TallySend) : Entry :=
  { s.firstEntry cfg h origin rssi st with tally := e.tally, lastReported := e.lastReported, tallySend := send }

theorem State.keptEntry_alert (hconfig : s.al.config = some cfg) (haction : h.action = .alert) :
    s.keptEntry cfg h e origin rssi =
      s.refilled cfg h e origin rssi (.collecting (s.now + 300000000)) (s.rewaited e) := by
  unfold State.keptEntry State.refilled State.rewaited
  rw [State.madeEntry_alert haction, haction, State.settings_eq hconfig]
  cases e.tallySend.state <;> rfl

theorem State.keptEntry_cancel (hconfig : s.al.config = some cfg) (haction : h.action = .cancel) :
    s.keptEntry cfg h e origin rssi = s.relayStarted (s.refilled cfg h e origin rssi .cancelled e.tallySend) := by
  unfold State.keptEntry State.refilled
  rw [State.madeEntry_cancel hconfig haction, haction]
  rfl

/-- The fields a taken header fills (R5, R19). -/
theorem State.fill_taken (x : Entry) (hrelay : x.relay = freshRelay h.update origin (min h.hop cfg.hopLimit) rssi)
    (st : EntryState) :
    { x.fill (h.taken cfg.hopLimit) origin (s.category h.category).precedence (areaTest s.positionZone h.zones) s.now with
      state := st } =
      s.refilled cfg h x origin rssi st x.tallySend := by
  have hend : s.now + seconds (60 * min h.lifetime 1440) = s.now + 60000000 * min h.lifetime 1440 := by
    rw [seconds_eq, ← Nat.mul_assoc]
  unfold State.refilled State.firstEntry Entry.fill HeaderSegment.taken
  dsimp only
  rw [hend, hrelay]
  rfl

end

end Sys2Proof.Machine
end

section
/-! What a superseding or cancelling header makes of the state (R27 to R29). -/

namespace Sys2Proof.Machine

section
variable {s : State} {i : Nat} {e : Entry} {h : HeaderSegment} {cfg : Settings} {origin : Origin} {rssi : Option Int}

/-- The relay jobs ended, and the entry filled anew by a cancel (R29, R123). -/
theorem State.refill_cancelled (hi : s.slotOf e.id = some i) (he : s.entryAt i = some e) :
    ((s.endJob e.id .relay).resetRelay i (h.taken cfg.hopLimit) origin rssi).fillEntry i (h.taken cfg.hopLimit) origin
      .cancelled =
      (s.withSlc (s.slc.ending s.now e.id .relay)).modifyEntry i fun _ =>
        s.refilled cfg h e origin rssi .cancelled e.tallySend := by
  rw [State.relayRenewed_eq hi he]
  unfold State.fillEntry
  rw [State.modifyEntry_modifyEntry]
  refine State.modifyEntry_congr fun x _ => ?_
  exact State.fill_taken (s := s) (cfg := cfg) (h := h) (e.renewed (h.taken cfg.hopLimit) origin rssi) rfl .cancelled

/-- The relay jobs ended, the tally wait started anew, and the entry filled by a supersede (R28, R123, R142). -/
theorem State.refill_superseded (hi : s.slotOf e.id = some i) (he : s.entryAt i = some e) (t : Micros) :
    (((s.endJob e.id .relay).resetRelay i (h.taken cfg.hopLimit) origin rssi).restartTallyWait i).fillEntry i
      (h.taken cfg.hopLimit) origin (.collecting t) =
      (s.withSlc (s.slc.ending s.now e.id .relay)).modifyEntry i fun _ =>
        s.refilled cfg h e origin rssi (.collecting t) (s.rewaited e) := by
  have hslc : (s.withSlc (s.slc.ending s.now e.id .relay)).entryAt i = some e := he
  have hrewaited (y : State) (hnow : y.now = s.now) (hal : y.al = s.al) :
      y.rewaited (e.renewed (h.taken cfg.hopLimit) origin rssi) = s.rewaited e := by
    unfold State.rewaited State.settings
    rw [hnow, hal]
    rfl
  rw [State.relayRenewed_eq hi he, State.restartTallyWait_eq (State.entryAt_modifyEntry_same hslc _), hrewaited]
  · unfold State.fillEntry
    rw [State.modifyEntry_modifyEntry, State.modifyEntry_modifyEntry]
    refine State.modifyEntry_congr fun x _ => ?_
    exact State.fill_taken (s := s) (cfg := cfg) (h := h)
      { e.renewed (h.taken cfg.hopLimit) origin rssi with tallySend := s.rewaited e } rfl (.collecting t)
  · rfl
  · rfl

/-- The state after a cancel of the entry `e` of slot `i` (R29). -/
theorem State.cancelEntry_eq (hconfig : s.al.config = some cfg) (haction : h.action = .cancel) (hid : e.id = h.id)
    (hi : s.slotOf h.id = some i) (he : s.entryAt i = some e) :
    s.cancelEntry i e (h.taken cfg.hopLimit) origin rssi =
      State.modifyEntry
        { s with
          slc := s.slc.ending s.now h.id .relay
          sa := { s.sa with slots := h.passedOver s.sa.slots }
          al :=
            if e.presented = true ∧ e.state ≠ .cancelled then s.al.queued (.cancelled ⟨i, s.genAt i⟩) else s.al
          tu := { s.tu with reportQueue := s.reportJoins i (s.keptEntry cfg h e origin rssi) } } i
        fun _ => s.keptEntry cfg h e origin rssi := by
  have hi' : s.slotOf e.id = some i := by rw [hid]; exact hi
  generalize hy : (s.discardSlots fun sl => sl.key.id == e.id && decide (sl.key.update ≤ h.update)) = y
  have hyi : y.slotOf e.id = some i := by subst hy; exact hi'
  have hye : y.entryAt i = some e := by subst hy; exact he
  have hrefill := State.refill_cancelled (h := h) (cfg := cfg) (origin := origin) (rssi := rssi) hyi hye
  have hrefilled : y.refilled cfg h e origin rssi .cancelled e.tallySend =
      s.refilled cfg h e origin rssi .cancelled e.tallySend := by subst hy; rfl
  rw [hrefilled] at hrefill
  generalize hr : s.refilled cfg h e origin rssi .cancelled e.tallySend = r at hrefill
  generalize hal : (if e.presented = true ∧ e.state ≠ .cancelled then s.al.queued (.cancelled ⟨i, s.genAt i⟩)
    else s.al) = al
  generalize hv : ({ y with slc := y.slc.ending y.now e.id .relay, al := al } : State) = v
  have hve : v.entryAt i = some e := by subst hv; exact hye
  have hnotice : (if e.presented = true ∧ e.state ≠ .cancelled then
      ((y.withSlc (y.slc.ending y.now e.id .relay)).modifyEntry i fun _ => r).queueNotice
        (.cancelled (((y.withSlc (y.slc.ending y.now e.id .relay)).modifyEntry i fun _ => r).handleAt i))
      else (y.withSlc (y.slc.ending y.now e.id .relay)).modifyEntry i fun _ => r) = v.modifyEntry i fun _ => r := by
    have hgen : ((y.withSlc (y.slc.ending y.now e.id .relay)).modifyEntry i fun _ => r).genAt i = s.genAt i := by
      refine (State.genAt_modifyEntry _ i i _).trans ?_
      subst hy
      rfl
    unfold State.handleAt
    rw [State.queueNotice_eq, hgen]
    subst hv hal hy
    split <;> rfl
  have hkept : v.relayStarted r = s.keptEntry cfg h e origin rssi := by
    rw [State.keptEntry_cancel hconfig haction, hr]
    have hpart : al.participation = s.al.participation := by
      subst hal
      split <;> rfl
    have hcfg : al.config = s.al.config := by
      subst hal
      split <;> rfl
    subst hv hy
    unfold State.relayStarted State.settings
    dsimp only
    rw [hpart, hcfg]
    rfl
  have hjoins (f : Entry) : v.reportJoins i f = s.reportJoins i f := by
    have hcfg : al.config = s.al.config := by
      subst hal
      split <;> rfl
    refine State.reportJoins_congr ?_ ?_ ?_
    · subst hv
      exact hcfg
    · subst hv hy
      rfl
    · subst hv hy
      rfl
  unfold State.cancelEntry
  dsimp only
  have hdiscard : (s.discardSlots fun sl =>
      sl.key.id == e.id && decide (sl.key.update ≤ (h.taken cfg.hopLimit).update)) = y := hy
  rw [hdiscard, hrefill, hnotice,
    State.startRelay_eq (State.entryAt_modifyEntry_same hve _) (by subst hr; rfl)]
  have hstarted : (v.modifyEntry i fun _ => r).relayStarted r = v.relayStarted r := rfl
  rw [hstarted, hkept, State.modifyEntry_modifyEntry, State.testReportDue_modifyEntry hve, hjoins]
  subst hv hy
  rw [← hid]
  unfold HeaderSegment.passedOver
  rw [← hid]
  rfl

/-- The state after a supersede of the entry `e` of slot `i`, before its slots are bound (R28). -/
def State.superseding (s : State) (i : Nat) (e : Entry) (h : HeaderSegment) (kept : Entry) : State :=
  State.modifyEntry
    { s with
      slc := s.slc.ending s.now h.id .relay
      sa := { s.sa with slots := s.sa.slots.map fun o => o.filter fun sl =>
        !(sl.key.id == h.id && decide (sl.key.update < h.update)) }
      al := if e.presented = true then s.al.queued (.superseded ⟨i, s.genAt i⟩) else s.al } i fun _ => kept

theorem State.supersede_eq (hconfig : s.al.config = some cfg) (haction : h.action = .alert) (hid : e.id = h.id)
    (hi : s.slotOf h.id = some i) (he : s.entryAt i = some e) :
    s.supersede i e (h.taken cfg.hopLimit) origin rssi =
      (s.superseding i e h (s.keptEntry cfg h e origin rssi)).bindSlots i := by
  have hi' : s.slotOf e.id = some i := by rw [hid]; exact hi
  generalize hy : (s.discardSlots fun sl => sl.key.id == e.id && decide (sl.key.update < h.update)) = y
  have hyi : y.slotOf e.id = some i := by subst hy; exact hi'
  have hye : y.entryAt i = some e := by subst hy; exact he
  have hrefill := State.refill_superseded (h := h) (cfg := cfg) (origin := origin) (rssi := rssi) hyi hye
    (s.now + 300000000)
  have hkept : y.refilled cfg h e origin rssi (.collecting (s.now + 300000000)) (y.rewaited e) =
      s.keptEntry cfg h e origin rssi := by
    rw [State.keptEntry_alert hconfig haction]
    subst hy
    rfl
  rw [hkept] at hrefill
  generalize s.keptEntry cfg h e origin rssi = kept at hrefill
  have hnow : (((y.endJob e.id .relay).resetRelay i (h.taken cfg.hopLimit) origin rssi).restartTallyWait i).now =
      s.now := by
    have hfill := congrArg State.now hrefill
    refine Eq.trans hfill ?_
    subst hy
    rfl
  have hgen : ((y.withSlc (y.slc.ending y.now e.id .relay)).modifyEntry i fun _ => kept).genAt i = s.genAt i := by
    refine (State.genAt_modifyEntry _ i i _).trans ?_
    subst hy
    rfl
  unfold State.supersede
  dsimp only
  have hdiscard : (s.discardSlots fun sl =>
      sl.key.id == e.id && decide (sl.key.update < (h.taken cfg.hopLimit).update)) = y := hy
  rw [hdiscard, hnow, seconds_eq, hrefill]
  unfold State.handleAt State.superseding
  rw [State.queueNotice_eq, hgen, ← hid]
  congr 1
  subst hy
  split <;> rfl

end

end Sys2Proof.Machine
end

section
/-! The event of a header that supersedes or cancels its entry, out of either FIFO (R23, R27 to R29). -/

namespace Sys2Proof.Machine

/-! ### Which headers do (R23) -/

theorem classify_cancels {e : Entry} {h : HeaderSegment} (haction : h.action = .cancel) (hcase : e.update < h.update
      ∨ h.update = e.update ∧ e.action = .alert ∧ e.state.name ≠ .cancelled ∧ e.state.name ≠ .expired) :
    classify e h = .cancel := by
  rcases hcase with hlt | ⟨heq, halert, -, hlive⟩
  · unfold classify
    rw [if_pos hlt, haction]
  · rw [classify_live heq hlive, haction, halert]
    rfl

theorem classify_supersedes {e : Entry} {h : HeaderSegment} (haction : h.action = .alert) (hlt : e.update < h.update) :
    classify e h = .supersede := by
  unfold classify
  rw [if_pos hlt, haction]

/-! ### The end of the event -/

theorem State.finish_slc_of_noHead {m : State} (h : m.noHeadTaken) : m.finish.slc.queue = m.slc.queue
    ∧ m.finish.slc.current = m.slc.current ∧ m.finish.slc.stage = m.slc.stage := by
  unfold State.finish
  rw [State.settlePower_queue, State.settlePower_current, State.settlePower_stage, State.sendReport_slc,
    State.takeHead_of_noHeadTaken h]
  exact ⟨rfl, rfl, rfl⟩

section
variable {s : State} {cfg : Settings} {h : HeaderSegment} {i : Nat} {e : Entry} {origin : Origin} {rssi : Option Int}
  {pages : List Page} {frames : List RxFrame}

/-- The entry of a superseded slot, COLLECTING anew (R28). -/
theorem State.superseding_accepted (hconfig : s.al.config = some cfg) (haction : h.action = .alert)
    (he : s.entryAt i = some e) (hslots : s.slotsOk)
    (hunbound : ∀ n sl, s.slotAt n = some sl → sl.key.id = h.id → sl.key.update = h.update → sl.bound = false)
    (hfew : h.texts.length ≤ 4) :
    AcceptedIn s ((s.drained pages frames).superseding i e h (s.keptEntry cfg h e origin rssi)) i h
      (s.keptEntry cfg h e origin rssi) where
  slots := rfl
  entry := State.entryAt_modifyEntry_same (e := e) he _
  id := by rw [State.keptEntry_alert hconfig haction]; rfl
  update := by rw [State.keptEntry_alert hconfig haction]; rfl
  texts := by rw [State.keptEntry_alert hconfig haction]; rfl
  name := by rw [State.keptEntry_alert hconfig haction]; rfl
  slotsOk := hslots
  unbound := hunbound
  few := hfew

theorem changesEntry_cancels {ex : Result} (hconfig : s.al.config = some cfg) (hi : s.slotOf h.id = some i)
    (he : s.entryAt i = some e)
    (hex : ex = .next ((s.drained pages frames).takeHeader (h.taken cfg.hopLimit) origin rssi).finish)
    (haction : h.action = .cancel) (hcase : e.update < h.update
      ∨ h.update = e.update ∧ e.action = .alert ∧ e.state.name ≠ .cancelled ∧ e.state.name ≠ .expired) :
    State.EndsEvent
      (State.modifyEntry
        { s.drained pages frames with
          slc := (s.drained pages frames).slc.ending s.now h.id .relay
          sa := { s.sa with slots := h.passedOver s.sa.slots }
          al :=
            if e.presented = true ∧ e.state ≠ .cancelled then s.al.queued (.cancelled ⟨i, s.genAt i⟩) else s.al
          tu := { s.tu with reportQueue := s.reportJoins i (s.keptEntry cfg h e origin rssi) } } i
        fun _ => s.keptEntry cfg h e origin rssi)
      ex := by
  obtain ⟨f, hf, hid⟩ := s.slotOf_spec hi
  obtain rfl := Option.some.inj (he.symm.trans hf)
  have hcancel := State.cancelEntry_eq (s := s.drained pages frames) (origin := origin) (rssi := rssi) hconfig haction
    hid hi he
  have hjoins : (s.drained pages frames).reportJoins i ((s.drained pages frames).keptEntry cfg h e origin rssi) =
      s.reportJoins i (s.keptEntry cfg h e origin rssi) := State.reportJoins_congr rfl rfl rfl
  rw [hjoins] at hcancel
  rw [hex, State.takeHeader_known (s := s.drained pages frames) hi he, classify_cancels haction hcase]
  dsimp only
  rw [hcancel]
  refine State.endsEvent_finish _ ?_
  unfold State.configured
  rw [State.modifyEntry_al]
  split
  · exact State.configured_of_config (s := s) hconfig
  · exact State.configured_of_config (s := s) hconfig

/-- The statements' account of complete texts reads neither FIFO. -/
theorem State.TextsComplete.of_drained {t : State} {made : Entry} {al : Al}
    (hc : s.TextsComplete { s.drained pages frames with al := al } t i h made) :
    s.TextsComplete { s with al := al } t i h made := hc

/-- What a superseding header leaves before its slots are bound: the slot's entry is the new one, and nothing but the
table, the slots, the Sidelink Controller and the Application Link differs. -/
theorem supersedes_event {ex : Result} (hconfig : s.al.config = some cfg)
    (hi : s.slotOf h.id = some i) (he : s.entryAt i = some e)
    (hex : ex = .next ((s.drained pages frames).takeHeader (h.taken cfg.hopLimit) origin rssi).finish)
    (haction : h.action = .alert) (hlt : e.update < h.update) :
    ex = .next (((s.drained pages frames).superseding i e h (s.keptEntry cfg h e origin rssi)).bindSlots i).finish := by
  obtain ⟨f, hf, hid⟩ := s.slotOf_spec hi
  obtain rfl := Option.some.inj (he.symm.trans hf)
  have hsupersede := State.supersede_eq (s := s.drained pages frames) (origin := origin) (rssi := rssi) hconfig haction
    hid hi he
  have hkept : (s.drained pages frames).keptEntry cfg h e origin rssi = s.keptEntry cfg h e origin rssi := rfl
  rw [hkept] at hsupersede
  rw [hex, State.takeHeader_known (s := s.drained pages frames) hi he, classify_supersedes haction hlt]
  dsimp only
  rw [hsupersede]

/-- The Application Link with the notice of a superseded update that was presented (R28, R190). -/
def State.supersededAl (s : State) (i : Nat) (e : Entry) : Al :=
  if e.presented = true then s.al.queued (.superseded ⟨i, s.genAt i⟩) else s.al

theorem State.supersededAl_participation : (s.supersededAl i e).participation = s.al.participation := by
  unfold State.supersededAl
  split <;> rfl

theorem State.supersededAl_config : (s.supersededAl i e).config = s.al.config := by
  unfold State.supersededAl
  split <;> rfl

/-- A supersede that leaves a text lacking. -/
theorem supersedes_lacking {ex : Result} {w : State} {kept : Entry} (hconfig : s.al.config = some cfg)
    (hex : ex = .next (w.bindSlots i).finish) (hw : (s.drained pages frames).superseding i e h kept = w)
    (ha : AcceptedIn s w i h kept) (hlacks : s.lacksText h) :
    ∃ m : State, s.SlotsBound m i h kept (s.supersededAl i e)
      ∧ m = { s.drained pages frames with
          atc := { s.atc with table := m.atc.table }
          sa := m.sa
          slc := (s.drained pages frames).slc.ending s.now h.id .relay
          al := m.al }
      ∧ (∀ k, k ≠ i → m.entryAt k = s.entryAt k) ∧ (∀ k, m.genAt k = s.genAt k) ∧ m.EndsEvent ex := by
  have hwal : w.al = s.supersededAl i e := by subst hw; rfl
  have hbound := ha.slotsBound
  rw [hwal] at hbound
  rw [ha.waits hlacks] at hex
  have hconfigured : (w.accepts i kept).configured = true := by
    unfold State.configured
    rw [State.accepts_al]
    show Option.isSome w.al.config = true
    rw [hwal, State.supersededAl_config, hconfig]
    rfl
  have heq := State.accepts_eq (s := w) (i := i) (e := kept)
  have hne (k : Nat) (hk : k ≠ i) := State.accepts_entryAt_ne (s := w) (e := kept) hk
  have hgen (k : Nat) := State.accepts_genAt (s := w) (i := i) (e := kept) k
  generalize w.accepts i kept = m at *
  refine ⟨m, hbound, ?_, fun k hk => (hne k hk).trans ?_, fun k => (hgen k).trans ?_, ?_⟩
  · rw [heq]
    subst hw
    rfl
  · subst hw
    exact State.entryAt_modifyEntry_ne hk _
  · subst hw
    exact State.genAt_modifyEntry _ i k _
  · rw [hex]
    exact State.endsEvent_finish m hconfigured

/-- A supersede whose texts are all waiting, where no head is taken. -/
theorem supersedes_complete {ex : Result} {w : State} {kept : Entry} (hs : s.settled = true)
    (hex : ex = .next (w.bindSlots i).finish) (hw : (s.drained pages frames).superseding i e h kept = w)
    (ha : AcceptedIn s w i h kept) (hevery : s.hasEveryText h) {slc : Slc} (hslc : w.slc = slc)
    (hhead : State.noHeadTaken { s.drained pages frames with slc := slc }) :
    ∃ t, ex = .next t ∧ t.now = s.now ∧ s.TextsComplete { s with al := s.supersededAl i e } t i h kept
      ∧ (∀ k, k ≠ i → t.entryAt k = s.entryAt k) ∧ (∀ k, t.genAt k = s.genAt k)
      ∧ t.slc.queue = slc.queue ∧ t.slc.current = slc.current ∧ t.slc.stage = slc.stage
      ∧ t.fp = (s.drained pages frames).fp := by
  have hwal : w.al = s.supersededAl i e := by subst hw; rfl
  have hwgen (k : Nat) : w.genAt k = s.genAt k := by subst hw; exact State.genAt_modifyEntry _ i k _
  have hwne (k : Nat) (hk : k ≠ i) : w.entryAt k = s.entryAt k := by
    subst hw
    exact State.entryAt_modifyEntry_ne hk _
  have hwhead : w.noHeadTaken := State.noHeadTaken_congr (s := { s.drained pages frames with slc := slc }) hslc
    (by rw [hwal, State.supersededAl_participation]; rfl) hhead
  have hreport : w.maySendReport = false := by
    subst hw
    exact State.maySendReport_drained (pages := pages) (frames := frames) hs
  have hdecides : DecidesAs { s.drained pages frames with al := s.supersededAl i e } w := by
    subst hw
    exact ⟨rfl, rfl, rfl, rfl, rfl, rfl⟩
  obtain ⟨hcomplete, e', hleft⟩ := ha.finish_every hevery hdecides (hwgen i) hwhead hreport (by subst hw; rfl)
  have hchead : (w.accepts i kept).noHeadTaken :=
    State.noHeadTaken_congr (s := w) rfl (by rw [ha.al_of_every hevery]) hwhead
  obtain ⟨-, hothers, hgens, hnow, -⟩ := hleft.finish (State.accepts_entryAt ha.entry) hchead
  obtain ⟨hqueue, hcurrent, hstage⟩ := State.finish_slc_of_noHead (hleft.noHeadTaken hchead)
  have hfp := State.finish_fp (w.bindSlots i)
  have hmslc : (w.bindSlots i).slc = slc := by
    rw [hleft.eq]
    exact hslc
  have hmfp : (w.bindSlots i).fp = w.fp := by
    rw [hleft.eq]
    rfl
  have hwfp : w.fp = (s.drained pages frames).fp := by subst hw; rfl
  have hwnow : (w.accepts i kept).now = s.now := by subst hw; rfl
  generalize (w.bindSlots i).finish = t at *
  refine ⟨t, hex, hnow.trans hwnow, hcomplete.of_drained, fun k hk => ?_, fun k => ?_, ?_, ?_, ?_, ?_⟩
  · rw [hothers k hk, State.accepts_entryAt_ne hk, hwne k hk]
  · rw [hgens, State.accepts_genAt, hwgen]
  · rw [hqueue, hmslc]
  · rw [hcurrent, hmslc]
  · rw [hstage, hmslc]
  · rw [hfp, hmfp, hwfp]

/-- A header out of either FIFO that supersedes or cancels its entry. -/
theorem changesEntry {ex : Result} (hs : s.settled = true) (hconfig : s.al.config = some cfg)
    (hi : s.slotOf h.id = some i) (he : s.entryAt i = some e) (hfew : h.texts.length ≤ 4)
    (hex : ex = .next ((s.drained pages frames).takeHeader (h.taken cfg.hopLimit) origin rssi).finish) :
    s.ChangesEntry (s.drained pages frames) ex cfg h i e origin rssi := by
  refine ⟨changesEntry_cancels hconfig hi he hex, fun haction hlt hslots hunbound => ?_⟩
  have ha := State.superseding_accepted (pages := pages) (frames := frames) (origin := origin) (rssi := rssi) hconfig
    haction he hslots hunbound hfew
  have hevent := supersedes_event hconfig hi he hex haction hlt
  exact ⟨supersedes_lacking hconfig hevent rfl ha, fun hevery => supersedes_complete hs hevent rfl ha hevery rfl⟩

end

/-- Settles O49: the entry is filled anew with its tally kept, its relay jobs ended, its slots discarded or bound. -/
theorem supersedeAndCancelKeepTheTally : Obligations.SupersedeAndCancelKeepTheTally := by
  intro s cfg h i e hs hconfig hfresh hi he
  refine ⟨fun p rest hfifo hkind hread => ?_, fun r rest hfifo hoff hsampling hread hsender => ?_⟩
  · exact changesEntry hs hconfig hi he (readHeader_few hread) (page_header hconfig hfifo hfresh hkind hread)
  · exact changesEntry hs hconfig hi he (readHeader_few (readFrame_header hread))
      (rx_header hconfig hfifo hoff hsampling hfresh hread hsender)

end Sys2Proof.Machine
end
